-- ==== Sys2Proof/Word.lean ====
section
/-! DEFINITION. The words of the machine: bytes, 64-bit registers, flits and elements (R10), with the plainest
conversions between bit vectors and numbers. -/

namespace Sys2Proof

/-- One byte (R10). -/
abbrev Byte := BitVec 8

/-- One 64-bit register or scalar word (R10). -/
abbrev Word := BitVec 64

/-- One binary32 or int32 lane of a vector register (R115). -/
abbrev Lane32 := BitVec 32

/-- One 64-byte flit (R213). -/
abbrev Flit := BitVec 512

end Sys2Proof
end

