-- ==== Sys2Proof/Syntax.lean ====
section
/-! DEFINITION. The commands of the GLS-3240: one constructor per row of spec/opcode_table.json, with the operands the
spec gives the operation. The table gives no row any bits, so the operands are the model's reading of each row's rule.
Indices are those of R8: a logical core is 24n + m, a physical core 25n + m, an NME 4n + c, a port 0-11, a tile 0-7. -/

namespace Sys2Proof

/-- A hardware error met by an operation: none, a failed residue check with its stage, array and index (R73, R74), an
uncorrectable error in a register file, core store, instruction cache or queue at an address (PARITY of R155), a
matrix check that exceeds its tolerance (kind 0 row, 1 column, 2 slot; R110), an uncorrectable line of HBM under an
instruction fetch (HBMUE of R155), an access of HBM at a device address whose parity failed a second time (R159), wrong bits that no check meets, as a mask of the first window written (R304), or an error
that stays in the buffers an addition wrote until the release of their handle reads them: a residue failure of lane `place`
(kind 0), a parity error (kind 1) or an access failed twice (kind 2) at address `place` (R73, R198). -/
inductive HwError where
  | none
  | residue (stage array index : Nat)
  | parity (addr : Nat)
  | check (kind array index : Nat)
  | fetch (addr : Nat)
  | retry (addr : Nat)
  | silent (flips : BitVec 96)
  | atRelease (kind place : Nat)
deriving DecidableEq, Repr

/-- The fields of one Fjokakan instruction word beside its class and function (R118), the logical core that executes it, and the
hardware error its fetch, its operands or its datapath meet, `none` on sound hardware (R73, R155). -/
structure Fki where
  core : Nat
  d : BitVec 5
  a : BitVec 5
  b : BitVec 5
  c : BitVec 5
  imm : BitVec 32
  hw : HwError := .none
deriving DecidableEq, Repr

/-- A packet: its 512-bit header flit and its payload flits (R213). -/
structure Packet where
  header : Flit
  payload : List Flit
deriving DecidableEq, Repr

/-- The end of a bring-up stage as its work found it (R470, R472): the warnings (DETAIL code, unit index) in order, and the
failure that ends the bring-up, if any. -/
structure StageReport where
  warnings : List (Nat × Nat)
  failure : Option (Nat × Nat)
deriving DecidableEq, Repr

/-- Where the 54 V input goes (R466, R488): into its operating range, below it while it still feeds the converters, or away. -/
inductive MainInput where
  | inRange
  | sagging
  | lost
deriving DecidableEq, Repr

/-- A received codeword (R203, R204): whether it decoded and whether with corrections, its frame sequence number and CRC, its ten flit slots, and the
sub-nanosecond part of its PCS stamp in 2^-4 ns (R253). -/
structure Frame where
  decodes : Bool
  corrected : Bool
  fseq : BitVec 8
  fcrc : BitVec 12
  slots : List Flit
  phase : Nat
deriving DecidableEq, Repr

/-- What a link-training state found (R212): the mask of lanes that trained (bit 16 the spare lane), the skew of each lane
in 2^-4 ns, and the partner's identity. -/
structure TrainResult where
  lanes : Nat
  skew : List Nat
  node : Nat
  port : Nat
deriving DecidableEq, Repr

/-- A transition of a region clock (R265), or the request of its stop, which CST shows from then on (R264). -/
inductive ClockChange where
  | start
  | stop
  | stopRequested
  | frequency (mhz : Nat)
  | stretched (count : Nat)
deriving DecidableEq, Repr

/-- A request as a mailbox slot or an IMP datagram carries it (R394, R395): operation, tag, the operand words at 0x18 and
0x20, and the payload bytes. -/
structure Datagram where
  op : Nat
  tag : Nat
  word18 : BitVec 64
  word20 : BitVec 64
  payload : List Byte
deriving DecidableEq, Repr

/-- One command of the block: the rows of spec/opcode_table.json in its order. -/
inductive Instr where
  /-- COLD_POWER_ON (R470). Both inputs come into range and the module starts bring-up from stage BS0, with every always-on register taking its Reset value. -/
  | coldPowerOn (badStores : List Nat)
  /-- BRINGUP_STAGE_COMPLETE (R470). A bring-up stage finishes its work, posts its report and the next stage begins. -/
  | bringupStageComplete (report : StageReport)
  /-- BRINGUP_STAGE_TIMEOUT (R470). A bring-up stage exceeds its limit and ends FAILED with its timeout detail code. -/
  | bringupStageTimeout
  /-- MAIN_INPUT_RANGE_CHANGE (R488). The 54 V input enters or leaves its operating range, releasing a BS2 wait or letting rails sag in service. -/
  | mainInputRangeChange (input : MainInput)
  /-- AUX_INPUT_LOSS (R400). The 12 V input falls out of range; ST runs on hold-up, empties the recorder staging queue to flash, then stops and removes main power. -/
  | auxInputLoss
  /-- DISPATCHER_SCAN (R147). At each multiple of 2,000 ns the dispatcher reads the submission table in index order and handles each found entry. -/
  | dispatcherScan
  /-- LAUNCH (R25). At the first core clock edge at or after START the selected cores clear their state and begin executing the image. -/
  | launch (entry : Nat)
  /-- ADD (R119). Scalar add of sA and sB into sD. -/
  | add (x : Fki)
  /-- SUB (R119). Scalar subtract of sB from sA into sD. -/
  | sub (x : Fki)
  /-- MUL (R119). Low 64 bits of the scalar product into sD. -/
  | mul (x : Fki)
  /-- MULHU (R119). High 64 bits of the unsigned scalar product into sD. -/
  | mulhu (x : Fki)
  /-- AND (R119). Bitwise AND of sA and sB into sD. -/
  | and (x : Fki)
  /-- OR (R119). Bitwise OR of sA and sB into sD. -/
  | or (x : Fki)
  /-- XOR (R119). Bitwise XOR of sA and sB into sD. -/
  | xor (x : Fki)
  /-- SHL (R119). Shift sA left by sB[5:0] into sD. -/
  | shl (x : Fki)
  /-- SHR (R119). Logical shift of sA right by sB[5:0] into sD. -/
  | shr (x : Fki)
  /-- SAR (R119). Arithmetic shift of sA right by sB[5:0] into sD. -/
  | sar (x : Fki)
  /-- SLT (R119). Signed less-than of sA and sB, result 0 or 1 into sD. -/
  | slt (x : Fki)
  /-- SLTU (R119). Unsigned less-than of sA and sB, result 0 or 1 into sD. -/
  | sltu (x : Fki)
  /-- MIN (R119). Signed minimum of sA and sB into sD. -/
  | min (x : Fki)
  /-- MAX (R119). Signed maximum of sA and sB into sD. -/
  | max (x : Fki)
  /-- ADDI (R119). Adds the sign-extended immediate to sA into sD. -/
  | addi (x : Fki)
  /-- ANDI (R119). ANDs sA with the zero-extended immediate into sD. -/
  | andi (x : Fki)
  /-- ORI (R119). ORs sA with the zero-extended immediate into sD. -/
  | ori (x : Fki)
  /-- LUI (R119). Places the immediate in the upper 32 bits over the low 32 bits of sA. -/
  | lui (x : Fki)
  /-- MOVI (R119). Writes the sign-extended immediate into sD. -/
  | movi (x : Fki)
  /-- RDSR (R120). Reads a special register into sD. -/
  | rdsr (x : Fki)
  /-- WRSR (R120). Writes sA to a special register, clearing status bits or the MISR under its rules. -/
  | wrsr (x : Fki)
  /-- NOP (R119). Does nothing. -/
  | nop (x : Fki)
  /-- BEQ (R119). Branches if sA equals sB. -/
  | beq (x : Fki)
  /-- BNE (R119). Branches if sA differs from sB. -/
  | bne (x : Fki)
  /-- BLT (R119). Branches if sA is less than sB, signed. -/
  | blt (x : Fki)
  /-- BGE (R119). Branches if sA is at least sB, signed. -/
  | bge (x : Fki)
  /-- BLTU (R119). Branches if sA is less than sB, unsigned. -/
  | bltu (x : Fki)
  /-- BGEU (R119). Branches if sA is at least sB, unsigned. -/
  | bgeu (x : Fki)
  /-- JAL (R119). Writes PC+8 to sD and jumps relative to PC. -/
  | jal (x : Fki)
  /-- JR (R119). Jumps to the address in sA. -/
  | jr (x : Fki)
  /-- BPANY (R119). Branches if predicate pC has any bit set. -/
  | bpany (x : Fki)
  /-- BPNONE (R119). Branches if predicate pC has no bit set. -/
  | bpnone (x : Fki)
  /-- END (R151). Ends the program; the core waits for its engines and fabric instructions to finish. -/
  | endProgram (x : Fki)
  /-- PROGRAM_END_COMPLETE (R151). After END, once all engines are idle and fabric instructions complete, VSTS flags are ORed into HIF_CSTAT, DONESEM signalled and the core becomes IDLE. -/
  | programEndComplete (core : Nat)
  /-- LDS (R119). Loads a 64-bit word of core store into sD. -/
  | lds (x : Fki)
  /-- STS (R119). Stores sD as a 64-bit word to core store. -/
  | sts (x : Fki)
  /-- LDV (R123). Loads up to 64 elements of a tile row into vD, widening exactly. -/
  | ldv (x : Fki)
  /-- STV (R123). Stores vD to a tile row, narrowing under the rounding, SR, OVS and OSC fields. -/
  | stv (x : Fki)
  /-- LDT (R116). Loads a 256-bit tile descriptor from core store and empties its anchor slot. -/
  | ldt (x : Fki)
  /-- STT (R119). Stores a tile descriptor to core store. -/
  | stt (x : Fki)
  /-- TSET (R116). Writes one descriptor field from sA and empties the anchor slot. -/
  | tset (x : Fki)
  /-- VADD (R121). Predicated binary32 vector add. -/
  | vadd (x : Fki)
  /-- VSUB (R121). Predicated binary32 vector subtract. -/
  | vsub (x : Fki)
  /-- VMUL (R121). Predicated binary32 vector multiply. -/
  | vmul (x : Fki)
  /-- VFMA (R66). Unpredicated fused multiply-add vAxvB+vC with one rounding. -/
  | vfma (x : Fki) (hw : HwError)
  /-- VDIV (R69). Correctly rounded vector division. -/
  | vdiv (x : Fki)
  /-- VSQRT (R69). Correctly rounded vector square root. -/
  | vsqrt (x : Fki)
  /-- VMIN (R66). IEEE minimum per lane. -/
  | vmin (x : Fki)
  /-- VMAX (R66). IEEE maximum per lane. -/
  | vmax (x : Fki)
  /-- VABS (R121). Absolute value per lane. -/
  | vabs (x : Fki)
  /-- VNEG (R121). Negation per lane. -/
  | vneg (x : Fki)
  /-- VCEQ (R119). Lane-wise equality compare into predicate pD. -/
  | vceq (x : Fki)
  /-- VCLT (R119). Lane-wise less-than compare into predicate pD. -/
  | vclt (x : Fki)
  /-- VCLE (R119). Lane-wise less-or-equal compare into predicate pD. -/
  | vcle (x : Fki)
  /-- VSEL (R119). Selects vA or vB per lane by predicate pC. -/
  | vsel (x : Fki)
  /-- VBCST (R119). Broadcasts sA[31:0] to every lane of vD. -/
  | vbcst (x : Fki)
  /-- VRED (R122). Sums the 64 lanes by a fixed pairwise tree into sD. -/
  | vred (x : Fki)
  /-- VRCP (R69). Vector reciprocal within 1 ulp. -/
  | vrcp (x : Fki)
  /-- VRSQ (R69). Vector reciprocal square root within 1 ulp. -/
  | vrsq (x : Fki)
  /-- VEXP2 (R69). Vector 2^x within 1 ulp. -/
  | vexp2 (x : Fki)
  /-- VLOG2 (R69). Vector log2 within 1 ulp. -/
  | vlog2 (x : Fki)
  /-- VEXP (R69). Vector e^x within 2 ulp. -/
  | vexp (x : Fki)
  /-- VLN (R69). Vector natural log within 2 ulp. -/
  | vln (x : Fki)
  /-- VSIN (R69). Vector sine within 2 ulp. -/
  | vsin (x : Fki)
  /-- VCOS (R69). Vector cosine within 2 ulp. -/
  | vcos (x : Fki)
  /-- VTANH (R69). Vector tanh within 2 ulp. -/
  | vtanh (x : Fki)
  /-- VSIGM (R69). Vector logistic sigmoid within 2 ulp. -/
  | vsigm (x : Fki)
  /-- VERF (R69). Vector error function within 2 ulp. -/
  | verf (x : Fki)
  /-- VSPLIT (R122). Splits FP32 lanes into BF16 hi in vD and lo in vD+1. -/
  | vsplit (x : Fki)
  /-- VIADD (R119). Vector int32 add. -/
  | viadd (x : Fki)
  /-- VIMUL (R119). Vector int32 multiply, low 32 bits. -/
  | vimul (x : Fki)
  /-- VCVTIF (R119). Converts int32 lanes to binary32. -/
  | vcvtif (x : Fki)
  /-- VCVTFI (R122). Converts binary32 lanes to int32 with saturation; NaN gives 0 and counts CVINV. -/
  | vcvtfi (x : Fki)
  /-- MWLD (R124). Loads a weight block, or a Schuss activation block, into the named plane. -/
  | mwld (x : Fki)
  /-- WEIGHT_LOAD_START (R80). A weight load waiting for a pass to stop reading its plane starts in the cycle after the pass's last product. -/
  | weightLoadStart (core plane : Nat)
  /-- WEIGHT_LOAD_COMPLETE (R79). A weight load reaches cycle 129 and its plane becomes valid for broadcast. -/
  | weightLoadComplete (core plane : Nat)
  /-- MANC (R125). Runs a pre-scan over the activation and weight descriptors and writes the anchor into the output slot. -/
  | manc (x : Fki)
  /-- PRESCAN_COMPLETE (R86). A pre-scan finishes, fills its anchor slot and releases the waiting first pass of its tile. -/
  | prescanComplete (core : Nat)
  /-- MPASS (R85). Issues a matrix pass of M rows or Np columns in the current mode into the named entries. -/
  | mpass (x : Fki)
  /-- MATRIX_PASS_START (R79). A pass held for its plane, anchor scan or scoreboard starts its first broadcast. -/
  | matrixPassStart (core waited : Nat)
  /-- MATRIX_PASS_COMPLETE (R85). A pass writes its last entry, compares its column or slot checks and sets MSTS and the check counters. -/
  | matrixPassComplete (core frzFeed frzDrain frzBoth : Nat) (hw : HwError)
  /-- MDRN (R84). Drains accumulator entries, converting them into a core-store destination. -/
  | mdrn (x : Fki)
  /-- MATRIX_DRAIN_COMPLETE (R84). A drain writes its last converted row and records CVOVF and CVINV in MSTS. -/
  | matrixDrainComplete (core : Nat) (hw : HwError)
  /-- MMODE (R77). Writes the matrix mode word, waiting for a pass in flight and invalidating planes on a change into or out of Schuss. -/
  | mmode (x : Fki)
  /-- MRDMODE (R77). Reads the matrix mode word into sD. -/
  | mrdmode (x : Fki)
  /-- DMAC (R130). Copies the block of tA to tD without conversion. -/
  | dmac (x : Fki)
  /-- DMAC_COMPLETE (R130). A DMAC's last write lands and its semaphore is incremented. -/
  | dmacComplete (core : Nat) (hw : HwError)
  /-- PUT (R131). Sends a local block to a remote HBM address as acknowledged PUT packets. -/
  | put (x : Fki)
  /-- GET (R131). Requests a remote HBM block into a local destination. -/
  | get (x : Fki)
  /-- ACC (R131). Sends ANCH lanes as remote-accumulate packets to a reduction handle. -/
  | acc (x : Fki)
  /-- BCAST (R298). Broadcasts a block along the tree of a broadcast handle, rooted at the issuing module. -/
  | bcast (x : Fki)
  /-- SSIG (R134). Adds sA to a semaphore, saturating and raising SEMOVF on overflow. -/
  | ssig (x : Fki)
  /-- SWAIT (R134). Waits until a semaphore reaches sA, then subtracts it, or times out. -/
  | swait (x : Fki)
  /-- SWAIT_TIMEOUT (R134). A wait's timeout expires first; sD = 1 is written or WAITTO is raised. -/
  | swaitTimeout (core : Nat)
  /-- SSET (R134). Stores sA[31:0] into a semaphore. -/
  | sset (x : Fki)
  /-- SRD (R134). Reads a semaphore into sD. -/
  | srd (x : Fki)
  /-- FENCE (R134). Waits until earlier instructions of the named engines, and optionally fabric instructions, complete. -/
  | fence (x : Fki)
  /-- FENCE_COMPLETE (R134). All instructions a FENCE waits for have completed and CTL resumes. -/
  | fenceComplete (core : Nat)
  /-- GARV (R137). Sends an arrival marker for a handle and stage after the core's earlier ACCs to it have completed. -/
  | garv (x : Fki)
  /-- TRD (R138). Reads the full fabric time of domain A or B into sD. -/
  | trd (x : Fki)
  /-- TWAIT (R139). Holds CTL until fabric time reaches sA. -/
  | twait (x : Fki)
  /-- TWAIT_EXPIRE (R139). Fabric time reaches a TWAIT's target; CTL resumes and sD gets the time read. -/
  | twaitExpire (core : Nat)
  /-- SYLD (R140). Marks a point where the Groomer may run a scheduled screen on the core. -/
  | syld (x : Fki)
  /-- SMARK (R141). Opens or closes a sample region. -/
  | smark (x : Fki)
  /-- SMISR (R313). Folds sA into the MISR in a screening package. -/
  | smisr (x : Fki)
  /-- SRDM (R142). Reads the MISR into sD in a screening package. -/
  | srdm (x : Fki)
  /-- HIF_CEXC0_WRITE (R157). Software clears VALID or MULTI; clearing VALID returns a STOPPED core to IDLE. -/
  | hifCexc0Write (pf : Nat) (core : Nat) (value : BitVec 64)
  /-- FRAME_RECEIVE (R207). A frame is decoded and accepted in order, or discarded with a NAK for replay. -/
  | frameReceive (port : Nat) (frame : Frame)
  /-- LOSS_OF_LOCK (R208). A receiver loses codeword lock for 16 consecutive codewords. -/
  | lossOfLock (port : Nat)
  /-- SER_WINDOW_END (R210). At the end of each 1 ms window a receiver names the lane with most symbol errors as shadow. -/
  | serWindowEnd (port : Nat) (counts : List Nat)
  /-- LANE_FAIL (R210). A lane loses lock or reaches SERTH errors and the spare lane takes its symbols without retraining. -/
  | laneFail (port lane : Nat)
  /-- TRAINING_STATE_COMPLETE (R212). A link-training state finishes its action and the port moves to the next state, MISWIRE or UP. -/
  | trainingStateComplete (port : Nat) (found : TrainResult)
  /-- TRAINING_STATE_TIMEOUT (R212). A training state exceeds its limit; the attempt fails and is counted. -/
  | trainingStateTimeout (port : Nat)
  /-- TRAIN_RETRY (R212). 100 ms after a failed attempt or while MISWIRE, the port re-enters LT0. -/
  | trainRetry (port : Nat)
  /-- RETRAIN (R239). A write of FAB_PORT_CTL.RETRAIN sends the port to LT0. -/
  | retrain (pf port : Nat) (value : BitVec 64)
  /-- PORT_ENABLE_WRITE (R239). A write of FAB_PORT_CTL.EN holds the port DOWN or lets it train. -/
  | portEnableWrite (pf port : Nat) (value : BitVec 64)
  /-- PACKET_TRANSMIT (R219). A waiting packet obtains credits for all its flits on its chosen VC and is sent. -/
  | packetTransmit (port : Nat)
  /-- TRANSIT_PACKET (R222). A packet for another node passes the per-hop checks and is routed adaptively, by escape, across the bridge or by detour. -/
  | transitPacket (port vc : Nat)
  /-- STALL_DROP (R225). A packet waits at the head of its VC for STALL us and is dropped. -/
  | stallDrop (port vc : Nat)
  /-- FLOOD_CREDIT_TIMEOUT (R226). A flood copy gets no output credit within 1 us and is dropped at that port. -/
  | floodCreditTimeout (port : Nat)
  /-- FLOOD_SEEN_EXPIRE (R226). A flood-seen entry expires 200 us after it was made. -/
  | floodSeenExpire (index : Nat)
  /-- PUT_RECEIVE (R228). A PUT at its destination is address-checked, deduplicated, written and acknowledged, incrementing a remote semaphore if enabled. -/
  | putReceive (port vc : Nat)
  /-- GET_REQUEST_RECEIVE (R231). A GET request at its destination is checked and answered with a GET response from HBM. -/
  | getRequestReceive (port vc : Nat)
  /-- GET_RESPONSE_RECEIVE (R230). A GET response is written locally; duplicates for a complete TAG are discarded. -/
  | getResponseReceive (port vc : Nat)
  /-- ACC_RECEIVE (R179). An ACC or marker passes the window and handle checks and its lanes are added or held, then acknowledged. -/
  | accReceive (port vc : Nat) (hw : HwError)
  /-- WINDOW_RELOAD (R180). A spilled window is reloaded for its arriving packet within 1 us. -/
  | windowReload (nme job source : Nat)
  /-- ZERO_CHUNK_COMPLETE (R177). ARM zeroing finishes a chunk and releases ACCs waiting on it. -/
  | zeroChunkComplete (nme handle : Nat)
  /-- MIRROR_RECEIVE (R372). A MIRROR packet is tested against the hosted generation, written, and OPEN or SEAL acted on. -/
  | mirrorReceive (port vc : Nat)
  /-- EACK_RECEIVE (R229). An end-to-end acknowledgement retires sender records, completing instructions or raising HBMADDR. -/
  | eackReceive (port vc : Nat)
  /-- EACK_COALESCE_EXPIRE (R229). The coalescing limit expires or the map fills and the unit sends an EACK. -/
  | eackCoalesceExpire (source job : Nat)
  /-- RETRANSMIT_TIMEOUT (R230). A packet unacknowledged after RTO is resent on the other plane, or given up after RMAX with FABDELIV. -/
  | retransmitTimeout (record : Nat)
  /-- FAB_WITHDRAW_GO (R233). A write of FAB_WITHDRAW.GO announces withdrawal of a fabric tile on its UP ports. -/
  | fabWithdrawGo (pf : Nat) (value : BitVec 64)
  /-- WITHDRAW_RECEIVE (R233). A neighbour receives WITHDRAW and stops routing new packets to the facing port. -/
  | withdrawReceive (port vc : Nat)
  /-- WITHDRAW_T_REACHED (R233). At time T the withdrawing tile accepts no new header and drains. -/
  | withdrawTReached (tile : Nat)
  /-- WITHDRAW_RESET (R233). At T + 2,000 ns packets left in the tile are dropped and the tile enters reset. -/
  | withdrawReset (tile : Nat)
  /-- FAB_NODE_WRITE (R236). A write of FAB_NODE with VALID = 1 latches node and ring sizes, or is refused if invalid. -/
  | fabNodeWrite (pf : Nat) (value : BitVec 64)
  /-- PISTE_WRITE (R497). A write of a piste-table entry takes effect or is refused under the transition table. -/
  | pisteWrite (pf entry : Nat) (half : Bool) (value : BitVec 64)
  /-- QUARANTINE_END (R232). At QEND a QUARANTINE entry becomes invalid. -/
  | quarantineEnd (entry : Nat)
  /-- SLEW_STEP (R245). At each step point 1 ns of remaining slew moves into BASE. -/
  | slewStep (domain : Bool)
  /-- TIME_SET_WRITE (R246). A write of TIME_SET sets a domain, or is refused for domain A while a piste entry is valid. -/
  | timeSetWrite (pf : Nat) (domain : Bool) (value : BitVec 64)
  /-- TIME_RATE_WRITE (R245). A RATE write re-bases the domain at the new rate. -/
  | timeRateWrite (pf : Nat) (domain : Bool) (value : BitVec 64)
  /-- TIME_SLEW_WRITE (R245). A SLEW write sets the remaining slew. -/
  | timeSlewWrite (pf : Nat) (domain : Bool) (value : BitVec 64)
  /-- TIME_CFG_WRITE (R256). A write of ROLE moves a domain to FREE, ACQUIRE or MASTER. -/
  | timeCfgWrite (pf : Nat) (domain : Bool) (value : BitVec 64)
  /-- SYNC (R254). A Sync message's offset is computed, written to PMEAS and fed to the servo on a parent port. -/
  | sync (port vc : Nat)
  /-- FOLLOW_UP (R252). A Follow_Up supplies the origin time of its Sync. -/
  | followUp (port vc : Nat)
  /-- PDELAY_REQ (R252). A Pdelay_Req is answered within 10 us. -/
  | pdelayReq (port vc : Nat)
  /-- PDELAY_RESP (R254). A Pdelay_Resp supplies the responder's receipt time. -/
  | pdelayResp (port vc : Nat)
  /-- PDELAY_RESP_FOLLOW_UP (R254). A Pdelay_Resp_Follow_Up completes an exchange and the port's mean path delay is computed. -/
  | pdelayRespFollowUp (port vc : Nat)
  /-- ANNOUNCE (R256). An Announce supplies grandmaster data; a new GMNODE sends the domain to HOLDOVER. -/
  | announce (port vc : Nat)
  /-- SYNC_SEND_TIMER (R252). A LOCKED or MASTER domain sends Sync, Follow_Up and periodically Announce. -/
  | syncSendTimer (domain : Bool)
  /-- PDELAY_SEND_TIMER (R252). Every UP port sends a Pdelay_Req every 2^LOGPD s. -/
  | pdelaySendTimer (port : Nat)
  /-- PDELAY_TIMEOUT (R252). An exchange without complete response in 10 ms counts TIME_PD_FAIL. -/
  | pdelayTimeout (port : Nat)
  /-- FOLLOW_UP_TIMEOUT (R252). A follow-up without matching message within 1 ms is discarded. -/
  | followUpTimeout (port : Nat)
  /-- SYNC_LOSS_TIMEOUT (R256). LOSS Sync intervals pass without an accepted Sync and the domain enters HOLDOVER. -/
  | syncLossTimeout (domain : Bool)
  /-- SWITCH_SLEW (R260). TIME_SWITCH GO with METHOD 0 slews A toward B. -/
  | switchSlew (pf : Nat)
  /-- SWITCH_MEET (R260). TIME_SWITCH GO with METHOD 1 steps A forward or holds it until B meets it. -/
  | switchMeet (pf : Nat)
  /-- SWITCH_COMPLETE (R260). A and B differ by at most 1 ns; A takes B's parameters and state. -/
  | switchComplete
  /-- TIME_PACKET (R263). A flooded TIME packet schedules a global stop or recorder freeze at T. -/
  | timePacket (port vc : Nat)
  /-- CLOCK_REGION_TRANSITION (R265). A region clock starts, stops or changes frequency and is stamped and recorded. -/
  | clockRegionTransition (kind index : Nat) (change : ClockChange)
  /-- STRETCH_TOTAL_REPORT (R265). A region's stretch total is recorded at most once per millisecond. -/
  | stretchTotalReport (kind index : Nat)
  /-- GATE_LOAD (R273). GATE_LOAD.GO loads and validates a Gate step record and arms its handles. -/
  | gateLoad (pf : Nat) (value : BitVec 64)
  /-- GATE_LOAD_COMPLETE (R273). Every NME has latched the handles and the slot enters OPEN. -/
  | gateLoadComplete (slot : Nat)
  /-- MARKER_RECEIVE (R277). The coordinator classifies and counts an arrival marker, completing contributors. -/
  | markerReceive
  /-- DECISION_INSTANT (R280). A handle's latest deadline plus 2 us passes and it is decided and released. -/
  | decisionInstant (slot index : Nat)
  /-- RELEASE_COMPLETE (R184). An NME finishes a release; a forward's marker is sent or the staged update finishes. -/
  | releaseComplete (nme handle : Nat)
  /-- OPTIMIZER_COMPLETE (R188). Every NME of a handle has written its staged values and STAGED is set. -/
  | optimizerComplete (slot index : Nat)
  /-- COMMIT_TEST (R287). At TC each member tests masks, totals and staging, and sends a hold notice if any fails. -/
  | commitTest (slot : Nat)
  /-- HOLD (R288). A received hold notice counts for its slot or is discarded. -/
  | hold (port vc : Nat)
  /-- COMMIT_POINT (R289). At TC + 40 us the slot aborts, skips, holds or commits with a bank flip and broadcast. -/
  | commitPoint (slot : Nat)
  /-- RESOLVE_COMMIT (R290). GATE_RESOLVE COMMIT flips and broadcasts a HELD slot, or is refused if unstaged. -/
  | resolveCommit (pf slot : Nat)
  /-- RESOLVE_SKIP (R290). GATE_RESOLVE SKIP discards the staged bank of a HELD slot. -/
  | resolveSkip (pf slot : Nat)
  /-- RESOLVE_ABORT (R290). GATE_RESOLVE ABORT sends an ABORT for the HELD step and abandons the slot. -/
  | resolveAbort (pf slot : Nat)
  /-- CONVERSION_COMPLETE (R295). An owner's working conversions finish, its own region counts as arrived and BCAST packets are sent. -/
  | conversionComplete (slot : Nat)
  /-- BCAST_RECEIVE (R295). A BCAST packet is deduplicated, written, forwarded to children and counted toward arrival. -/
  | bcastReceive (port vc : Nat)
  /-- BACK (R296). A broadcast acknowledgement RECEIVED or DONE is merged; the root may re-send to orphans. -/
  | back (port vc : Nat)
  /-- BROADCAST_RECEIVED_TIMEOUT (R296). A child sends no RECEIVED within BTO and is declared failed. -/
  | broadcastReceivedTimeout (tree child : Nat)
  /-- BROADCAST_DONE_TIMEOUT (R296). A child sends no DONE within BTOD and is declared failed. -/
  | broadcastDoneTimeout (tree child : Nat)
  /-- STATCLR (R299). GATE_CTL.STATCLR zeroes the arrival statistics table. -/
  | statclr (pf : Nat) (value : BitVec 64)
  /-- ABORT_RECEIVE (R348). An accepted ABORT abandons slots and stops the job's programs at and after its step. -/
  | abortReceive (port vc : Nat)
  /-- NME_RING_SCAN (R193). At each multiple of 2,000 ns an NME scans its command ring. -/
  | nmeRingScan (nme : Nat)
  /-- ARM (R177). Latches a handle, sets STEP, JOB, EPOCH and ARMED, routes it and zeroes its areas. -/
  | arm (nme : Nat)
  /-- DISARM (R194). Clears ARMED on a handle. -/
  | disarm (nme : Nat)
  /-- CVTW (R189). Converts committed theta into a working-format region. -/
  | cvtw (nme : Nat)
  /-- CKCVT (R190). Writes a shard image with exact theta and block-scaled moments. -/
  | ckcvt (nme : Nat)
  /-- CBWARM (R191). Arms copy-before-write protection on a bank. -/
  | cbwarm (nme : Nat)
  /-- CBWEND (R191). Ends copy-before-write protection. -/
  | cbwend (nme : Nat)
  /-- HASH (R192). Computes SHA-384 per 64 KiB granule of a range. -/
  | hash (nme : Nat)
  /-- SCRUBNOW (R194). Patrols a range immediately. -/
  | scrubnow (nme : Nat)
  /-- ZERO (R194). Writes zeros with POISON clear over a range. -/
  | zero (nme : Nat)
  /-- NME_COMMAND_COMPLETE (R193). A ring command finishes, writes STATE and RESULT and signals its semaphore. -/
  | nmeCommandComplete (nme : Nat)
  /-- SCRUB_READ (R170). The patrol reads the next line and handles it under the ECC rules. -/
  | scrubRead (nme errs : Nat)
  /-- HBM_TEMP_SAMPLE (R159). Each stack's temperature is read every 1 ms into NME_STAT.TEMP. -/
  | hbmTempSample (nme : Nat) (celsius : Int)
  /-- ECS_COUNT_READ (R159). On-die ECC counts are read every 1 s and recorded as corrected events. -/
  | ecsCountRead (nme : Nat) (count : Nat)
  /-- NME_WSPILL_BASE_WRITE (R181). A write of NME_WSPILL_BASE rechecks spill-table placement and NOSPILL. -/
  | nmeWspillBaseWrite (pf nme : Nat) (value : BitVec 64)
  /-- QUICK_SCREEN_TIMER (R314). A usable core's QUICK run falls due every QPER minutes. -/
  | quickScreenTimer (phys : Nat)
  /-- HB_TIMER (R315). An HB run falls due every HBPER ms. -/
  | hbTimer (phys : Nat)
  /-- SECTION_RUN_COMPLETE (R312). A screening section reaches END; its MISR is compared and the core's state restored. -/
  | sectionRunComplete (phys : Nat) (misr : BitVec 64)
  /-- SECTION_TIMEOUT (R312). A section does not reach END within its TLIM and fails. -/
  | sectionTimeout (phys : Nat)
  /-- SAMPLE_REEXEC_COMPLETE (R317). A captured pass's re-execution digest is compared; a difference is a SAMPLE detection. -/
  | sampleReexecComplete (tile slot : Nat) (digest : BitVec 64)
  /-- SAMPLE_TIMEOUT (R317). A capture not re-executed within 60 s is dropped. -/
  | sampleTimeout (tile slot : Nat)
  /-- TRANSIENT_EXPIRE (R310). A counted transient expires TWIN hours after counting. -/
  | transientExpire (phys : Nat)
  /-- TILE_CORR_WINDOW_EXPIRE (R325). A CORRW window closes and correlated charges become a tile event. -/
  | tileCorrWindowExpire (tile : Nat)
  /-- SCREEN (R329). GRM_CMD SCREEN runs FULL on one physical core. -/
  | screen (pf : Nat) (value : BitVec 64)
  /-- MODSCREEN (R308). GRM_CMD MODSCREEN runs FULL on every usable core. -/
  | modscreen (pf : Nat) (value : BitVec 64)
  /-- RCMP (R308). GRM_CMD RCMP compares a repeat area with both hold buffers. -/
  | rcmp (pf : Nat) (value : BitVec 64)
  /-- GRM_CMD_COMPLETE (R329). A Groomer command ends with RESULT and ERR and records event 0x00B. -/
  | grmCmdComplete
  /-- GRM_PROB_WRITE (R324). A write of GRM_PROB sets module probation and clears MODSUSP. -/
  | grmProbWrite (pf : Nat) (value : BitVec 64)
  /-- PROGRESS_WATCHDOG (R336). An engine makes no progress for RETWD us; fault 0x30. -/
  | progressWatchdog (core engine : Nat)
  /-- WAIT_WATCHDOG (R336). A FENCE or wait overruns its limit; fault 0x31. -/
  | waitWatchdog (core : Nat)
  /-- NME_WATCHDOG (R336). An NME makes no progress for NMEWD us; fault 0x32. -/
  | nmeWatchdog (nme : Nat)
  /-- FABRIC_TILE_WATCHDOG (R336). A fabric tile sends nothing for FTWD us; fault 0x33. -/
  | fabricTileWatchdog (tile : Nat)
  /-- DEBUG_PORT_TIMEOUT (R340). A debug port does not answer within 10 us and is marked not-captured. -/
  | debugPortTimeout (entry part : Nat)
  /-- CAPTURE_COMPLETE (R341). The pre-reset capture of a domain finishes and its reset starts. -/
  | captureComplete (entry : Nat)
  /-- DRAIN_WINDOW_CLOSE (R335). 2 us after reset start, undrained traffic is dropped. -/
  | drainWindowClose (entry dropped : Nat)
  /-- NME_ABSORB_TIMEOUT (R334). ACCs held at the fabric tile for a resetting NME are processed after 50 us. -/
  | nmeAbsorbTimeout (nme : Nat)
  /-- RESET_COMPLETE (R332). A domain's reset ends and its units return to service. -/
  | resetComplete (entry absorbed : Nat)
  /-- WAIT_FOR_GRAPH_BUILT (R343). Isrek writes the wait-for graph of a capture and records its first root. -/
  | waitForGraphBuilt (slot : Nat)
  /-- RST_REQ (R358). RST_REQ.GO requests a reset of a domain, optionally with ABORT. -/
  | rstReq (pf : Nat) (value : BitVec 64)
  /-- RST_ISOL_WRITE (R353). A write of RST_ISOL starts or ends an isolation trial. -/
  | rstIsolWrite (pf : Nat) (value : BitVec 64)
  /-- CKP_REQUESTED_TIME (R365). Fabric time reaches CKP_REQ.T and triggers a checkpoint. -/
  | ckpRequestedTime
  /-- EW_MONITOR_EVAL (R366). Isrek evaluates early-warning monitors and may trigger a checkpoint; it observes the registers of
  the state, and nothing besides. -/
  | ewMonitorEval (observed : Unit)
  /-- TAKE (R365). CKP_CMD TAKE triggers a checkpoint. -/
  | take (pf : Nat) (value : BitVec 64)
  /-- VERIFY (R373). CKP_CMD VERIFY checks a generation and writes VCODE. -/
  | verify (pf : Nat) (value : BitVec 64)
  /-- RESTORE (R374). CKP_CMD RESTORE rebuilds the banks of a step from one generation. -/
  | restore (pf : Nat) (value : BitVec 64)
  /-- NOCOMMON (R375). CKP_CMD NOCOMMON records that no common step exists. -/
  | nocommon (pf : Nat) (value : BitVec 64)
  /-- RELEASE (R374). CKP_CMD RELEASE clears ASIDE and invalidates a generation. -/
  | release (pf : Nat) (value : BitVec 64)
  /-- MIRROR (R372). CKP_CMD MIRROR restarts the mirror stream from OPEN. -/
  | mirror (pf : Nat) (value : BitVec 64)
  /-- CKP_SWEEP_COMPLETE (R367). Every NME finishes sweep and hashing; the manifest is written and signing begins. -/
  | ckpSweepComplete
  /-- CKP_SIGN_COMPLETE (R367). The manifest is signed, the generation becomes SIGNED and mirroring opens. -/
  | ckpSignComplete
  /-- HOST_VERIFY_COMPLETE (R372). A host finishes verifying a sealed generation and sets VERIFIED or INVALID. -/
  | hostVerifyComplete (gen : Nat)
  /-- CKP_COMMAND_COMPLETE (R378). A CKP_CMD finishes and writes ERR. -/
  | ckpCommandComplete
  /-- MANAGEMENT_CYCLE (R382). Each millisecond the active controller reads sensors, handles mailbox and frames and sends its state copy. -/
  | managementCycle (check : Nat) (overrun : Bool)
  /-- STATE_COPY_RECEIVE (R382). The standby checks, acknowledges and applies a state copy. -/
  | stateCopyReceive (good : Bool)
  /-- STANDBY_STALE (R382). Three cycles without a good copy make the standby STALE. -/
  | standbyStale
  /-- ISK_WATCHDOG_EXPIRE (R383). A controller's watchdog is not serviced for 1.5 ms. -/
  | iskWatchdogExpire (controller : Nat)
  /-- ISK_SUPPLY_LOSS (R383). A controller's supply branch loses power-good. -/
  | iskSupplyLoss (controller : Nat)
  /-- HEARTBEAT_LAPSE (R384). The owner's heartbeat lapses for 2.5 ms. -/
  | heartbeatLapse
  /-- OWNERSHIP_CLAIM (R384). A controller claims the arbiter and succeeds or fails. -/
  | ownershipClaim (controller : Nat)
  /-- BOOT_PREFER_TIMEOUT (R384). The preferred controller is still in BOOT 500 ms after the other completes. -/
  | bootPreferTimeout
  /-- DIAGNOSIS_COMPLETE (R386). A FAILED controller's diagnosis passes or fails. -/
  | diagnosisComplete (controller : Nat) (pass : Bool) (check : Nat)
  /-- SENSOR_SAMPLE (R388). A sensor reading is taken and compared with its limits. -/
  | sensorSample (sensor : Nat) (reading : Int)
  /-- SENSOR_INVALID_TIMEOUT (R387). A sensor gives no valid reading for 10 ms. -/
  | sensorInvalidTimeout (sensor : Nat)
  /-- SENSOR_CLEAR_TIMEOUT (R388). A tripped sensor stays within limits for 100 ms and its flag clears. -/
  | sensorClearTimeout (sensor : Nat)
  /-- THERMAL_CLOCK_STEP (R390). A cluster's thermal clock falls or rises by 100 MHz. -/
  | thermalClockStep (cluster : Nat)
  /-- THERMAL_TRIP (R391). A junction above 110 °C for 1 ms removes main-domain power. -/
  | thermalTrip (sensor : Nat)
  /-- MGMT_PORT_LINK_CHANGE (R392). A management port goes up or down. -/
  | mgmtPortLinkChange (port : Nat) (up : Bool)
  /-- IMP_DATAGRAM_RECEIVE (R392). An IMP request datagram is received on a management port. -/
  | impDatagramReceive (port : Nat) (datagram : Datagram)
  /-- INFO (R395). Returns identification, status, MACs and versions. -/
  | info (src : Nat) (request : Datagram)
  /-- RDREG (R395). Returns up to 64 register values read in one cycle. -/
  | rdreg (src : Nat) (request : Datagram)
  /-- WRREG (R395). Writes up to 64 registers in order. -/
  | wrreg (src : Nat) (request : Datagram)
  /-- RDREC (R395). Returns up to 62 recorder records from a SEQ. -/
  | rdrec (src : Nat) (request : Datagram)
  /-- CLRREC (R404). A doubly signed clear of the recorder store. -/
  | clrrec (src : Nat) (request : Datagram)
  /-- SENSORS (R395). Returns every valid sensor sampled in one cycle. -/
  | sensors (src : Nat) (request : Datagram)
  /-- FREEZE (R395). Writes T into REC_FREEZE. -/
  | freeze (src : Nat) (request : Datagram)
  /-- SWAP (R395). Orderly handover to a STANDBY controller. -/
  | swap (src : Nat) (request : Datagram)
  /-- SIGNED (R443). Delivers a fragment of a signed command envelope; verification starts when complete. -/
  | signed (src : Nat) (request : Datagram)
  /-- OWNERSET (R444). Installs or replaces an owner slot. -/
  | ownerset (src : Nat) (request : Datagram)
  /-- OWNERDEL (R444). Removes an owner slot. -/
  | ownerdel (src : Nat) (request : Datagram)
  /-- REVOKE (R444). Blows KEPOCH fuses up to a value. -/
  | revoke (src : Nat) (request : Datagram)
  /-- SVNCOMMIT (R444). Blows SVN fuses of a type up to a value. -/
  | svncommit (src : Nat) (request : Datagram)
  /-- KEYINST (R444). Installs another module's DevID keys. -/
  | keyinst (src : Nat) (request : Datagram)
  /-- KEYDEL (R444). Removes an installed module key. -/
  | keydel (src : Nat) (request : Datagram)
  /-- CORESET (R323). Returns a core to RESCREEN at a level or lowers a tile floor. -/
  | coreset (src : Nat) (request : Datagram)
  /-- SPDM (R447). Carries an SPDM message through the mailbox or IMP. -/
  | spdm (src : Nat) (request : Datagram)
  /-- GET_VERSION (R447). SPDM version query. -/
  | getVersion (src : Nat) (request : Datagram)
  /-- GET_CAPABILITIES (R447). SPDM capability query. -/
  | getCapabilities (src : Nat) (request : Datagram)
  /-- NEGOTIATE_ALGORITHMS (R447). SPDM algorithm negotiation. -/
  | negotiateAlgorithms (src : Nat) (request : Datagram)
  /-- GET_DIGESTS (R447). SPDM certificate digests. -/
  | getDigests (src : Nat) (request : Datagram)
  /-- GET_CERTIFICATE (R447). SPDM certificate chain read. -/
  | getCertificate (src : Nat) (request : Datagram)
  /-- CHALLENGE (R447). SPDM challenge signed with Alias. -/
  | challenge (src : Nat) (request : Datagram)
  /-- GET_MEASUREMENTS (R447). SPDM signed measurement blocks. -/
  | getMeasurements (src : Nat) (request : Datagram)
  /-- GET_MD_SIG (R448). Returns the ML-DSA-65 signature of the latest signed response. -/
  | getMdSig (src : Nat) (request : Datagram)
  /-- GET_MD_CERT (R448). Returns part of the ML-DSA-65 chain. -/
  | getMdCert (src : Nat) (request : Datagram)
  /-- SPDM_UNSUPPORTED_REQUEST (R447). An unsupported SPDM request is answered with ERROR UnsupportedRequest. -/
  | spdmUnsupportedRequest (src : Nat) (request : Datagram)
  /-- FWSTAGE_BEGIN (R449). Erases the idle bank or Groomer package area. -/
  | fwstageBegin (src : Nat) (request : Datagram)
  /-- FWSTAGE_DATA (R449). Writes payload at an offset of the staging area. -/
  | fwstageData (src : Nat) (request : Datagram)
  /-- FWSTAGE_FINISH (R449). Verifies every envelope of the area and stages the bank or activates the package. -/
  | fwstageFinish (src : Nat) (request : Datagram)
  /-- FWSTAGE_CANCEL (R449). Cancels an open staging. -/
  | fwstageCancel (src : Nat) (request : Datagram)
  /-- NETCFG (R395). Configures addresses, DHCP and NTP of the management ports. -/
  | netcfg (src : Nat) (request : Datagram)
  /-- CALIO_READ (R479). Returns bytes of the calibration set in flash. -/
  | calioRead (src : Nat) (request : Datagram)
  /-- CALIO_OPEN (R479). Copies the calibration set into a staging copy. -/
  | calioOpen (src : Nat) (request : Datagram)
  /-- CALIO_WRITE (R479). Writes payload into the staging copy. -/
  | calioWrite (src : Nat) (request : Datagram)
  /-- CALIO_CAPTURE (R479). Captures current values of a section into the staging copy. -/
  | calioCapture (src : Nat) (request : Datagram)
  /-- CALIO_COMMIT (R479). Checks and writes the staging copy to flash. -/
  | calioCommit (src : Nat) (request : Datagram)
  /-- CALIO_CANCEL (R479). Discards the staging copy. -/
  | calioCancel (src : Nat) (request : Datagram)
  /-- REPORT (R395). A request with OP REPORT is refused with ERR 1. -/
  | report (src : Nat) (request : Datagram)
  /-- MAILBOX_COMMAND_COMPLETE (R394). A long mailbox command such as CLRREC, FWSTAGE BEGIN or CALIO COMMIT finishes and its slot is completed. -/
  | mailboxCommandComplete (src : Nat)
  /-- RECORDER_FREEZE_BEGIN (R403). At T records stamped at or after T are held in the freeze buffer. -/
  | recorderFreezeBegin
  /-- RECORDER_FREEZE_END (R403). An ACT 3 at a later T ends the freeze and held records are written. -/
  | recorderFreezeEnd
  /-- FREEZE_MAX_EXPIRE (R403). FRZMAX seconds after T the freeze ends. -/
  | freezeMaxExpire
  /-- THAW (R403). REC_CTL.THAW ends the freeze in progress. -/
  | thaw (pf : Nat) (value : BitVec 64)
  /-- FLASH_DRAIN (R400). The staging queue drains records to flash. -/
  | flashDrain (count : Nat)
  /-- COUNTER_WRAP (R417). A programmable counter wraps, carrying into its chained partner or setting its overflow bit. -/
  | counterWrap (unit index : Nat)
  /-- PMC_COUNTER_WRITE (R417). A software write sets a counter, plus same-cycle increments. -/
  | pmcCounterWrite (pf offset : Nat) (value : BitVec 64) (same : Nat)
  /-- TRC_CTL_WRITE (R425). A write of TRC_CTL; clearing EN writes END. -/
  | trcCtlWrite (pf core : Nat) (value : BitVec 64)
  /-- TRC_RING_WRITE (R425). A write of TRC_RBASE or TRC_RSIZE zeroes TRC_RWR and TRC_RRD. -/
  | trcRingWrite (pf core : Nat) (base : Bool) (value : BitVec 64)
  /-- TRACE_DRAIN_BLOCK (R422). A full block or a 100 us-old partial block is copied to the HBM ring. -/
  | traceDrainBlock (core : Nat)
  /-- GSTOP_REQUEST_WRITE (R428). A write of TRC_GSTOP_T schedules a global stop. -/
  | gstopRequestWrite (pf : Nat) (value : BitVec 64)
  /-- GLOBAL_STOP (R429). At T units in scope stop at item boundaries within 64 cycles. -/
  | globalStop
  /-- GLOBAL_STOP_CAPTURE_COMPLETE (R433). The full capture of a global stop is written as a dump with part 6. -/
  | globalStopCaptureComplete
  /-- DUMP_COMPLETE (R427). Parts 4-6 of a dump are written, COMPLETE set and held trace buffers released. -/
  | dumpComplete (slot : Nat)
  /-- LINK_UP (R463). The PCI Express link reaches L0; latched interrupt causes are sent. -/
  | linkUp (rate width : Nat)
  /-- LINK_DOWN (R463). The PCI Express link goes down, losing requests in flight. -/
  | linkDown
  /-- PERST_ASSERT (R463). PERST# resets PCI Express state, HIF_APER and HIF_IRQ_EN. -/
  | perstAssert
  /-- HOT_RESET (R463). A hot reset resets PCI Express state of the link. -/
  | hotReset
  /-- FUNCTION_LEVEL_RESET (R463). An FLR resets one function's PCI Express state only. -/
  | functionLevelReset (pf : Nat)
  /-- REGISTER_WRITE (R460). A BAR0 write to a register without a row of its own, performed or refused. -/
  | registerWrite (pf offset bytes : Nat) (values : List (BitVec 64))
  /-- HIF_APER_WRITE (R461). Moves the BAR2 window for later requests. -/
  | hifAperWrite (pf : Nat) (value : BitVec 64)
  /-- BAR2_WRITE (R461). A BAR2 write lands in HBM in order, or is refused if unbacked. -/
  | bar2Write (pf offset : Nat) (data : List Byte)
  /-- BAR2_READ (R461). A BAR2 read returns HBM data, 0xFF for unbacked or poisoned data on error. -/
  | bar2Read (pf offset bytes : Nat)
  /-- OFFLINE_GO (R468). HIF_OFFLINE.GO withdraws both fabric tiles, or is refused if a piste entry is ACTIVE. -/
  | offlineGo (pf : Nat) (value : BitVec 64)
  /-- OFFLINE_POWER_REMOVE (R468). At T + 2,000 ns main power is removed, staging flushed and READY set. -/
  | offlinePowerRemove
  /-- FABRIC_TILE_INTERNAL_ERROR (R333). A fabric tile suffers an internal uncorrectable error (cause 0x34) and is reset unplanned, silencing its transmitters at once. -/
  | fabricTileInternalError (tile : Nat)
  /-- ILLEGAL_INSTRUCTION (R119). A fetched instruction word with a reserved class, function or SR number raises ILLEGAL and stops the core. -/
  | illegalInstruction (core : Nat) (word : BitVec 64)
  /-- REGISTER_READ (R460). A BAR0 read is performed, or refused and counted with HIF_REFUSE set, and a counter read updates PMC_LASTT for its function. -/
  | registerRead (pf offset bytes : Nat)
deriving DecidableEq, Repr

end Sys2Proof
end

