-- ==== Sys2Proof/Decode.lean ====
section
/-! DEFINITION. Commands spelled by words. The table of the hardware gives no row any bits (every row's list of fields is empty),
so no word spells a command. -/

namespace Sys2Proof

/-- The command a word of the table's bits spells: the table gives no row bits, so none does. -/
def decodeTableWord (_nbits _w : Nat) : Option Instr := none

end Sys2Proof
end

