-- ==== Sys2Proof/Config.lean ====
section
/-! DEFINITION. What an implementation fixes and the spec leaves open: free values, as constants without a body, and the
contents of fuses and flash of one module. Nothing can be proved of a constant's value. -/

namespace Sys2Proof

/-- A fresh number wherever the spec leaves a value open, one for each use, numbered by State's counter. The unit that uses
it takes as many low bits as the value has. -/
opaque Config.freeValue : Nat → Nat

/-- Which of the binary32 values within the error bound of R69 a vector function gives, by function (0x10 VRCP to 0x1A VERF) and
operand: the manual does not give the coefficient tables that fix it. -/
opaque Config.vectorFunction : Nat → BitVec 32 → BitVec 32

/-- Spare rows of each HBM bank for in-service repair (R171): the manual gives no number. -/
opaque Config.spareRows : Nat

/-- The management ports for which a NETCFG payload sets a report destination, bit p for port p (R395, R471): the manual does not
lay the payload out. -/
opaque Config.reportPorts : List Byte → Nat

/-! ### Keys and signatures (R435-R439)

The manual gives no fuse contents, and names the signature algorithms without defining them: public keys, signatures and
verification are constants. A key pair is named by the info string it is derived with. -/

/-- The Ed25519 public key derived from UDS with an info string. -/
opaque Config.keyEd : List Byte → BitVec 256

/-- The ML-DSA-65 public key derived from UDS with an info string. -/
opaque Config.keyMd : List Byte → BitVec 15616

/-- The Ed25519 signature of a message with a derived key. -/
opaque Config.signEd : List Byte → List Byte → BitVec 512

/-- The ML-DSA-65 signature of a message with a derived key. -/
opaque Config.signMd : List Byte → List Byte → BitVec 26472

/-- Whether an Ed25519 signature of a message verifies with a public key: key, message, signature. -/
opaque Config.verifyEd : List Byte → List Byte → List Byte → Bool

/-- Whether an ML-DSA-65 signature of a message verifies with a public key. -/
opaque Config.verifyMd : List Byte → List Byte → List Byte → Bool

/-- The DevID key bytes PKED and PKMD that a certificate chain of another module carries (R444). -/
opaque Config.chainKeys : List Byte → List Byte

/-- A certificate chain of this module by algorithm (0 Ed25519, 1 ML-DSA-65) and Alias key bytes (R438). -/
opaque Config.certChain : Nat → List Byte → List Byte

/-- The digest of an image as shipped, by TYPE (R446). -/
opaque Config.shippedDigest : Nat → BitVec 384

/-- The fused hash VKH of a vendor key slot (R435). -/
opaque Config.vendorHash : Nat → BitVec 384

end Sys2Proof
end

