-- ==== Sys2Proof/Machine/Bits.lean ====
section
/-! DEFINITION. Bit fields, sign extension, byte order and the checksums that more than one unit uses: little-endian
bytes (R10, R17), CRC-16 and CRC-32C of the headers and images. -/

namespace Sys2Proof.Machine

/-- Bits [lo + width - 1 : lo] of a number. -/
def bits (x lo width : Nat) : Nat := (x >>> lo) % 2 ^ width

/-- One bit of a number. -/
def bit (x i : Nat) : Bool := (x >>> i) % 2 == 1

/-- The number with bits [lo + width - 1 : lo] replaced by the low bits of `v`. -/
def setBits (x lo width v : Nat) : Nat :=
  x - (bits x lo width <<< lo) + ((v % 2 ^ width) <<< lo)

/-- A Bool as a bit. -/
def b2n (b : Bool) : Nat := if b then 1 else 0

/-- Two's-complement reading of the low `width` bits. -/
def signed (x width : Nat) : Int :=
  let y := x % 2 ^ width
  if 2 * y < 2 ^ width then (y : Int) else (y : Int) - (2 : Int) ^ width

/-- The low `width` bits of an integer in two's complement. -/
def unsigned (x : Int) (width : Nat) : Nat := (x % (2 : Int) ^ width).toNat

/-- An integer held to the range of a signed field of `width` bits (saturation). -/
def satSigned (x : Int) (width : Nat) : Int :=
  max (-((2 : Int) ^ (width - 1))) (min x ((2 : Int) ^ (width - 1) - 1))

/-- Little-endian bytes of a number, `n` of them (R10). -/
def toBytes (n x : Nat) : List Byte := (List.range n).map (fun i => BitVec.ofNat 8 (x >>> (8 * i)))

/-- The number that little-endian bytes spell (R10). -/
def ofBytes : List Byte → Nat
  | [] => 0
  | b :: t => b.toNat + 256 * ofBytes t

/-- Rounds a quotient to nearest, ties away from zero (R257). -/
def divRoundAway (a : Int) (b : Nat) : Int :=
  if a < 0 then -(((2 * a.natAbs + b) / (2 * b) : Nat) : Int) else ((2 * a.natAbs + b) / (2 * b) : Nat)

/-- The floor of a quotient by a power of two (arithmetic shift). -/
def floorShift (a : Int) (k : Nat) : Int := a.fdiv ((2 : Int) ^ k)

/-- One bit of a most-significant-bit-first CRC of `w` bits. -/
def crcStepMsb (w poly crc : Nat) (inBit : Bool) : Nat :=
  let fb := bit crc (w - 1) != inBit
  let sh := (crc <<< 1) % 2 ^ w
  if fb then sh ^^^ poly else sh

/-- CRC-16 with polynomial 0x1021 and initial value 0xFFFF over a list of bits, first bit first (R213). -/
def crc16 (l : List Bool) : Nat := l.foldl (crcStepMsb 16 0x1021) 0xFFFF

/-- One bit of a least-significant-bit-first CRC. -/
def crcStepLsb (poly crc : Nat) (inBit : Bool) : Nat :=
  let fb := bit crc 0 != inBit
  let sh := crc >>> 1
  if fb then sh ^^^ poly else sh

/-- CRC-32C of bytes: reflected polynomial 0x82F63B78, initial value and final xor all ones. -/
def crc32c (l : List Byte) : Nat :=
  (l.foldl (fun c b => (List.range 8).foldl (fun c i => crcStepLsb 0x82F63B78 c (b.getLsbD i)) c) 0xFFFFFFFF)
    ^^^ 0xFFFFFFFF

/-- The highest set bit, counted from 0 (0 for 0). -/
def topBit (x : Nat) : Nat := Nat.log2 x

/-- Number of set bits among the low `n`. -/
def popCount (n x : Nat) : Nat := ((List.range n).filter (bit x)).length

/-- The numbers of the set bits among the low `n`, rising. -/
def bitList (n x : Nat) : List Nat := (List.range n).filter (bit x)

/-- Replaces an element of a list by position. -/
def listSet {α : Type} (l : List α) (i : Nat) (x : α) : List α := l.set i x

/-- Inserts into a list kept in rising order of a key, behind equal keys. -/
def insertBy {α : Type} (key : α → Nat) (x : α) : List α → List α
  | [] => [x]
  | y :: t => if key x < key y then x :: y :: t else y :: insertBy key x t

/-- A list sorted by a key, equal keys keeping their order. -/
def sortBy {α : Type} (key : α → Nat) : List α → List α
  | [] => []
  | x :: t => insertByFront key x (sortBy key t)
where
  /-- Inserts in front of equal keys. -/
  insertByFront {α : Type} (key : α → Nat) (x : α) : List α → List α
    | [] => [x]
    | y :: t => if key x ≤ key y then x :: y :: t else y :: insertByFront key x t

end Sys2Proof.Machine
end

