-- ==== Sys2Proof/Machine/Tab.lean ====
section
/-! DEFINITION. Sparse tables in one canonical form: a list of (key, value) pairs, keys strictly rising, no entry equal
to what an unlisted key reads as. Memories, register files and every other sparse collection of State are of this
form, so that equal contents are equal data. -/

namespace Sys2Proof.Machine

/-- A sparse table keyed by numbers. -/
abbrev Tab (α : Type) := List (Nat × α)

/-- The entry listed at a key. -/
def Tab.find {α : Type} : Tab α → Nat → Option α
  | [], _ => none
  | (k, v) :: t, n => if k = n then some v else Tab.find t n

/-- The value at a key, `d` where none is listed. -/
def Tab.get {α : Type} (t : Tab α) (d : α) (n : Nat) : α := (Tab.find t n).getD d

/-- The table without the entry of a key. -/
def Tab.erase {α : Type} : Tab α → Nat → Tab α
  | [], _ => []
  | (k, v) :: t, n => if k = n then t else (k, v) :: Tab.erase t n

/-- The table with an entry of a key inserted in order, or replaced. -/
def Tab.insert {α : Type} : Tab α → Nat → α → Tab α
  | [], n, x => [(n, x)]
  | (k, v) :: t, n, x =>
    if n < k then (n, x) :: (k, v) :: t
    else if k = n then (n, x) :: t
    else (k, v) :: Tab.insert t n x

/-- Writes `x` at a key whose unlisted value is `d`: writing `d` removes the entry, which keeps the form canonical. -/
def Tab.put {α : Type} [DecidableEq α] (t : Tab α) (d : α) (n : Nat) (x : α) : Tab α :=
  if x = d then Tab.erase t n else Tab.insert t n x

/-- Every key of the table lies above `lo`. -/
def Tab.above {α : Type} (lo : Nat) (t : Tab α) : Bool := t.all (fun e => decide (lo < e.1))

/-- The canonical form over a default that may differ from key to key. -/
def Tab.wf {α : Type} [DecidableEq α] (d : Nat → α) : Tab α → Bool
  | [] => true
  | (k, v) :: t => Tab.above k t && decide (v ≠ d k) && Tab.wf d t

/-- The listed keys. -/
def Tab.keys {α : Type} (t : Tab α) : List Nat := t.map Prod.fst

end Sys2Proof.Machine
end

