-- ==== Sys2Proof/Machine/State.lean ====
section
/-! DEFINITION. The state of the GLS-3240 as plain data: every register, memory, buffer, table, timer and queue the spec gives
the module, unit by unit, the state after reset, and the reasons a step can stop. Sparse collections are tables keyed by
number; a collection lists only what differs from its reset contents. -/

namespace Sys2Proof.Machine
open Sys2Proof

/-! ### Reasons to stop -/

/-- Faults of the block. No command of this hardware stops the block as a whole: every error of the spec is an effect on
state (an exception record, a fault register, a discard counter), so the type has the one reason below. -/
inductive Fault where
  /-- Raised by no meaning: the spec gives every command an effect. Safe. -/
  | none
deriving DecidableEq, Repr

/-- Reasons a command has no meaning. -/
inductive Refusal where
  /-- A command not modelled yet, by mnemonic. Safe: nothing is claimed of it. -/
  | notModelled (mnemonic : String)
deriving DecidableEq, Repr

/-! ### Cores and matrix arrays -/

/-- An accumulator lane: the 96-bit window and the lane status word (R45, R53). -/
structure Lane where
  w : BitVec 96
  wrap : BitVec 32
  rnd : Nat
  tsat : Nat
  pinf : Nat
  ninf : Nat
  nan : Nat
deriving DecidableEq, Repr

/-- The lane after reset or clear (R53). -/
def Lane.zero : Lane := { w := 0, wrap := 0, rnd := 0, tsat := 0, pinf := 0, ninf := 0, nan := 0 }

/-- An accumulator entry (R81): its lane and its 11-bit anchor tag, the residue stored with the window (R72, R73) and the parity of
each LSW field (R53), and how many terms it took since its clear (R54). -/
structure AccEntry where
  lane : Lane
  tag : BitVec 11
  res : Nat
  par : Nat
  terms : Nat
deriving DecidableEq, Repr

/-- An entry as BS4 and a core reset leave it. -/
def AccEntry.zero : AccEntry := { lane := Lane.zero, tag := 0, res := 0, par := 0, terms := 0 }

/-- Where a weight plane stands (R79, R80). -/
inductive PlanePhase where
  | invalid
  | waiting
  | loading
  | valid
deriving DecidableEq, Repr

/-- One weight plane of the four arrays (R75, R79, R97): its format, the element codes and block scales it holds, and the
descriptor it was last loaded from. Elements are keyed 512 n + k with n the column (or the token row of a Schuss block),
scales 16 n + k / 32. -/
structure Plane where
  phase : PlanePhase
  schuss : Bool
  fmt : Nat
  elems : Tab Nat
  scales : Tab Nat
  desc : BitVec 256
deriving DecidableEq, Repr

/-- A plane that holds nothing. -/
def Plane.empty : Plane :=
  { phase := .invalid, schuss := false, fmt := 0, elems := [], scales := [], desc := 0 }

/-- The matrix instructions as the MAT queue holds them (R112, R124). -/
inductive MatKind where
  | mwld
  | manc
  | mpass
  | mdrn
  | mmode
  | mrdmode
deriving DecidableEq, Repr

/-- A matrix instruction in the queue: its address, its fields, its descriptors and scalar operand as read at issue, and its number
in the order of issue. -/
structure MatOp where
  kind : MatKind
  pc : Nat
  x : Fki
  dD : BitVec 256
  dA : BitVec 256
  dB : BitVec 256
  sB : Word
  id : Nat
deriving DecidableEq, Repr

/-- A pass in flight (R85): its instruction, its anchor, the mode word it runs under, the plane it reads, and the streamed
operand as the feeder delivered it so far (one list of element codes and one of scales for each row or column). `filled` are the
columns of a Schuss ring that DMA has filled since the pass last read them (R100). -/
structure PassRun where
  op : MatOp
  anchor : Int
  mmw : Word
  plane : Plane
  rows : List (List Nat)
  scales : List (List Nat)
  filled : List Nat
deriving DecidableEq, Repr

/-- A pre-scan in flight (R86): the slot it fills, the two descriptors it reads, the AVAL it adds, and the instruction it is for. -/
structure ScanRun where
  slot : Nat
  dA : BitVec 256
  dB : BitVec 256
  aval : Int
  forPass : Bool
  id : Nat
deriving DecidableEq, Repr

/-- The matrix engine of a core (R77-R86). `queue` holds the instructions not yet begun, oldest first; passes and drains
in flight complete in order; `loadId` numbers the instruction whose weight load is in flight; `halted` after a failed check or
residue (R110). -/
structure Matrix where
  mmw : Word
  plane0 : Plane
  plane1 : Plane
  acc : Tab AccEntry
  queue : List MatOp
  passes : List PassRun
  drains : List MatOp
  scan : Option ScanRun
  loadId : Nat
  halted : Bool
deriving DecidableEq, Repr

/-- MMW after a launch: native, SH 1, SCHM 32 (R77). -/
def mmwReset : Word := 0x804

/-- A matrix engine with nothing loaded and nothing queued. -/
def Matrix.reset : Matrix :=
  { mmw := mmwReset, plane0 := Plane.empty, plane1 := Plane.empty, acc := [], queue := [], passes := [],
    drains := [], scan := none, loadId := 0, halted := false }

/-- A DMA or fabric instruction in its queue: address, fields, descriptors and scalar operand as read at issue. `fn` is the
fabric function (0 PUT, 1 GET, 2 ACC, 3 BCAST, 5 GARV); DMAC uses 0. -/
structure DmaOp where
  fn : Nat
  pc : Nat
  x : Fki
  dD : BitVec 256
  dA : BitVec 256
  sB : Word
  id : Nat
deriving DecidableEq, Repr

/-- A fabric instruction or GARV awaiting completion (R131, R132, R137): its operation, the packets not yet acknowledged, the
destination and handle of an ACC or GARV, whether a GARV still waits for earlier ACCs, and the semaphore PUT still to
send (node, semaphore, address). `tree` is the broadcast of a BCAST; `failed` the exception of one that has failed, raised once
every earlier one has completed (R154): its code and address. -/
structure FabRun where
  op : DmaOp
  left : Nat
  key : Option (Nat × Nat)
  held : Bool
  semPut : Option (Nat × Nat × Nat)
  tree : Option Nat
  failed : Option (Nat × Nat)
deriving DecidableEq, Repr

/-- What CTL is held by (R134, R139, R151): `stopped` after an exception, until the core enters STOPPED (R154). -/
inductive CtlWait where
  | none
  | sem (x : Fki) (number : Nat) (threshold : Nat) (start : Nat) (limit : Nat) (began : Nat)
  | time (x : Fki) (domainB : Bool) (target : Nat)
  | fence (x : Fki) (start : Nat) (began : Nat)
  | ended
  | stopped
deriving DecidableEq, Repr

/-- What the launch descriptor gave the running program (R120, R145). -/
structure LaunchCtx where
  job : Nat
  epoch : Nat
  step : Nat
  grec : Nat
  ftz : Bool
  doneEn : Bool
  doneSem : Nat
  image : Nat
  startCyc : Nat
deriving DecidableEq, Repr

/-- The context of no program. -/
def LaunchCtx.none : LaunchCtx :=
  { job := 0, epoch := 0, step := 0, grec := 0, ftz := false, doneEn := false, doneSem := 0, image := 0,
    startCyc := 0 }

/-- One logical core (R112-R125). Scalar, predicate and descriptor registers are keyed by number, vector lanes 64 r + l,
core semaphores by number, core store by byte offset; anchor slots list the filled ones. Its STATE and exception record
are in the HIF registers (R152, R156), `excAt` the cycle that record was taken in; `lastPc` is the address of the instruction each
engine retired last; `points` the progress points of a global stop: rows of the oldest pass and of the oldest drain, and 64-byte
writes of the DMAC in execution, that were done (R429). -/
structure Core where
  pc : Nat
  s : Tab Word
  v : Tab Lane32
  p : Tab Word
  t : Tab (BitVec 256)
  anchors : Tab Int
  sems : Tab Nat
  store : Tab Byte
  msts : Word
  vsts : Word
  misr : Word
  ctx : LaunchCtx
  wait : CtlWait
  region : Option Nat
  package : Bool
  lastPc : Tab Nat
  mat : Matrix
  dma : List DmaOp
  fab : List DmaOp
  runs : List FabRun
  nextOp : Nat
  excAt : Option Nat
  points : List Nat
deriving DecidableEq, Repr

/-- A core after its reset: registers zero, nothing queued. -/
def Core.reset : Core :=
  { pc := 0, s := [], v := [], p := [], t := [], anchors := [], sems := [], store := [], msts := 0, vsts := 0,
    misr := 0, ctx := LaunchCtx.none, wait := .none, region := none, package := false, lastPc := [], mat := Matrix.reset,
    dma := [], fab := [], runs := [], nextOp := 0, excAt := none, points := [] }

/-- A found launch descriptor (R147): its table index and its host-written fields as the scan read them. -/
structure Found where
  index : Nat
  job : Nat
  epoch : Nat
  step : Nat
  ftz : Bool
  start : Nat
  image : Nat
  cores : Nat
  arg : Nat
  grec : Nat
  doneSem : Nat
  doneEn : Bool
  late : Bool
deriving DecidableEq, Repr

/-- The dispatcher of ST (R143-R150): the found descriptors that have not started, the multiple of 2,000 ns last scanned, and
the last second in which an unreadable entry was recorded (one more than its number; 0 none). -/
structure Dispatcher where
  found : List Found
  lastScan : Nat
  badAt : Tab Nat
deriving DecidableEq, Repr

/-- A dispatcher that has found nothing. -/
def Dispatcher.reset : Dispatcher := { found := [], lastScan := 0, badAt := [] }

/-- A clock region (R264, R265): whether it runs, its frequency in MHz, its cycle count at the last transition and the
TIME_COUNT of that transition, stretches not yet reported and the millisecond last reported, and the cycle counts of its
last stretch and restart. -/
structure Region where
  running : Bool
  mhz : Nat
  cyc : Nat
  mark : Nat
  stretches : Nat
  reported : Nat
  stretchAt : Option Nat
  startAt : Option Nat
  stopReq : Bool
deriving DecidableEq, Repr

/-- A region before it is powered. -/
def Region.off : Region :=
  { running := false, mhz := 0, cyc := 0, mark := 0, stretches := 0, reported := 0, stretchAt := none,
    startAt := none, stopReq := false }

/-! ### Fabric time -/

/-- One fabric-time domain (R244, R245): its base, reference count, signed rate in 2^-40, remaining slew in ns with the count
of the write that set it and the step points used, a value it may not fall below at the end of a switch (R260), and the
servo's record (R254-R257): Syncs accepted since ACQUIRE, how many in a row within LOCKTH, the previous origin in 2^-4 ns,
the count of the last accepted one, the grandmaster last announced, stepsRemoved, and the next sequenceId, Syncs sent and
the count of the last sending. -/
structure TimeDomain where
  base : Nat
  cref : Nat
  rate : Int
  slew : Int
  slewAt : Nat
  slewSteps : Nat
  least : Option Nat
  syncs : Nat
  good : Nat
  lastT1 : Int
  lastSync : Nat
  announced : Option Nat
  steps : Nat
  seqid : Nat
  sends : Nat
  lastSend : Nat
deriving DecidableEq, Repr

/-- A domain at cold power-on: value 0 at count 0. -/
def TimeDomain.reset : TimeDomain :=
  { base := 0, cref := 0, rate := 0, slew := 0, slewAt := 0, slewSteps := 0, least := none, syncs := 0, good := 0,
    lastT1 := 0, lastSync := 0, announced := none, steps := 0, seqid := 0, sends := 0, lastSend := 0 }

/-- A Sync of one port that waits for its Follow_Up (R252): domainNumber, sequenceId, corrected ingress stamps in 2^-4 ns of
domains A and B, and the count it came at. -/
structure TimeWait where
  domnum : Nat
  seqid : Nat
  stampA : Int
  stampB : Int
  count : Nat
deriving DecidableEq, Repr

/-- A Follow_Up or Pdelay_Resp_Follow_Up that waits for its message. -/
structure TimeFollow where
  domnum : Nat
  seqid : Nat
  origin : Int
  count : Nat
deriving DecidableEq, Repr

/-- A Pdelay exchange open on a port (R254): its sequenceId, the egress stamp t1 of the request, the responder's t2 and the ingress
stamp t4 of the response once known, and TIME_COUNT at the request. -/
structure Pdelay where
  seq : Nat
  t1 : Option Int
  t2 : Option Int
  t4 : Int
  count : Nat
deriving DecidableEq, Repr

/-- A Pdelay follow-up that waits for its response (R252): whether it names this port, its sequenceId, the responder's t3, and
TIME_COUNT at its arrival. -/
structure PdFollow where
  own : Bool
  seqid : Nat
  origin : Int
  count : Nat
deriving DecidableEq, Repr

/-- The time messaging of one port (R252-R254): Syncs and follow-ups that wait for each other, the Syncs put out and not yet sent
(domain, sequenceId), the sequenceId and the count of the last Pdelay request, the exchanges open, the Pdelay follow-ups without
their response, and the skews of the lane that carries L0's symbols and of LS. -/
structure TimePort where
  syncs : List TimeWait
  follows : List TimeFollow
  outSyncs : List (Bool × Nat)
  pdSeq : Nat
  pds : List Pdelay
  pdFollows : List PdFollow
  pdCount : Nat
  skew : Nat
  skewLs : Nat
deriving DecidableEq, Repr

/-- A port with no message waiting. -/
def TimePort.reset : TimePort :=
  { syncs := [], follows := [], outSyncs := [], pdSeq := 0, pds := [], pdFollows := [], pdCount := 0, skew := 0, skewLs := 0 }

/-- A switch of domain A to domain B in progress (R260): METHOD, the difference B - A at GO, and under METHOD 1 with B behind the
value A holds until B reaches it; `before` is the count of a GO whose forward step takes effect in the next, with the value A shows
until then. -/
structure Switch where
  meet : Bool
  delta : Int
  hold : Option Nat
  before : Option (Nat × Nat) := none
deriving DecidableEq, Repr

/-- The time unit (R243-R263). -/
structure TimeUnit where
  count : Nat
  a : TimeDomain
  b : TimeDomain
  switch : Option Switch
  ports : Tab TimePort
deriving DecidableEq, Repr

/-- The time unit at cold power-on. -/
def TimeUnit.reset : TimeUnit :=
  { count := 0, a := TimeDomain.reset, b := TimeDomain.reset, switch := none, ports := [] }
/-! ### Event recorder -/

/-- An event with its stamp (R264, R397, R399): domain A, TIME_COUNT and domain B sampled together, source, cycle count and
clock state of origin, the job, epoch and step concerned, and the packed items. -/
structure Event where
  code : Nat
  stamp : Nat
  count : Nat
  stampB : Nat
  skind : Nat
  sidx : Nat
  lcyc : Nat
  cst : Nat
  job : Option (Nat × Nat × Nat)
  data : Nat
  trunc : Bool
deriving DecidableEq, Repr

/-- A record of the store (R397). -/
structure Record where
  seq : Nat
  event : Event
  writer : Bool
  noown : Bool
deriving DecidableEq, Repr

/-- The event recorder (R399-R404). `raised` holds the events of the command in progress; `held` the freeze buffer;
`begun` the event of its begin, written when it ends, and `frzBase` REC_FRZ_DROP at its begin; `waiting` the events due during a clear; `flashed` how many records of the store flash holds. -/
structure Recorder where
  store : List Record
  flashed : Nat
  raised : List Event
  held : List Event
  waiting : List Event
  tref : Option Nat
  frozen : Option Nat
  frzFrom : Nat
  begun : List Event
  frzBase : Nat
  freezeAt : List Nat
  thawAt : List Nat
  clearing : Bool
  boots : Nat
deriving DecidableEq, Repr

/-- The recorder of a module as shipped (R400). -/
def Recorder.reset : Recorder :=
  { store := [], flashed := 0, raised := [], held := [], waiting := [], tref := none, frozen := none, frzFrom := 0, begun := [], frzBase := 0, freezeAt := [],
    thawAt := [], clearing := false, boots := 0 }

/-! ### Trace buffers -/

/-- The trace buffer of a core (R420-R424): its records oldest first (two words and the TIME_COUNT of the writing), records dropped since the last LOSS
and since the last frame, records written since the last SYNC (0: a SYNC is due), the frame sequence, and whether the writer,
its records taken into a dump, stands until the core's next launch (R423). -/
structure TraceBuf where
  recs : List (Word × Word × Nat)
  lost : Nat
  frameLost : Nat
  sinceSync : Nat
  frameSeq : Nat
  stands : Bool
deriving DecidableEq, Repr

/-- An empty trace buffer. -/
def TraceBuf.empty : TraceBuf :=
  { recs := [], lost := 0, frameLost := 0, sinceSync := 0, frameSeq := 0, stands := false }

/-! ### What leaves the module -/

/-- What an observer outside the module sees, in order: a frame sent on a port (FSEQ, FCRC and its ten slots), an MSI-X message,
the completion of a BAR0 or BAR2 read, a response or report on a management port, a trace-port frame, an in-band
interrupt of the I3C port, an SPDM response over DOE. -/
inductive Output where
  | frame (port fseq fcrc : Nat) (slots : List Flit)
  | msix (pf vector : Nat)
  | read (pf offset : Nat) (value : Word)
  | bar2 (pf offset : Nat) (data : List Byte) (poisoned : Bool)
  | imp (port op tag err : Nat) (result : List Byte)
  | trace (core : Nat) (frame : List Byte)
  | i3c (bit : Nat)
  | doe (message : List Byte)
deriving DecidableEq, Repr

/-! ### Queue counts -/

/-- The counts of R432, modulo 2^32: ENQ of every queue (MAT, VEC, DMA and fabric queues of a core under 4 c + 1, 2, 3 and 0; NME
inputs under 0x1000 + i; VC buffers under 0x2000 + 8 p + v; waiters of a device semaphore under 0x4000 + k), and TXF and RXF
of the packet flits of a port and VC under 8 p + v. DEQ is ENQ less what the queue holds. Beside them, for the watchdogs of R336,
the domain-A time of the last progress plus 1, of engine e of a core under 4 c + e, an NME under 0x1000 + i and a fabric tile under
0x2000 + f; and for the captures of R339 the instruction a CTL cannot issue: the KIND of R343, the node waited on, and since when. -/
structure QueueCounts where
  enq : Tab Nat
  txf : Tab Nat
  rxf : Tab Nat
  progress : Tab Nat
  stalls : Tab (Nat × Nat × Nat)
deriving DecidableEq, Repr

/-- No item counted. -/
def QueueCounts.reset : QueueCounts := { enq := [], txf := [], rxf := [], progress := [], stalls := [] }

/-! ### Isrek -/

/-- A bring-up report kept until a management port comes up (R471): stage, status, DETAIL and TIME_COUNT. -/
structure StagePost where
  stage : Nat
  status : Nat
  detail : Nat
  count : Nat
deriving DecidableEq, Repr

/-- A command that runs on after its slot was read (R394): the place it came from, its TAG, and what it does: 0 CLRREC, 1 FWSTAGE
BEGIN, 2 CALIO COMMIT, with the area of a BEGIN and the KEYID of a CLRREC. -/
structure LongCmd where
  src : Nat
  tag : Nat
  op : Nat
  kind : Nat
  data : Nat
deriving DecidableEq, Repr

/-- What a requester's last completed command was answered with (R394): TAG, ERR, result. -/
structure Done where
  tag : Nat
  err : Nat
  result : List Byte
deriving DecidableEq, Repr

/-- Isrek beside its registers (R381-R395): the owner the arbiter granted and the TIME_COUNT of a grant of the unowned arbiter, who
gave control up and with which check, whether the owner's heartbeat has lapsed, the grant that takes effect at the next
cycle (new, old or 3, check), the controller that waits for the preferred one to leave BOOT since when, the multiple of
1 ms of the last cycle, an overrun in it, a state copy on its way, the cycle of the last good copy and the cycles since,
controllers back from diagnosis, failed diagnoses (controller, count), frames received and not answered by port and
answered since the last copy, the BAR4 mailbox, the last completed command by requester (0 the mailbox, 1 + p port p) as
it is and as copied, the register writes of the command in progress that have passed (requester, TAG, number), a SWAP in
progress and the last one complete (place, TAG), long commands, the NETCFG of the ports, the I3C summary; of each sensor the TIME_COUNT (plus one)
of its last valid reading, since when it is within limits, since when above 110 degrees; of each throttled cluster its
thermal clock and the TIME_COUNT of its last change, and since when it is cool. -/
structure Isk where
  owner : Option Nat
  grantAt : Option Nat
  yield : Option (Nat × Nat)
  lapsed : Bool
  next : Option (Nat × Nat × Nat)
  prefer : Option (Nat × Nat)
  lastCycle : Nat
  activeAt : Nat
  overran : Bool
  copyDue : Bool
  lastGood : Nat
  missed : Nat
  diagnosed : List Nat
  failures : List (Nat × Nat)
  frames : Tab (List Datagram)
  recent : Tab (List Datagram)
  mbox : Tab Byte
  done : Tab Done
  copied : Tab Done
  passed : Option (Nat × Nat × Nat)
  swap : Option (Nat × Nat)
  swapped : Option (Nat × Nat)
  long : List LongCmd
  netcfg : List Byte
  posts : Tab (List StagePost)
  summary : Nat
  validAt : Tab Nat
  withinAt : Tab Nat
  hotAt : Tab Nat
  thermal : Tab (Nat × Nat)
  coolAt : Tab Nat
deriving DecidableEq, Repr

/-- No command completed. -/
def Done.none : Done := { tag := 0, err := 0, result := [] }

/-- Isrek at cold power-on; bit 3 of the I3C summary says that no controller is active. -/
def Isk.reset : Isk :=
  { owner := none, grantAt := none, yield := none, lapsed := false, next := none, prefer := none, lastCycle := 0, activeAt := 0,
    overran := false, copyDue := false, lastGood := 0, missed := 0, diagnosed := [], failures := [], frames := [],
    recent := [], mbox := [], done := [], copied := [], passed := none, swap := none, swapped := none, long := [], netcfg := [], posts := [],
    summary := 8, validAt := [], withinAt := [], hotAt := [], thermal := [], coolAt := [] }

/-! ### Host attachment and bring-up -/

/-- Power inputs, bring-up, host link and calibration flash (R456-R480): the 54 V input in range, and away since it last was, the 12 V input in range, the main domain
powered, the stage running with its start count, whether it is a warm bring-up or waits in BS2, whether BS1, BS5 and BS8
have completed, the millisecond of the last refusal event (one more than its number), the causes
whose message is owed once the function is enabled again (R463), the withdrawal time of an accepted OFFLINE, and the calibration set in flash, as loaded at
BS1 and in staging with the count a COMMIT began (byte tables). -/
structure HostUnit where
  mainIn : Bool
  mainLost : Bool
  auxIn : Bool
  powered : Bool
  running : Bool
  stage : Nat
  stageStart : Nat
  warm : Bool
  waiting : Bool
  bs1Done : Bool
  bs5Done : Bool
  bs8Done : Bool
  refuseMs : Nat
  owed0 : Nat
  owed1 : Nat
  offlineT : Option Nat
  calFlash : Tab Byte
  calLoaded : Tab Byte
  calStage : Option (Tab Byte)
  calBusy : Bool
deriving DecidableEq, Repr

/-- A module without power. -/
def HostUnit.reset : HostUnit :=
  { mainIn := false, mainLost := true, auxIn := false, powered := false, running := false, stage := 0, stageStart := 0, warm := false,
    waiting := false, bs1Done := false, bs5Done := false, bs8Done := false, refuseMs := 0, owed0 := 0,
    owed1 := 0, offlineT := none, calFlash := [], calLoaded := [], calStage := none, calBusy := false }

/-! ### HBM and near-memory engines -/

/-- A reduction-handle descriptor with the fields ARM latches (R176). -/
structure Handle where
  handle : Nat
  stage : Nat
  holdown : Bool
  nexten : Bool
  opten : Bool
  aval : Nat
  nbase : Nat
  ncnt : Nat
  lanes : Nat
  poff : Nat
  hoff : Nat
  nnode : Nat
  nhandle : Nat
  nstage : Nat
  optd : Nat
  step : Nat
  job : Nat
  epoch : Nat
deriving DecidableEq, Repr

/-- How far a release is on one NME (R184): none yet; the optimizer runs; the forward's packets are out; it is finished; stopped by
an NME fault. -/
inductive ReleasePhase where
  | unreleased
  | optimizing
  | forwarding
  | done
  | stopped
deriving DecidableEq, Repr

/-- An armed handle in one NME (R177, R183): its latched descriptor, how many chunks of its areas are zeroed (each local chunk
counts once for the partial and, with HOLDOWN, once for each hold buffer, in that order), how far its release is, which
classes' lanes reached the hold buffers and the partial (R283), whether an own lane added to the partial was not finite or in
overflow (R284), and the hardware error its buffers hold for the release to meet (R73). -/
structure Armed where
  desc : Handle
  zeroed : Nat
  phase : ReleasePhase
  ownHeld : Bool
  ownAdded : Bool
  bkHeld : Bool
  upAdded : Bool
  ownNf : Bool
  ownOv : Bool
  upset : HwError
deriving DecidableEq, Repr

/-- A deduplication window (R179): job, source, the highest sequence accepted, and the map whose bit k stands for HI - k. -/
structure Window where
  job : Nat
  source : Nat
  hi : Option Nat
  map : Nat
deriving DecidableEq, Repr

/-- A packet that waits in an NME (R177, R179, R180): with its arrival stamp in 2^-4 ns and whether it passed a port;
`hw` is the hardware error its addition will meet, `dedup` tells one past its window steps (waiting for its chunk, or for the
disarm after an NME fault cut its addition), `dup` a copy that waits for the first one's writes. -/
structure HeldPacket where
  packet : Packet
  stamp : Nat
  hw : HwError
  viaPort : Bool
  dedup : Bool
  dup : Bool
deriving DecidableEq, Repr

/-- A ring command as its scan found it (R193): index, opcode, semaphore, START, operands, and whether it was found after
START. -/
structure RingCmd where
  index : Nat
  op : Nat
  semEn : Bool
  sem : Nat
  start : Nat
  opnds : List Nat
  late : Bool
deriving DecidableEq, Repr

/-- The ring command in execution: its result and the error met, if any. -/
structure RingRun where
  cmd : RingCmd
  result : Nat
  err : Nat
deriving DecidableEq, Repr

/-- Copy-before-write protection of a bank (R191): handle, bank, where the bank begins on this NME and its bytes, the snapshot
address, and the marks of its 64 KiB granules (0 UNSWEPT, 1 COPIED, 2 SWEPT, 3 SWEPT from the copy). -/
structure Cbw where
  handle : Nat
  bank : Bool
  base : Nat
  size : Nat
  snap : Nat
  marks : Tab Nat
deriving DecidableEq, Repr

/-- One near-memory engine with its controller (R172-R195). `windows` are on chip, most recently used first; `spilled` are in
the spill table; `waiting` are packets held; `corrected` counts corrections of each row in the scrub pass begun at TIME_COUNT `passAt` (R168); `repaired` lists
the rows repaired in service, with their bank, and `full` the banks without a spare row. -/
structure Nme where
  running : Bool
  armed : List Armed
  windows : List Window
  spilled : List Window
  waiting : List HeldPacket
  found : List RingCmd
  run : Option RingRun
  lastScan : Nat
  badAt : Tab Nat
  cbw : List Cbw
  scrubPtr : Nat
  passAt : Nat
  corrected : Tab Nat
  repaired : List (Nat × Nat)
  full : List Nat
  nospillMs : Nat
deriving DecidableEq, Repr

/-- An NME that is not in service. -/
def Nme.reset : Nme :=
  { running := false, armed := [], windows := [], spilled := [], waiting := [], found := [], run := none,
    lastScan := 0, badAt := [], cbw := [], scrubPtr := 0, passAt := 0, corrected := [], repaired := [], full := [], nospillMs := 0 }

/-! ### Fabric -/

/-- A packet in a receive buffer with its ingress stamps of domains A and B in 2^-4 ns (R32, R253). -/
structure RxPacket where
  packet : Packet
  stampA : Nat
  stampB : Nat
deriving DecidableEq, Repr

/-- A packet of the module's own or a rerouted one that has no output yet, with the port it came by (12: injected) and the TIME_COUNT
since when it waits. -/
structure Waiting where
  packet : Packet
  origin : Nat
  since : Nat
deriving DecidableEq, Repr

/-- A packet that holds credits of a port and waits for the link, and what it was before its hop (none: a packet of the link itself or
the copy of a flood). -/
structure Queued where
  packet : Packet
  back : Option Waiting
deriving DecidableEq, Repr

/-- A packet partly received: its header, the payload flits so far, and the ingress stamps of the header's frame (R253). -/
structure Partial where
  header : Flit
  flits : List Flit
  stampA : Nat
  stampB : Nat
deriving DecidableEq, Repr

/-- One port (R203-R220): credits held and credits owed for each VC, receive buffers by VC with the TIME_COUNT at which the head of
each became it, the packet partly received or being skipped, packets of the link itself that wait for credits, packets that
hold credits and wait for the link, flood copies that wait for credits with the TIME_COUNT since when, whose turn the arbiter's
is, the transmitter's next FSEQ with its replay buffer, the last frame of each packet sent and not acknowledged, and successive
replays, and the receiver's next FSEQ with its NAK and how far behind it the last frame discarded since lay; lane sparing: the
shadow lane the partner asked for with its unsent confirmation, the lane this receiver asks for, the failing lane that waits for
its copy, and the frame from which it comes. `wdT` is the time of a withdrawal received; `since` the TIME_COUNT at which the
training state was entered; `retry` tells a training attempt that failed and waits 100 ms; `hidden` the state of a training in
MISWIRE (R202). Port 12 is the module's own loopback (R132), 13 and 14 are the bridges from FT0 and FT1 to the other tile (R224);
they use the receive buffers only. -/
structure Port where
  credits : List Nat
  owed : List Nat
  rx : List (List RxPacket)
  headAt : List Nat
  part : Option Partial
  skip : Nat
  linkq : List Packet
  outq : List Queued
  floods : List (Packet × Nat)
  respTurn : Bool
  txSeq : Nat
  replay : List (Nat × List Flit)
  sent : List Nat
  replays : Nat
  lastNak : Option Nat
  rxNext : Nat
  rxAny : Bool
  nakDue : Bool
  nakSent : Bool
  seen : Option Nat
  txShadow : Option Nat
  want : Option Nat
  failing : Option Nat
  swapAt : Option (Nat × Nat)
  wdT : Option Nat
  since : Nat
  retry : Bool
  hidden : Nat
deriving DecidableEq, Repr

/-- A port out of reset: nothing held. -/
def Port.reset : Port :=
  { credits := [0, 0, 0, 0, 0, 0, 0, 0], owed := [0, 0, 0, 0, 0, 0, 0, 0], rx := [[], [], [], [], [], [], [], []],
    headAt := [0, 0, 0, 0, 0, 0, 0, 0], part := none, skip := 0, linkq := [], outq := [], floods := [], respTurn := true,
    txSeq := 0, replay := [], sent := [], replays := 0, lastNak := none, rxNext := 0, rxAny := false, nakDue := false,
    nakSent := false, seen := none, txShadow := none, want := none, failing := none, swapAt := none, wdT := none, since := 0,
    retry := false, hidden := 0 }

/-- Where the payload of an end-to-end packet is re-read from (R228): leading bytes, then byte ranges of a core's store or
of HBM. -/
structure Source where
  pre : List Byte
  core : Option Nat
  segs : List (Nat × Nat)
deriving DecidableEq, Repr

/-- Who is told of the end of an end-to-end packet: an operation of a core's fabric queue, an NME forward or its marker, the
mirror of a checkpoint
(the NME and granule it carries), the fetch of a restore, or nobody. -/
inductive E2eOwner where
  | core (c op : Nat)
  | forward (nme handle : Nat)
  | marker (nme handle : Nat)
  | mirror (nme granule : Nat)
  | restore
  | none
deriving DecidableEq, Repr

/-- The sender's record of one PUT, ACC, MIRROR or GET request (R178, R228, R230): its header fields, its payload source, for
a GET the local place its response goes to (core store or HBM, address, bytes), how often it was sent and the TIME_COUNT
of the last sending. -/
structure E2e where
  id : Nat
  type : Nat
  dst : Nat
  job : Nat
  epoch : Nat
  stepl : Nat
  seq : Nat
  addr : Nat
  ext : Nat
  tag : Nat
  len : Nat
  source : Source
  dest : Option (Option Nat × Nat × Nat)
  owner : E2eOwner
  sends : Nat
  sentAt : Nat
deriving DecidableEq, Repr

/-- Acknowledgements not yet sent for one (source, job) (R229): the epoch, BASE, the map, exceptions as (sequence, status), and
when the first came. -/
structure AckMap where
  source : Nat
  job : Nat
  epoch : Nat
  base : Nat
  map : Nat
  exs : List (Nat × Nat)
  since : Nat
deriving DecidableEq, Repr

/-- A key of the flood-seen table (R226): an ABORT or HOLD by (TYPE, JOB, EPOCH, STEPL), a TIME packet by (SRC, TYPE, SEQ),
as one number, with the count it was made at. -/
structure FloodSeen where
  key : Nat
  made : Nat
deriving DecidableEq, Repr

/-- The node identity in use (R236). -/
structure NodeLatch where
  node : Nat
  xd : Nat
  yd : Nat
  zd : Nat
deriving DecidableEq, Repr

/-- The fabric of the module (R200-R242). `refused` says that the last FAB_NODE with VALID = 1 was not latched (R236). `seqs` holds the next sequence by destination * 4096 + job; `recs` the end-to-end
records in order; `stuck` the ABORTs originated while no port was UP (R349); `wdT` the withdrawal time of each tile and, under
tile + 2, that it has been reached; `ghosts` the records an engine reset dropped, whose answers are absorbed (R334). -/
structure Fabric where
  latch : Option NodeLatch
  refused : Bool
  ports : Tab Port
  waiting : List Waiting
  seqs : Tab Nat
  recs : List E2e
  nextRec : Nat
  nextTag : Nat
  acks : List AckMap
  flood : List FloodSeen
  nextFlood : Nat
  stuck : List Packet
  wdT : Tab Nat
  ghosts : List E2e
deriving DecidableEq, Repr

/-- The fabric at cold power-on. -/
def Fabric.reset : Fabric :=
  { latch := none, refused := false, ports := [], waiting := [], seqs := [], recs := [], nextRec := 0, nextTag := 0, acks := [],
    flood := [], nextFlood := 0, stuck := [], wdT := [], ghosts := [] }

/-! ### Step Gate -/

/-- What the coordinator has counted for one contributor class (R277): markers, and the latest stamp among them in ns. -/
structure Arrivals where
  count : Nat
  stamp : Nat
deriving DecidableEq, Repr

/-- No marker counted. -/
def Arrivals.none : Arrivals := { count := 0, stamp := 0 }

/-- An entry of a loaded Gate step record (R276) and how far its handle is: markers by class, whether it has been decided, the
MASK and TREL, the NMEs whose release is not complete and those whose optimizer run is not, the mismatches they
reported (first lane and count), and the totals they read out. -/
structure GateEntry where
  handle : Nat
  stage : Nat
  pos : Nat
  bken : Bool
  bkwait : Bool
  upnode : Nat
  bknode : Nat
  nmown : Nat
  nmup : Nat
  nmbk : Nat
  conv : Nat
  woff : Nat
  idxbase : Nat
  nbase : Nat
  ncnt : Nat
  opten : Bool
  optd : Nat
  own : Arrivals
  bk : Arrivals
  up : Arrivals
  decided : Bool
  mask : Nat
  trel : Nat
  relLeft : List Nat
  optLeft : List Nat
  pinf : Nat
  ninf : Nat
  nan : Nat
  ovf : Nat
deriving DecidableEq, Repr

/-- A loaded slot (R272-R276): the record's address and header, its entries, whether a counting hold notice has arrived, when it became terminal, whether
event 0x041 has been recorded, whether its conversions are complete, and TDEC. Its STATE, JOB, EPOCH, POLICY,
REASON and STEP are in GATE_SLOT and GATE_SLOTSTEP. -/
structure Slot where
  addr : Nat
  dx : Nat
  dy : Nat
  dz : Nat
  tc : Nat
  hx : Nat
  hy : Nat
  hz : Nat
  bsem : Nat
  bsemen : Bool
  breg : Nat
  bmap : Nat
  bmstr : Nat
  entries : List GateEntry
  hold : Bool
  nsubst : Nat
  nmism : Nat
  ntaint : Nat
  termAt : Nat
  badWrite : Bool
  converted : Bool
  tdec : Nat
deriving DecidableEq, Repr

/-- A slot that holds no record. -/
def Slot.empty : Slot :=
  { addr := 0, dx := 0, dy := 0, dz := 0, tc := 0, hx := 0, hy := 0, hz := 0, bsem := 0, bsemen := false, breg := 0,
    bmap := 0, bmstr := 0, entries := [], hold := false, nsubst := 0, nmism := 0, ntaint := 0,
    termAt := 0, badWrite := false, converted := false, tdec := 0 }

/-- A child of a broadcast (R296): what it has sent, whether it has been declared failed, and the count of the last event its
timeouts run from. -/
structure Child where
  node : Nat
  received : Bool
  done : Bool
  failed : Bool
  since : Nat
deriving DecidableEq, Repr

/-- A node a copy of the broadcast came from, and which acknowledgements it has been sent. -/
structure BackTo where
  node : Nat
  received : Bool
  done : Bool
deriving DecidableEq, Repr

/-- A broadcast this module takes part in (R293-R298): its identity, the packets written, its children and parents, the failed
nodes learned of, and at the root the ranges to re-send (address, payload source, flits), the round, and the instruction
or slot it belongs to. -/
structure Bcast where
  job : Nat
  epoch : Nat
  stepl : Nat
  gateb : Bool
  tree : Nat
  root : Nat
  tag : Nat
  npkt : Nat
  slot : Option Nat
  got : Nat
  arrived : Bool
  parents : List BackTo
  children : List Child
  orphans : List Nat
  ovf : Bool
  isRoot : Bool
  ranges : List (Nat × Source × Nat)
  round : Nat
  handled : List Nat
  ended : Bool
  owner : Option (Nat × Nat)
deriving DecidableEq, Repr

/-- A marker that has passed its window and is on its way to the coordinator (R277, R280): its handle, the job, epoch and step
that was armed with (R292), source, BK, STAGE and ingress stamp in ns. -/
structure Marker where
  handle : Nat
  job : Nat
  epoch : Nat
  step : Nat
  source : Nat
  bk : Bool
  stage : Nat
  stamp : Nat
deriving DecidableEq, Repr

/-- The Gate coordinator (R271): slots by number, broadcasts, markers on their way, and the last step each job committed here (one more than it). -/
structure Gate where
  slots : Tab Slot
  bcasts : List Bcast
  markers : List Marker
  lastStep : Tab Nat
deriving DecidableEq, Repr

/-- The coordinator at cold power-on. -/
def Gate.reset : Gate := { slots := [], bcasts := [], markers := [], lastStep := [] }

/-! ### Captures -/

/-- What a debug port gives of a unit (R339): a core of the domain with its fabric records, an NME, the ports of a fabric tile with
their states, another core's PC and CTL state, the device semaphores, Gate slots and piste and queue registers of ST, or nothing
where it did not answer (R340). -/
inductive Captured where
  | core (k : Core) (records : List E2e)
  | nme (m : Nme)
  | tile (ports : List Port) (lts : List Nat)
  | brief (pc : Nat) (wait : CtlWait)
  | st (sems : Tab Nat) (slots : Tab Slot) (regs : List (Nat × Word))
  | missing
deriving DecidableEq, Repr

/-- A record of a capture (R339, R343): kind (0 a core of the domain, 1 an NME, 2 a fabric tile, 3 another core, 4 ST) and index of
the unit, the domain-A time of its reading, LCYC and CST of its region, what was read, and what the unit waits for as (tail, head,
SINCE, KIND). -/
structure CaptureRec where
  kind : Nat
  index : Nat
  time : Nat
  lcyc : Nat
  cst : Nat
  body : Captured
  waits : List (Nat × Nat × Nat × Nat)
deriving DecidableEq, Repr

/-! ### Global stop -/

/-- Global stops (R428-R434): those scheduled as (T, JOB), the scopes stopped (0 the whole module, else a job) with their T, those
whose captures have not been written, oldest first, and the records of the capture in progress. -/
structure Gstop where
  sched : List (Nat × Nat)
  stopped : List (Nat × Nat)
  capturing : List (Nat × Nat)
  records : List CaptureRec
deriving DecidableEq, Repr

/-- No stop. -/
def Gstop.reset : Gstop := { sched := [], stopped := [], capturing := [], records := [] }

/-! ### Reset controller -/

/-- What the controller holds of a recovery entry beside its RST_RECQ registers (R339-R352): its place in age, whether it was
requested by software, whether its capture is complete, whether its drain window is open and since when, whether it waits for
the other fabric tile, the NMEs a partition reset takes with it, its suspects (job, epoch, launch entry, step), the
faults placed in it as (domain, unit, cause), the records of the units its capture reads, in capture order, and the step of the first
job touched. -/
structure Recovery where
  order : Nat
  requested : Bool
  captured : Bool
  drainOpen : Bool
  startedAt : Nat
  waits : Bool
  nmes : List Nat
  suspects : List (Nat × Nat × Nat × Nat)
  faults : List (Nat × Nat × Nat)
  records : List CaptureRec
  step : Nat
deriving DecidableEq, Repr

/-- An entry's record when it is made. -/
def Recovery.fresh : Recovery :=
  { order := 0, requested := false, captured := false, drainOpen := false, startedAt := 0, waits := false,
    nmes := [], suspects := [], faults := [], records := [], step := 0 }

/-- A dump (R342, R426, R427): its header fields, the address of its slot where it reached HBM, the bytes used, the records of its
snapshot, the wait-for edges found in them with their roots, the offsets of parts 3 to 6, the bytes of part 4, the cores and tiles
whose counters and trace buffers it takes, and its COMPLETE and FLASHED. -/
structure Dump where
  qent : Nat
  dom : Nat
  unit : Nat
  cause : Nat
  tf : Nat
  job : Nat
  epoch : Nat
  step : Nat
  recseq : Nat
  base : Option Nat
  len : Nat
  records : List CaptureRec
  counters : List Byte
  graph : List (Nat × Nat × Nat × Nat × Bool × Bool)
  roots : List Nat
  off3 : Nat
  off4 : Nat
  off5 : Nat
  off6 : Nat
  cores : List Nat
  tiles : List Nat
  complete : Bool
  flashed : Bool
deriving DecidableEq, Repr

/-- The reset controller (R332-R361): entries by RECQ index, the resets that ended lately (domain, unit, cause, TIME_COUNT of
their end), the ABORTs sent (job, epoch, step), the step of each job's latest launch, the dumps of the four slots, and the
two most recent in module flash. -/
structure Rst where
  entries : Tab Recovery
  next : Nat
  ended : List (Nat × Nat × Nat × Nat)
  sent : List (Nat × Nat × Nat)
  launched : Tab Nat
  dumps : Tab Dump
  flashDumps : List Dump
deriving DecidableEq, Repr

/-- The controller at cold power-on. -/
def Rst.reset : Rst :=
  { entries := [], next := 0, ended := [], sent := [], launched := [], dumps := [], flashDumps := [] }
/-! ### Screening -/

/-- A section of the active pattern package (R311). -/
structure Section where
  kind : Nat
  engine : Nat
  sub : Nat
  tlim : Nat
  imoff : Nat
  imlen : Nat
  csbase : Nat
  cslen : Nat
  misr : Nat
deriving DecidableEq, Repr

/-- A verified package (R311): its header and sections, and PDIG, SVN and payload length of its envelope (R440). -/
structure Package where
  id : Nat
  version : Nat
  sections : List Section
  pdig : List Byte
  svn : Nat
  len : Nat
deriving DecidableEq, Repr

/-- Why a section runs: a classification or rescreen run, the periodic QUICK, a heartbeat, a FULL run of a command, the QUICK
runs of a tile event, or the spare's FULL run within a reset (R307, R311-R325). -/
inductive RunFor where
  | classify
  | quick
  | heartbeat
  | command
  | tileEvent
  | spare
deriving DecidableEq, Repr

/-- A section run in progress on a physical core (R312): its section, why it runs, whether at a SYLD, the core as saved,
whether a charge has come to the core meanwhile (R305), and the TIME_COUNT and the cycle count of the core at its start. -/
structure SectionRun where
  part : Section
  why : RunFor
  atSyld : Bool
  saved : Option Core
  charged : Bool
  began : Nat
  cyc : Nat
deriving DecidableEq, Repr

/-- A classification of a core (R307, R318): its state before the charge, the section kind, engine and SUB it repeats, the runs
left, and whether it is the rescreen at a new level. `held` while it waits for a third sample run. -/
structure Classify where
  before : Nat
  kind : Nat
  engine : Nat
  sub : Nat
  left : Nat
  rescreen : Bool
  held : Bool
deriving DecidableEq, Repr

/-- Where a sample stands (R307, R316, R317): its pass still running on core X, waiting for core Y, Y's digest differing and
waiting for Z, waiting for the core in error to repeat it. -/
inductive SamplePhase where
  | onX
  | onY
  | onZ
  | onW
deriving DecidableEq, Repr

/-- A capture in a slot of a tile (R316, R317): the physical cores X, Y and Z and the one in error, W, the digests of the
first three, the re-execution it waits for, the pass as captured, and the count of its capture or mismatch. -/
structure Sample where
  x : Nat
  y : Nat
  z : Nat
  w : Nat
  digestX : Nat
  digestY : Nat
  digestZ : Nat
  phase : SamplePhase
  run : PassRun
  takenAt : Nat
deriving DecidableEq, Repr

/-- A GRM command in progress (R329): its operation and handle, the cores still to be screened, whether one failed, and for RCMP
the lanes that differ from own and from backup. -/
structure GrmCmd where
  op : Nat
  handle : Nat
  cores : List Nat
  failed : Bool
  err : Nat
  diffOwn : Nat
  diffBk : Nat
deriving DecidableEq, Repr

/-- The Groomer and the classification state (R304-R331), physical cores numbered 25n + m: due QUICK (1) and HB (2) runs, runs
and classifications in progress, sample regions opened by core, captures by 16 tile + slot, the counts each core's
transients were counted at, the tile-event window of each tile (its charges, oldest first, as core, source, what the core's
register held and the TIME_COUNT), the TIME_COUNT of each core's last charge (plus one), when each core last re-executed, the
command and the package; the level, clock in MHz and voltage in mV applied to each core; when a QUICK and an HB run of each
core last fell due. -/
structure Grm where
  due : Tab Nat
  runs : Tab SectionRun
  classify : Tab Classify
  opened : Tab Nat
  sampling : Tab Nat
  samples : Tab Sample
  transients : Tab (List Nat)
  window : Tab (List (Nat × Nat × Nat × Nat))
  chargedAt : Tab Nat
  lastReexec : Tab Nat
  cmd : Option GrmCmd
  package : Option Package
  staged : Option Package
  levels : Tab Nat
  clocks : Tab Nat
  volts : Tab Nat
  quickAt : Tab Nat
  hbAt : Tab Nat
deriving DecidableEq, Repr

/-- The Groomer as shipped. -/
def Grm.reset : Grm :=
  { due := [], runs := [], classify := [], opened := [], sampling := [], samples := [], transients := [], window := [],
    chargedAt := [], lastReexec := [], cmd := none, package := none, staged := none, levels := [], clocks := [], volts := [],
    quickAt := [], hbAt := [] }

/-! ### Checkpoints -/

/-- A handle as a checkpoint latches it (R362): its geometry, its algorithm, its banks and the one committed. -/
structure CkHandle where
  handle : Nat
  alg : Nat
  nbase : Nat
  ncnt : Nat
  lanes : Nat
  chunks : Nat
  banka : Nat
  bankb : Nat
  optd : Nat
  bankB : Bool
deriving DecidableEq, Repr

/-- A checkpoint in progress (R365-R369): its generation, what its manifest names, the handles latched, whether the job has
committed a step since it started, whether the sweep is complete and signing has begun, and the TIME_COUNT of its start. -/
structure CkRun where
  gen : Nat
  job : Nat
  epoch : Nat
  step : Nat
  trig : Nat
  tcommit : Nat
  mfmt : Bool
  handles : List CkHandle
  committed : Bool
  signing : Bool
  startAt : Nat
deriving DecidableEq, Repr

/-- A mirror stream (R371): its generation, its stage (0 OPEN, 1 image, 2 manifest, 3 SEAL), and the granules as (NME, granule)
not fully acknowledged, the first of them in flight. -/
structure MirrorRun where
  gen : Nat
  job : Nat
  step : Nat
  stage : Nat
  left : List (Nat × Nat)
deriving DecidableEq, Repr

/-- A CKP_CMD in progress (R373, R374, R378): its operation and fields; for a RESTORE from another node whether the manifest
has arrived, the granules still to fetch, the own generation it fetches into, and whether a GET failed. -/
structure CkCmd where
  op : Nat
  gen : Nat
  srcnode : Nat
  step : Nat
  fetching : Bool
  manifest : Bool
  left : List (Nat × Nat)
  into : Nat
  failed : Bool
  broken : Bool
deriving DecidableEq, Repr

/-- The checkpoint controller: the checkpoint in progress, the pending trigger's code with the TIME_COUNT it came at, the mirror stream, the own generation to mirror next, the command, the
TIME_COUNT of the last early checkpoint, the counts the monitors of R366 saw last and, newest first, what the rate monitors saw at
each second of the last 60 s, and the hosted generations sealed and not yet verified. -/
structure Ckp where
  run : Option CkRun
  pend : Option (Nat × Nat)
  mirror : Option MirrorRun
  next : Option Nat
  cmd : Option CkCmd
  lastEarly : Option Nat
  ewAny : List Nat
  ewHist : List (Nat × List Nat)
  sealed' : List Nat
deriving DecidableEq, Repr

/-- The controller at cold power-on. -/
def Ckp.reset : Ckp :=
  { run := none, pend := none, mirror := none, next := none, cmd := none, lastEarly := none, ewAny := [], ewHist := [], sealed' := [] }

/-! ### Security -/

/-- A firmware bank in flash (R449): as manufacture left it, or the bytes written since its last erase. -/
structure Bank where
  shipped : Bool
  bytes : Tab Byte
deriving DecidableEq, Repr

/-- The security state beside the SEC registers (R443-R450): owner slots and installed module keys as 1,984 key bytes each; the
fragments of an envelope and whether the last has come, by requester (0 the mailbox, 1 + p port p); the last signed
command as (requester, TAG, ERR); the ML-DSA-65 signature kept by requester (3 for DOE) with the TIME_COUNT of its making;
the two banks, the Groomer package area, the area being staged (0 bank, 1 package) and whether its erase runs. -/
structure Sec where
  owners : Tab (List Byte)
  keys : List (List Byte)
  frags : Tab (List (Nat × List Byte))
  lasts : List Nat
  cmdDone : Option (Nat × Nat × Nat)
  kept : Tab (Nat × List Byte)
  bank0 : Bank
  bank1 : Bank
  pkgArea : Tab Byte
  staging : Option Nat
  erasing : Bool
deriving DecidableEq, Repr

/-- The security state of a module as shipped. -/
def Sec.reset : Sec :=
  { owners := [], keys := [], frags := [], lasts := [], cmdDone := none, kept := [], bank0 := { shipped := true, bytes := [] },
    bank1 := { shipped := true, bytes := [] }, pkgArea := [], staging := none, erasing := false }

/-! ### The machine -/

/-- The whole machine. -/
structure State where
  pending : List Instr
  time : TimeUnit
  recorder : Recorder
  regs : Tab Word
  cores : Tab Core
  regions : Tab Region
  disp : Dispatcher
  devSems : Tab Nat
  hbm : Tab Byte
  ecc : Tab Nat
  traces : Tab TraceBuf
  host : HostUnit
  fab : Fabric
  gate : Gate
  grm : Grm
  rst : Rst
  nmes : Tab Nme
  routes : Tab (Nat × Nat)
  gstop : Gstop
  ckp : Ckp
  sec : Sec
  queues : QueueCounts
  isk : Isk
  out : List Output
  freeIndex : Nat
deriving DecidableEq, Repr

/-- The machine right after reset, before the first cold power-on command: every register at its Reset value, every memory at
its reset contents, every queue empty. -/
def State.reset : State :=
  { pending := [], time := TimeUnit.reset, recorder := Recorder.reset, regs := [], cores := [], regions := [],
    disp := Dispatcher.reset, devSems := [], hbm := [], ecc := [], traces := [],
    host := HostUnit.reset,
    fab := Fabric.reset,
    gate := Gate.reset,
    grm := Grm.reset,
    rst := Rst.reset,
    nmes := [],
    routes := [],
    gstop := Gstop.reset,
    ckp := Ckp.reset,
    sec := Sec.reset,
    queues := QueueCounts.reset,
    isk := Isk.reset,
    out := [], freeIndex := 0 }

end Sys2Proof.Machine
end

