-- ==== Sys2Proof/Machine/NumFmt.lean ====
section
/-! DEFINITION. Number formats and anchored accumulation (R41-R65): element encodings, exact values, terms and lanes of the
window, readout and conversion with their rounding, saturation and counts. -/

namespace Sys2Proof.Machine

/-! ### Formats (R41-R44) -/

/-- The formats of the 5-bit codes 0x00-0x0D (R43). -/
inductive Fmt where
  | fp32
  | bf16
  | fp16
  | e4m3
  | e5m2
  | mxfp8e4m3
  | mxfp8e5m2
  | mxfp6e3m2
  | mxfp6e2m3
  | mxfp4e2m1
  | int8
  | int4
  | int32
  | anch
deriving DecidableEq, Repr

/-- The format a code names (R43). -/
def Fmt.ofCode (c : Nat) : Option Fmt :=
  [Fmt.fp32, .bf16, .fp16, .e4m3, .e5m2, .mxfp8e4m3, .mxfp8e5m2, .mxfp6e3m2, .mxfp6e2m3, .mxfp4e2m1, .int8, .int4,
    .int32, .anch][c]?

/-- Element width in bits; an ANCH lane is 24 bytes (R65). -/
def Fmt.width : Fmt → Nat
  | .fp32 => 32
  | .bf16 => 16
  | .fp16 => 16
  | .e4m3 => 8
  | .e5m2 => 8
  | .mxfp8e4m3 => 8
  | .mxfp8e5m2 => 8
  | .mxfp6e3m2 => 6
  | .mxfp6e2m3 => 6
  | .mxfp4e2m1 => 4
  | .int8 => 8
  | .int4 => 4
  | .int32 => 32
  | .anch => 192

/-- Exponent bits, mantissa bits and bias of a floating-point format or MX element (R41). -/
def Fmt.layout : Fmt → Nat × Nat × Nat
  | .fp32 => (8, 23, 127)
  | .bf16 => (8, 7, 127)
  | .fp16 => (5, 10, 15)
  | .e4m3 => (4, 3, 7)
  | .mxfp8e4m3 => (4, 3, 7)
  | .e5m2 => (5, 2, 15)
  | .mxfp8e5m2 => (5, 2, 15)
  | .mxfp6e3m2 => (3, 2, 3)
  | .mxfp6e2m3 => (2, 3, 1)
  | .mxfp4e2m1 => (2, 1, 1)
  | _ => (0, 0, 0)

/-- MX formats: elements with a block scale (R42). -/
def Fmt.isMx : Fmt → Bool
  | .mxfp8e4m3 => true
  | .mxfp8e5m2 => true
  | .mxfp6e3m2 => true
  | .mxfp6e2m3 => true
  | .mxfp4e2m1 => true
  | _ => false

/-- Integer formats. -/
def Fmt.isInt : Fmt → Bool
  | .int8 => true
  | .int4 => true
  | .int32 => true
  | _ => false

/-- Whether a format may be a matrix operand (R43). -/
def Fmt.matrixOperand : Fmt → Bool
  | .fp32 => false
  | .int32 => false
  | .anch => false
  | _ => true

/-- Whether a format may be a drain or conversion output (R43). -/
def Fmt.drainOutput : Fmt → Bool
  | .int4 => false
  | _ => true

/-- Whether a format may be a vector load or store (R43). -/
def Fmt.vectorMem : Fmt → Bool
  | .anch => false
  | _ => true

/-- The operand group (R44): 0 floating point, 1 MX, 2 integer. -/
def Fmt.group (f : Fmt) : Nat := if f.isMx then 1 else if f.isInt then 2 else 0

/-- Formats of four bits, which run at the 2x rate and fill a block of 256 K (R44, R76). -/
def Fmt.four (f : Fmt) : Bool := decide (f.width = 4)

/-- The largest finite magnitude code of a floating-point format or MX element (R41, R63). -/
def Fmt.maxCode : Fmt → Nat
  | .fp32 => 0x7F7FFFFF
  | .bf16 => 0x7F7F
  | .fp16 => 0x7BFF
  | .e4m3 => 0x7E
  | .mxfp8e4m3 => 0x7E
  | .e5m2 => 0x7B
  | .mxfp8e5m2 => 0x7B
  | .mxfp6e3m2 => 0x1F
  | .mxfp6e2m3 => 0x1F
  | .mxfp4e2m1 => 0x7
  | _ => 0

/-- The canonical NaN (R63). -/
def Fmt.nanCode : Fmt → Nat
  | .fp32 => 0x7FC00000
  | .bf16 => 0x7FC0
  | .fp16 => 0x7E00
  | .e5m2 => 0x7E
  | .e4m3 => 0x7F
  | _ => 0

/-- Positive infinity, where the format has one (R63). -/
def Fmt.infCode : Fmt → Option Nat
  | .fp32 => some 0x7F800000
  | .bf16 => some 0x7F80
  | .fp16 => some 0x7C00
  | .e5m2 => some 0x7C
  | _ => none

/-! ### Exact values -/

/-- An exact value: a finite number (-1)^neg x mant x 2^exp, an infinity, or a NaN. -/
inductive Num where
  | fin (neg : Bool) (mant : Nat) (exp : Int)
  | inf (neg : Bool)
  | nan
deriving DecidableEq, Repr

/-- A zero of a sign. -/
def Num.zero (neg : Bool) : Num := .fin neg 0 0

/-- Finite and not zero. -/
def Num.nonzero : Num → Bool
  | .fin _ m _ => decide (m ≠ 0)
  | _ => false

/-- Not finite. -/
def Num.nonfinite : Num → Bool
  | .fin _ _ _ => false
  | _ => true

/-- floor(log2 |x|) of a finite non-zero value (R47). -/
def Num.floorLog : Num → Int
  | .fin _ m e => (topBit m : Int) + e
  | _ => 0

/-- A finite value times a power of two, which is exact (R60). -/
def Num.scale (x : Num) (k : Int) : Num :=
  match x with
  | .fin s m e => .fin s m (e + k)
  | y => y

/-- The value an element code encodes (R41). -/
def Fmt.decode (f : Fmt) (code : Nat) : Num :=
  if f.isInt then
    let v := signed code f.width
    .fin (decide (v < 0)) v.natAbs 0
  else
    let l := f.layout
    let neg := bit code (l.1 + l.2.1)
    let e := bits code l.2.1 l.1
    let m := bits code 0 l.2.1
    let isNan : Bool := match f with
      | .fp32 | .bf16 | .fp16 | .e5m2 | .mxfp8e5m2 => e == 2 ^ l.1 - 1 && m != 0
      | .e4m3 | .mxfp8e4m3 => e == 15 && m == 7
      | _ => false
    let isInf : Bool := match f with
      | .fp32 | .bf16 | .fp16 | .e5m2 | .mxfp8e5m2 => e == 2 ^ l.1 - 1 && m == 0
      | _ => false
    if isNan then .nan
    else if isInf then .inf neg
    else if e = 0 then .fin neg m (1 - (l.2.2 : Int) - (l.2.1 : Int))
    else .fin neg (m + 2 ^ l.2.1) ((e : Int) - (l.2.2 : Int) - (l.2.1 : Int))

/-- An exact product (the sign of a zero product is that of the factors). -/
def Num.mul (x y : Num) : Num :=
  match x, y with
  | .nan, _ => .nan
  | _, .nan => .nan
  | .inf s, .inf t => .inf (s != t)
  | .inf s, .fin t m _ => if m = 0 then .nan else .inf (s != t)
  | .fin s m _, .inf t => if m = 0 then .nan else .inf (s != t)
  | .fin s m e, .fin t n f => .fin (s != t) (m * n) (e + f)

/-- A signed integer times 2^exp as an exact value. -/
def Num.ofInt (v : Int) (exp : Int) : Num := .fin (decide (v < 0)) v.natAbs exp

/-- The signed mantissa of a finite value on the grid 2^e, for e at most its exponent. -/
def Num.onGrid (x : Num) (e : Int) : Int :=
  match x with
  | .fin s m k => (if s then -1 else 1) * (m : Int) * (2 : Int) ^ (k - e).toNat
  | _ => 0

/-- The exponent of a finite value. -/
def Num.exponent : Num → Int
  | .fin _ _ e => e
  | _ => 0

/-- The exact sum of finite values: a signed mantissa and its exponent. -/
def sumExact (l : List Num) : Int × Int :=
  let e := l.foldl (fun a x => min a x.exponent) 0
  (l.foldl (fun a x => a + x.onGrid e) 0, e)

/-! ### Rounding -/

/-- Rounding decisions: the four attributes of R66, and stochastic rounding with its 32-bit number r (R60, R61). -/
inductive Rounding where
  | rne
  | rtz
  | rup
  | rdn
  | sr (r : Nat)
deriving DecidableEq, Repr

/-- The attribute of a 2-bit rounding field (R66, R121). -/
def Rounding.ofField (n : Nat) : Rounding :=
  if n % 4 = 0 then .rne else if n % 4 = 1 then .rtz else if n % 4 = 2 then .rup else .rdn

/-- Whether a magnitude with retained part `n` and discarded part `lo / 2^sh` rounds up (R60, R61). -/
def Rounding.up (r : Rounding) (neg : Bool) (n lo sh : Nat) : Bool :=
  match r with
  | .rne => decide (2 * lo > 2 ^ sh) || (2 * lo == 2 ^ sh && n % 2 == 1)
  | .rtz => false
  | .rup => !neg && lo != 0
  | .rdn => neg && lo != 0
  | .sr k => decide (2 ^ 32 ≤ lo * 2 ^ 32 / 2 ^ sh + k)

/-- Rounds the magnitude mant x 2^exp to a multiple of 2^q: the multiple, and whether bits were discarded. -/
def roundMag (r : Rounding) (neg : Bool) (mant : Nat) (exp q : Int) : Nat × Bool :=
  if q ≤ exp then (mant * 2 ^ (exp - q).toNat, false)
  else
    let sh := (q - exp).toNat
    let n := mant / 2 ^ sh
    let lo := mant % 2 ^ sh
    (if r.up neg n lo sh then n + 1 else n, decide (lo ≠ 0))

/-- The random number of R61: its finalising mixer, modulo 2^64. -/
def srMix (z : BitVec 64) : BitVec 64 :=
  let z := (z ^^^ (z >>> 30)) * 0xBF58476D1CE4E5B9#64
  let z := (z ^^^ (z >>> 27)) * 0x94D049BB133111EB#64
  z ^^^ (z >>> 31)

/-- sr_bits of R61 over job, step, tensor and element index. -/
def srBits (job step tensor index : Nat) : Nat :=
  let u := srMix (BitVec.ofNat 64 (job * 2 ^ 48 + step % 2 ^ 48) + 0x9E3779B97F4A7C15#64)
  let v := srMix (u ^^^ BitVec.ofNat 64 (tensor * 2 ^ 48 + index % 2 ^ 48))
  v.toNat >>> 32

/-! ### Encoding a rounded value -/

/-- The result of encoding a finite value into a floating-point format: the magnitude code, whether bits were discarded,
whether the rounded magnitude passes the largest finite one, and whether the result is tiny after rounding (R66). -/
structure Encoded where
  code : Nat
  inexact : Bool
  overflow : Bool
  tiny : Bool
deriving DecidableEq, Repr

/-- Rounds a finite magnitude into a format, subnormals kept (R60). -/
def Fmt.roundTo (f : Fmt) (r : Rounding) (neg : Bool) (mant : Nat) (exp : Int) : Encoded :=
  if mant = 0 then { code := 0, inexact := false, overflow := false, tiny := false }
  else
    let l := f.layout
    let m := l.2.1
    let emin : Int := 1 - (l.2.2 : Int)
    let e : Int := (topBit mant : Int) + exp
    let q := max e emin - (m : Int)
    let n := roundMag r neg mant exp q
    let code := (q - (emin - (m : Int))).toNat * 2 ^ m + n.1
    let free := roundMag r neg mant exp (e - (m : Int))
    let tiny := if free.1 = 2 ^ (m + 1) then decide (e + 1 < emin) else decide (e < emin)
    { code := code, inexact := n.2, overflow := decide (f.maxCode < code), tiny := tiny }

/-- The sign bit of a format over its magnitude code. -/
def Fmt.withSign (f : Fmt) (neg : Bool) (code : Nat) : Nat :=
  code + b2n neg * 2 ^ (f.layout.1 + f.layout.2.1)

/-- What a conversion counted (R62, R63): conversion overflows and invalid conversions. -/
structure ConvCount where
  ovf : Nat
  inv : Nat
deriving DecidableEq, Repr

/-- No conversion counted. -/
def ConvCount.zero : ConvCount := { ovf := 0, inv := 0 }

/-- The sum of two conversion counts. -/
def ConvCount.add (a b : ConvCount) : ConvCount := { ovf := a.ovf + b.ovf, inv := a.inv + b.inv }

/-- The largest finite value of a destination with a sign (R63). -/
def Fmt.maxSigned (f : Fmt) (neg : Bool) : Nat :=
  match f with
  | .int32 => if neg then 0x80000000 else 0x7FFFFFFF
  | .int8 => if neg then 0x80 else 0x7F
  | .int4 => if neg then 0x8 else 0x7
  | _ => f.withSign neg f.maxCode

/-- The result of an infinity, under OVS (R62). -/
def Fmt.ofInf (f : Fmt) (ovs neg : Bool) : Nat :=
  if ovs || f.isInt then f.maxSigned neg
  else match f.infCode with
    | some c => f.withSign neg c
    | none => f.nanCode

/-- Whether an attribute rounds an overflow of a sign away from zero (R62). -/
def Rounding.away (r : Rounding) (neg : Bool) : Bool :=
  match r with
  | .rne => true
  | .sr _ => true
  | .rtz => false
  | .rup => !neg
  | .rdn => neg

/-- Converts an exact value to a destination that is no MX format (R60-R63): the code, and what the conversion counts. -/
def Fmt.convert (f : Fmt) (r : Rounding) (ovs : Bool) (x : Num) : Nat × ConvCount :=
  match x with
  | .nan => if f.isInt then (0, { ovf := 0, inv := 1 }) else (f.nanCode, .zero)
  | .inf neg => (f.ofInf ovs neg, { ovf := 1, inv := 0 })
  | .fin neg mant exp =>
    if f.isInt then
      let n := (roundMag r neg mant exp 0).1
      let v : Int := if neg then -(n : Int) else n
      let lim : Int := (2 : Int) ^ (f.width - 1)
      if v < -lim ∨ lim ≤ v then (f.maxSigned neg, { ovf := 1, inv := 0 }) else (unsigned v f.width, .zero)
    else
      let e := f.roundTo r neg mant exp
      if e.overflow then
        if ovs || !r.away neg then (f.maxSigned neg, { ovf := 1, inv := 0 })
        else (f.ofInf false neg, { ovf := 1, inv := 0 })
      else (f.withSign neg e.code, .zero)

/-! ### MX blocks (R42, R64) -/

/-- The exponent of an MX element type's largest normal (R64); BF16 and E5M2 as blocks of R190 use them. -/
def Fmt.emax : Fmt → Int
  | .mxfp8e4m3 => 8
  | .mxfp8e5m2 => 15
  | .mxfp6e3m2 => 4
  | .mxfp6e2m3 => 2
  | .mxfp4e2m1 => 2
  | .bf16 => 127
  | .e5m2 => 15
  | _ => 0

/-- The value an MX element has under its block scale; an element of a block of scale 0xFF is NaN (R41, R57). -/
def Fmt.decodeMx (f : Fmt) (code scale : Nat) : Num :=
  if scale = 0xFF then .nan else (f.decode code).scale ((scale : Int) - 127)

/-- Converts a block of values to an MX block (R64): the scale, the element codes, and the counts of infinities and
overflowed lanes, which R62 counts. `wrapped` marks a lane read with WRAP not 0. -/
def Fmt.convertMx (f : Fmt) (rs : Nat → Rounding) (vals : List (Num × Bool)) : Nat × List Nat × ConvCount :=
  let cnt : ConvCount := { ovf := (vals.filter (fun v => v.2 || match v.1 with | .inf _ => true | _ => false)).length,
                           inv := 0 }
  if vals.any (fun v => v.1.nonfinite || v.2) then (0xFF, vals.map (fun _ => 0), cnt)
  else if vals.all (fun v => !v.1.nonzero) then (0x7F, vals.map (fun _ => 0), cnt)
  else
    let top := (vals.filter (fun v => v.1.nonzero)).foldl (fun a v => max a v.1.floorLog) (-1000000)
    let e : Int := max (-127) (min 127 (top - f.emax))
    let enc := vals.zipIdx.map (fun vi =>
      match vi.1.1 with
      | .fin neg mant exp =>
        let c := f.roundTo (rs vi.2) neg mant (exp - e)
        (f.withSign neg (if c.overflow then f.maxCode else c.code), c.overflow)
      | _ => (0, false))
    let codes := enc.map Prod.fst
    let cnt : ConvCount := { ovf := (enc.filter Prod.snd).length, inv := 0 }
    ((e + 127).toNat, codes, cnt)

/-! ### Lanes of the window (R45, R50-R55) -/

/-- Clamps the window-unit exponent: an anchor A gives ulp_w = 2^(A - 80) (R45). -/
def ulpExp (anchor : Int) : Int := anchor - 80

/-- A term on the window grid: RNE, and whether bits were discarded (R50). -/
def termOf (anchor : Int) (v : Int) (exp : Int) : Int × Bool :=
  let n := roundMag .rne (decide (v < 0)) v.natAbs exp (ulpExp anchor)
  (if v < 0 then -(n.1 : Int) else (n.1 : Int), n.2)

/-- The largest term magnitude (R51). -/
def termMax : Int := (2 : Int) ^ 95 - 1

/-- Adds an integer on the grid to a lane: modulo 2^96 with the wrap count (R52). -/
def Lane.addInt (l : Lane) (t : Int) : Lane :=
  let sum := l.w.toInt + t
  let w := BitVec.ofInt 96 sum
  { l with w := w, wrap := l.wrap + BitVec.ofInt 32 ((sum - w.toInt) / (2 : Int) ^ 96) }

/-- Adds one finite term to a lane with its rounding and saturation counts (R50, R51). -/
def Lane.addTerm (l : Lane) (anchor : Int) (v exp : Int) : Lane :=
  let t := termOf anchor v exp
  let l := if t.2 then { l with rnd := min 65535 (l.rnd + 1) } else l
  if termMax < t.1 then { l.addInt termMax with tsat := min 4095 (l.tsat + 1) }
  else if t.1 < -termMax then { l.addInt (-termMax) with tsat := min 4095 (l.tsat + 1) }
  else l.addInt t.1

/-- Counts n non-finite products of a class (R57). -/
def Lane.addSide (l : Lane) (x : Num) (n : Nat) : Lane :=
  match x with
  | .nan => { l with nan := min 4095 (l.nan + n) }
  | .inf false => { l with pinf := min 4095 (l.pinf + n) }
  | .inf true => { l with ninf := min 4095 (l.ninf + n) }
  | .fin _ _ _ => l

/-- Adds one product as a term, or counts it (R49, R57). -/
def Lane.addProduct (l : Lane) (anchor : Int) (x : Num) : Lane :=
  match x with
  | .fin s m e => l.addTerm anchor (if s then -(m : Int) else m) e
  | y => l.addSide y 1

/-- Adds another lane: W and WRAP as in R52, counts saturating (R55). -/
def Lane.add (a b : Lane) : Lane :=
  let l := a.addInt b.w.toInt
  { l with wrap := l.wrap + b.wrap, rnd := min 65535 (a.rnd + b.rnd), tsat := min 4095 (a.tsat + b.tsat),
           pinf := min 4095 (a.pinf + b.pinf), ninf := min 4095 (a.ninf + b.ninf), nan := min 4095 (a.nan + b.nan) }

/-- A lane in overflow (R59). -/
def Lane.overflow (l : Lane) : Bool := l.tsat != 0 || l.wrap != 0

/-- The 24 bytes of a lane (R53, R65). -/
def Lane.toNat (l : Lane) : Nat :=
  l.w.toNat + (l.wrap.toNat + l.rnd % 2 ^ 16 * 2 ^ 32 + l.tsat % 2 ^ 12 * 2 ^ 48 + l.pinf % 2 ^ 12 * 2 ^ 60 +
    l.ninf % 2 ^ 12 * 2 ^ 72 + l.nan % 2 ^ 12 * 2 ^ 84) * 2 ^ 96

/-- The lane that 24 bytes spell (R65). -/
def Lane.ofNat (x : Nat) : Lane :=
  let s := x >>> 96
  { w := BitVec.ofNat 96 x, wrap := BitVec.ofNat 32 s, rnd := bits s 32 16, tsat := bits s 48 12,
    pinf := bits s 60 12, ninf := bits s 72 12, nan := bits s 84 12 }

/-- The value a lane reads out as (R58), and whether rule 3 applied (WRAP not 0). -/
def Lane.readout (l : Lane) (anchor : Int) : Num × Bool :=
  if l.nan ≠ 0 ∨ (l.pinf ≠ 0 ∧ l.ninf ≠ 0) then (.nan, false)
  else if l.pinf ≠ 0 then (.inf false, false)
  else if l.ninf ≠ 0 then (.inf true, false)
  else if l.wrap ≠ 0 then (.fin (decide (l.wrap.toInt < 0)) 0 0, true)
  else (Num.ofInt l.w.toInt (ulpExp anchor), false)

/-- Reads a lane out into a destination that is no MX format (R58-R63). -/
def Lane.convert (l : Lane) (f : Fmt) (anchor : Int) (r : Rounding) (osc : Int) (ovs : Bool) : Nat × ConvCount :=
  let v := l.readout anchor
  if v.2 then (f.maxSigned (decide (l.wrap.toInt < 0)), { ovf := 1, inv := 0 })
  else f.convert r ovs (v.1.scale osc)

end Sys2Proof.Machine
end

