-- ==== Sys2Proof/Machine/VecFun.lean ====
section
/-! DEFINITION. The functions of R69 to 400 fractional bits, and the binary32 results that lie within a given number of ulp of
one. The manual bounds the error of each function and does not give its coefficient tables, so a result is any of these. -/

namespace Sys2Proof.Machine
open Sys2Proof

/-! ### Fixed point with 400 fractional bits -/

/-- 1. -/
def fxOne : Nat := 2 ^ 400

/-- ln 2. -/
def fxLn2 : Nat := 0xb17217f7d1cf79abc9e3b39803f2f6af40f343267298b62d8a0d175b8baafa2be7b876206debac98559552fb4afa1b10ed2e

/-- pi. -/
def fxPi : Nat := 0x3243f6a8885a308d313198a2e03707344a4093822299f31d0082efa98ec4e6c89452821e638d01377be5466cf34e90c6cc0ac

/-- 2 / sqrt pi. -/
def fxErf : Nat := 0x120dd750429b6d11ae3a914fed7fd8688281341d7587cea2e7342b06199cc416180eb39f0b24e1e2281806c12d98f35d77a3e

/-- A product. -/
def fxMul (a b : Nat) : Nat := a * b / fxOne

/-- The terms r^n / n! from one on: e^r for r below 1. -/
def expSeries (r : Nat) : Nat → Nat → Nat → Nat
  | 0, _, _ => 0
  | fuel + 1, n, t => t + expSeries r fuel (n + 1) (fxMul t r / (n + 1))

/-- e^r for 0 ≤ r < 1. -/
def fxExp (r : Nat) : Nat := expSeries r 90 0 fxOne

/-- The terms of a sine (from n = 1, t = r) or cosine (from n = 0, t = 1), signs alternating; `q` is r^2. -/
def trigSeries (q : Nat) : Nat → Nat → Int → Nat → Int
  | 0, _, _, _ => 0
  | fuel + 1, n, s, t => s * t + trigSeries q fuel (n + 2) (-s) (fxMul t q / ((n + 1) * (n + 2)))

/-- sin r for 0 ≤ r < 2. -/
def fxSin (r : Nat) : Int := trigSeries (fxMul r r) 90 1 1 r

/-- cos r for 0 ≤ r < 2. -/
def fxCos (r : Nat) : Int := trigSeries (fxMul r r) 90 0 1 fxOne

/-- The terms z^n / n over odd n: artanh z. -/
def artanhSeries (q : Nat) : Nat → Nat → Nat → Nat
  | 0, _, _ => 0
  | fuel + 1, n, t => t / n + artanhSeries q fuel (n + 2) (fxMul t q)

/-- artanh z for 0 ≤ z ≤ 1/5. -/
def fxArtanh (z : Nat) : Nat := artanhSeries (fxMul z z) 100 1 z

/-- The terms of the error function: x^(2n+1) / n! over 2n + 1, signs alternating; `q` is x^2. -/
def erfSeries (q : Nat) : Nat → Nat → Int → Nat → Int
  | 0, _, _, _ => 0
  | fuel + 1, n, s, t => s * (t / (2 * n + 1) : Nat) + erfSeries q fuel (n + 1) (-s) (fxMul t q / (n + 1))

/-- erf x for 0 ≤ x < 8. -/
def fxErfOf (x : Nat) : Nat := fxMul (erfSeries (fxMul x x) 420 0 1 x).toNat fxErf

/-- e^-y for y ≥ 0. -/
def fxExpNeg (y : Nat) : Nat :=
  let n := y / fxLn2 + 1
  fxExp (n * fxLn2 - y) >>> n

/-! ### Values of the functions -/

/-- A real number known closely: mant x 2^exp, wrong by less than `slack` in mant, or exact. -/
structure Close where
  neg : Bool
  mant : Nat
  exp : Int
  exact : Bool
  slack : Nat := 2 ^ 20
deriving DecidableEq, Repr

/-- A fixed-point value. -/
def Close.fx (v : Int) : Close := { neg := decide (v < 0), mant := v.natAbs, exp := -400, exact := false }

/-- The magnitude mant x 2^exp of a binary32 value in fixed point, for an exponent of -400 and above. -/
def fxOf (m : Nat) (e : Int) : Nat := m * 2 ^ (e + 400).toNat

/-- 1/x. -/
def closeRcp (neg : Bool) (m : Nat) (e : Int) : Close :=
  { neg := neg, mant := fxOne / m, exp := -400 - e, exact := fxOne % m == 0 }

/-- 1/sqrt x. -/
def closeRsq (m : Nat) (e : Int) : Close :=
  let m := if e % 2 = 0 then m else 2 * m
  let e := if e % 2 = 0 then e else e - 1
  let a := Nat.sqrt (2 ^ 800 / m)
  { neg := false, mant := a, exp := -400 - e / 2, exact := a * a * m == 2 ^ 800 }

/-- 2^n x e^r. -/
def closeScaled (n : Int) (r : Nat) (exact : Bool) : Close :=
  { neg := false, mant := fxExp r, exp := n - 400, exact := exact }

/-- 2^x. -/
def closeExp2 (neg : Bool) (m : Nat) (e : Int) : Close :=
  let x : Int := if neg then -(fxOf m e : Int) else fxOf m e
  let f := (x % (fxOne : Int)).toNat
  closeScaled (x / (fxOne : Int)) (fxMul f fxLn2) (f == 0)

/-- e^x. -/
def closeExp (neg : Bool) (m : Nat) (e : Int) : Close :=
  let x : Int := if neg then -(fxOf m e : Int) else fxOf m e
  closeScaled (x / (fxLn2 : Int)) (x % (fxLn2 : Int)).toNat false

/-- The binary logarithm's integer part and the natural logarithm of the rest, for a rest from 2/3 to 4/3. -/
def logParts (m : Nat) (e : Int) : Int × Int :=
  let b := topBit m
  let y := m * 2 ^ (400 - b)
  let low := decide (3 * y ≤ 4 * fxOne)
  let y := if low then y else y / 2
  let k := (b : Int) + e + (if low then 0 else 1)
  let up := decide (fxOne ≤ y)
  let z := (if up then y - fxOne else fxOne - y) * fxOne / (y + fxOne)
  let l : Int := 2 * (fxArtanh z : Int)
  (k, if up then l else -l)

/-- ln x. -/
def closeLn (m : Nat) (e : Int) : Close :=
  let p := logParts m e
  Close.fx (p.1 * (fxLn2 : Int) + p.2)

/-- log2 x. -/
def closeLog2 (m : Nat) (e : Int) : Close :=
  let p := logParts m e
  let v := p.1 * (fxOne : Int) + p.2 * (fxOne : Int) / (fxLn2 : Int)
  if m = 2 ^ topBit m then { Close.fx (((topBit m : Int) + e) * (fxOne : Int)) with exact := true } else Close.fx v

/-- sin x or cos x, by the quadrant of x. -/
def closeTrig (cosine : Bool) (neg : Bool) (m : Nat) (e : Int) : Close :=
  let x := fxOf m e
  let half := fxPi / 2
  let q := (x / half + (if cosine then 1 else 0)) % 4
  let r := x % half
  let v := if q % 2 = 0 then fxSin r else fxCos r
  let v := if q < 2 then v else -v
  { Close.fx (if neg && !cosine then -v else v) with slack := (x / half + 1) * 2 ^ 10 }

/-- tanh x. -/
def closeTanh (neg : Bool) (m : Nat) (e : Int) : Close :=
  let x := fxOf m e
  let t := if 64 * fxOne ≤ x then 2 ^ 60 else fxExpNeg (2 * x)
  let v : Int := ((fxOne - t) * fxOne / (fxOne + t) : Nat)
  Close.fx (if neg then -v else v)

/-- 1 / (1 + e^-x). -/
def closeSigm (neg : Bool) (m : Nat) (e : Int) : Close :=
  let x := fxOf m e
  let t := if 128 * fxOne ≤ x then 2 ^ 60 else fxExpNeg x
  Close.fx (((if neg then t else fxOne) * fxOne / (fxOne + t) : Nat) : Int)

/-- erf x. -/
def closeErf (neg : Bool) (m : Nat) (e : Int) : Close :=
  let x := fxOf m e
  let v : Int := if 8 * fxOne ≤ x then (fxOne : Int) - 2 ^ 150 else (fxErfOf x : Int)
  { Close.fx (if neg then -v else v) with slack := 2 ^ 110 }

/-! ### Results within a bound -/

/-- The magnitude a binary32 code stands for, in units of 2^exp; the code of infinity stands for 2^128. -/
def codeUnits (exp : Int) (c : Nat) : Nat :=
  let f := if c < 2 ^ 23 then c else c % 2 ^ 23 + 2 ^ 23
  f * 2 ^ ((max (c / 2 ^ 23) 1 : Nat) - 150 - exp).toNat

/-- The magnitude codes within k ulp of a real number, an ulp being that of the number in binary32 (R69). -/
def Close.codes (a : Close) (k : Nat) : List Nat :=
  let u : Int := max ((topBit a.mant : Int) + a.exp - 23) (-149)
  let far := k * 2 ^ (u - a.exp).toNat + (if a.exact then 0 else a.slack)
  let c0 := (u + 149).toNat * 2 ^ 23 + a.mant / 2 ^ (u - a.exp).toNat
  let lo := min (c0 - 2 * k) 0x7F800000
  ((List.range (3 * k + 2)).map (lo + ·)).filter (fun c =>
    let v := codeUnits a.exp c
    c ≤ 0x7F800000 && v ≤ a.mant + far && (a.mant ≤ v + far || c == 0x7F800000))

/-- One of the codes, by a free number. -/
def Close.pick (a : Close) (k free : Nat) : Nat := ((a.codes k)[free % (a.codes k).length]?).getD 0

end Sys2Proof.Machine
end

