-- ==== Sys2Proof/Machine/Flags.lean ====
section
/-! DEFINITION. The vector unit's binary32 arithmetic with its sticky flags (R66-R70): one rounding for each operation, tininess
after rounding, flush-to-zero, canonical NaN results, and the flag each condition sets. -/

namespace Sys2Proof.Machine
open Sys2Proof

/-- Sticky flag bits of VSTS.FLAGS (R120): invalid, division-by-zero, overflow, underflow, inexact. -/
def flagInvalid : Nat := 1
def flagDivZero : Nat := 2
def flagOverflow : Nat := 4
def flagUnderflow : Nat := 8
def flagInexact : Nat := 16

/-- A lane result with the flags it sets. -/
structure FpResult where
  bits : Lane32
  flags : Nat
deriving DecidableEq, Repr

/-- The canonical NaN of the vector unit (R68). -/
def fpNan : Lane32 := 0x7FC00000

/-- A NaN result with a flag word. -/
def FpResult.nan (flags : Nat) : FpResult := { bits := fpNan, flags := flags }

/-- An infinity. -/
def fpInf (neg : Bool) : Lane32 := BitVec.ofNat 32 (Fmt.fp32.withSign neg 0x7F800000)

/-- A zero. -/
def fpZero (neg : Bool) : Lane32 := BitVec.ofNat 32 (Fmt.fp32.withSign neg 0)

/-- Whether a binary32 pattern is subnormal. -/
def fpSubnormal (x : Lane32) : Bool := bits x.toNat 23 8 == 0 && bits x.toNat 0 23 != 0

/-- The operand value, a subnormal read as zero of its sign under FTZ (R67). -/
def fpIn (ftz : Bool) (x : Lane32) : Num :=
  if ftz && fpSubnormal x then .zero (bit x.toNat 31) else Fmt.fp32.decode x.toNat

/-- Rounds an exact finite value to binary32 with its flags; a subnormal result is flushed under FTZ (R66, R67). -/
def fpRound (r : Rounding) (ftz : Bool) (neg : Bool) (mant : Nat) (exp : Int) : FpResult :=
  let e := Fmt.fp32.roundTo r neg mant exp
  if e.overflow then
    { bits := if r.away neg then fpInf neg else BitVec.ofNat 32 (Fmt.fp32.withSign neg Fmt.fp32.maxCode),
      flags := flagOverflow + flagInexact }
  else
    let out := BitVec.ofNat 32 (Fmt.fp32.withSign neg e.code)
    if ftz && fpSubnormal out then { bits := fpZero neg, flags := flagUnderflow + flagInexact }
    else { bits := out, flags := (if e.tiny && e.inexact then flagUnderflow else 0) + (if e.inexact then flagInexact else 0) }

/-- The sign of an exact zero sum (IEEE 754-2019): that of equal signs, else + but under roundTowardNegative. -/
def zeroSumSign (r : Rounding) (s t : Bool) : Bool :=
  if s = t then s else match r with | .rdn => true | _ => false

/-- Addition of exact values, rounded once. -/
def fpAddNum (r : Rounding) (ftz : Bool) (x y : Num) : FpResult :=
  match x, y with
  | .nan, _ => .nan 0
  | _, .nan => .nan 0
  | .inf s, .inf t => if s = t then { bits := fpInf s, flags := 0 } else .nan flagInvalid
  | .inf s, .fin _ _ _ => { bits := fpInf s, flags := 0 }
  | .fin _ _ _, .inf t => { bits := fpInf t, flags := 0 }
  | .fin s m e, .fin t n f =>
    let g := min e f
    let v := (Num.fin s m e).onGrid g + (Num.fin t n f).onGrid g
    if v = 0 then { bits := fpZero (zeroSumSign r s t), flags := 0 }
    else fpRound r ftz (decide (v < 0)) v.natAbs g

/-- Addition (R66). -/
def fpAdd (r : Rounding) (ftz : Bool) (x y : Lane32) : FpResult := fpAddNum r ftz (fpIn ftz x) (fpIn ftz y)

/-- Negation of a bit pattern's sign. -/
def fpNegBits (x : Lane32) : Lane32 := x ^^^ 0x80000000#32

/-- Negation of an exact value. -/
def Num.neg : Num → Num
  | .fin s m e => .fin (!s) m e
  | .inf s => .inf (!s)
  | .nan => .nan

/-- Subtraction. -/
def fpSub (r : Rounding) (ftz : Bool) (x y : Lane32) : FpResult := fpAddNum r ftz (fpIn ftz x) (fpIn ftz y).neg

/-- Whether a product is the invalid one of infinity and zero. -/
def mulInvalid (x y : Num) : Bool :=
  match x, y with
  | .inf _, .fin _ m _ => decide (m = 0)
  | .fin _ m _, .inf _ => decide (m = 0)
  | _, _ => false

/-- Multiplication. -/
def fpMul (r : Rounding) (ftz : Bool) (x y : Lane32) : FpResult :=
  let a := fpIn ftz x
  let b := fpIn ftz y
  match a.mul b with
  | .nan => .nan (if mulInvalid a b then flagInvalid else 0)
  | .inf s => { bits := fpInf s, flags := 0 }
  | .fin s m e => if m = 0 then { bits := fpZero s, flags := 0 } else fpRound r ftz s m e

/-- Fused multiply-add: one rounding after the exact product-sum (R66). -/
def fpFma (r : Rounding) (ftz : Bool) (x y z : Lane32) : FpResult :=
  let a := fpIn ftz x
  let b := fpIn ftz y
  if mulInvalid a b then .nan flagInvalid else fpAddNum r ftz (a.mul b) (fpIn ftz z)

/-- Division, correctly rounded: a quotient of 64 and more bits whose last bit is sticky. -/
def fpDiv (r : Rounding) (ftz : Bool) (x y : Lane32) : FpResult :=
  match fpIn ftz x, fpIn ftz y with
  | .nan, _ => .nan 0
  | _, .nan => .nan 0
  | .inf _, .inf _ => .nan flagInvalid
  | .inf s, .fin t _ _ => { bits := fpInf (s != t), flags := 0 }
  | .fin s _ _, .inf t => { bits := fpZero (s != t), flags := 0 }
  | .fin s m e, .fin t n f =>
    if m = 0 ∧ n = 0 then .nan flagInvalid
    else if n = 0 then { bits := fpInf (s != t), flags := flagDivZero }
    else if m = 0 then { bits := fpZero (s != t), flags := 0 }
    else
      let q := m * 2 ^ 64 / n
      let rest := m * 2 ^ 64 % n
      fpRound r ftz (s != t) (2 * q + b2n (rest != 0)) (e - f - 65)

/-- Square root, correctly rounded. -/
def fpSqrt (r : Rounding) (ftz : Bool) (x : Lane32) : FpResult :=
  match fpIn ftz x with
  | .nan => .nan 0
  | .inf s => if s then .nan flagInvalid else { bits := fpInf false, flags := 0 }
  | .fin s m e =>
    if m = 0 then { bits := fpZero s, flags := 0 }
    else if s then .nan flagInvalid
    else
      let odd := e % 2 ≠ 0
      let m' := (if odd then 2 * m else m) * 2 ^ 64
      let e' := (if odd then e - 1 else e) - 64
      let q := Nat.sqrt m'
      fpRound r ftz false (2 * q + b2n (q * q != m')) (e' / 2 - 1)

/-- Compares two exact values that are no NaN: -1, 0, 1. -/
def Num.cmp (x y : Num) : Int :=
  match x, y with
  | .inf s, .inf t => if s = t then 0 else if s then -1 else 1
  | .inf s, _ => if s then -1 else 1
  | _, .inf t => if t then 1 else -1
  | a, b =>
    let g := min a.exponent b.exponent
    let d := a.onGrid g - b.onGrid g
    if d < 0 then -1 else if d = 0 then 0 else 1

/-- Whether a value is a NaN. -/
def Num.isNan : Num → Bool
  | .nan => true
  | _ => false

/-- IEEE 754-2019 minimum and maximum: a NaN propagates, -0 is less than +0 (R66). -/
def fpMinMax (isMax ftz : Bool) (x y : Lane32) : FpResult :=
  let a := fpIn ftz x
  let b := fpIn ftz y
  if a.isNan || b.isNan then .nan 0
  else
    let c := a.cmp b
    let xLess := decide (c < 0) || (c == 0 && bit x.toNat 31)
    let pick := if isMax then (if xLess then y else x) else (if xLess then x else y)
    { bits := if ftz && fpSubnormal pick then fpZero (bit pick.toNat 31) else pick, flags := 0 }

/-- Absolute value and negation are sign operations on the pattern; a NaN result is the canonical one (R68). -/
def fpSignOp (ftz : Bool) (f : Lane32 → Lane32) (x : Lane32) : FpResult :=
  match fpIn ftz x with
  | .nan => .nan 0
  | _ => let y := f x
         { bits := if ftz && fpSubnormal y then fpZero (bit y.toNat 31) else y, flags := 0 }

/-- A comparison of lanes: equality is quiet; the ordered comparisons of a NaN are false and invalid. -/
def fpCompare (ordered : Bool) (ftz : Bool) (test : Int → Bool) (x y : Lane32) : Bool × Nat :=
  let a := fpIn ftz x
  let b := fpIn ftz y
  if a.isNan || b.isNan then (false, if ordered then flagInvalid else 0) else (test (a.cmp b), 0)

/-- Converts an int32 lane to binary32 (VCVTIF). -/
def fpOfInt (r : Rounding) (ftz : Bool) (x : Lane32) : FpResult :=
  if x = 0 then { bits := 0, flags := 0 } else fpRound r ftz (decide (x.toInt < 0)) x.toInt.natAbs 0

/-- Converts a binary32 lane to int32, saturating (VCVTFI, R122): the lane, the flags, and the conversion counts. -/
def fpToInt (r : Rounding) (ftz : Bool) (x : Lane32) : FpResult × ConvCount :=
  let v := fpIn ftz x
  let c := Fmt.int32.convert r false v
  let inexact : Bool := match v with | .fin neg m e => (roundMag r neg m e 0).2 | _ => false
  let flags := if c.2.ovf ≠ 0 ∨ c.2.inv ≠ 0 then flagInvalid else if inexact then flagInexact else 0
  ({ bits := BitVec.ofNat 32 c.1, flags := flags }, c.2)

/-- The vector functions of R69 by their function code. -/
inductive VecFn where
  | rcp
  | rsq
  | exp2
  | log2
  | expe
  | ln
  | sin
  | cos
  | tanh
  | sigm
  | erf
deriving DecidableEq, Repr

/-- The function code of R119. -/
def VecFn.code : VecFn → Nat
  | .rcp => 0x10
  | .rsq => 0x11
  | .exp2 => 0x12
  | .log2 => 0x13
  | .expe => 0x14
  | .ln => 0x15
  | .sin => 0x16
  | .cos => 0x17
  | .tanh => 0x18
  | .sigm => 0x19
  | .erf => 0x1A

/-- The error bound of a function in ulp (R69). -/
def VecFn.ulps : VecFn → Nat
  | .rcp => 1
  | .rsq => 1
  | .exp2 => 1
  | .log2 => 1
  | _ => 2

/-- The real value of a function at a finite non-zero operand in its domain. -/
def VecFn.value (fn : VecFn) (neg : Bool) (m : Nat) (e : Int) : Close :=
  match fn with
  | .rcp => closeRcp neg m e
  | .rsq => closeRsq m e
  | .exp2 => closeExp2 neg m e
  | .log2 => closeLog2 m e
  | .expe => closeExp neg m e
  | .ln => closeLn m e
  | .sin => closeTrig false neg m e
  | .cos => closeTrig true neg m e
  | .tanh => closeTanh neg m e
  | .sigm => closeSigm neg m e
  | .erf => closeErf neg m e

/-- A result the manual's rules bound and do not fix (R69): a free one of the binary32 values within the error bound, with the flags of
that value; a subnormal one is flushed under FTZ (R67). -/
def fpFree (ftz : Bool) (fn : VecFn) (x : Lane32) (neg : Bool) (m : Nat) (e : Int) : FpResult :=
  let a := fn.value neg m e
  let c := a.pick fn.ulps (Config.vectorFunction fn.code x).toNat
  let inexact := !(a.exact && codeUnits a.exp c == a.mant)
  let out := BitVec.ofNat 32 (Fmt.fp32.withSign a.neg c)
  if c = 0x7F800000 then { bits := out, flags := flagOverflow + flagInexact }
  else if ftz && fpSubnormal out then { bits := fpZero a.neg, flags := flagUnderflow + flagInexact }
  else { bits := out, flags := (if inexact then flagInexact + (if c < 2 ^ 23 then flagUnderflow else 0) else 0) }

/-- Whether a finite value is at least an integer bound. -/
def Num.atLeast (x : Num) (k : Int) : Bool := decide (0 ≤ x.cmp (Num.ofInt k 0))

/-- Whether a value is below an integer bound. -/
def Num.below (x : Num) (k : Int) : Bool := decide (x.cmp (Num.ofInt k 0) < 0)

/-- 2^x and e^x outside their range: +Inf at and above 128, +0 below -150 (R69); the infinities follow. -/
def fpExp (ftz : Bool) (fn : VecFn) (x : Lane32) : FpResult :=
  match fpIn ftz x with
  | .nan => .nan 0
  | .inf s => { bits := if s then fpZero false else fpInf false, flags := 0 }
  | .fin s m e =>
    if (Num.fin s m e).atLeast 128 then { bits := fpInf false, flags := flagOverflow + flagInexact }
    else if (Num.fin s m e).below (-150) then { bits := fpZero false, flags := flagUnderflow + flagInexact }
    else if m = 0 then { bits := 0x3F800000, flags := 0 }
    else fpFree ftz fn x s m e

/-- log2 and ln: zero gives -Inf, a negative value NaN (R69). -/
def fpLog (ftz : Bool) (fn : VecFn) (x : Lane32) : FpResult :=
  match fpIn ftz x with
  | .nan => .nan 0
  | .inf s => if s then .nan flagInvalid else { bits := fpInf false, flags := 0 }
  | .fin s m e =>
    if m = 0 then { bits := fpInf true, flags := flagDivZero }
    else if s then .nan flagInvalid
    else if (Num.fin s m e).cmp (Num.ofInt 1 0) = 0 then { bits := fpZero false, flags := 0 }
    else fpFree ftz fn x s m e

/-- sin and cos over the whole finite range: an infinity gives NaN; at zero they are exact. -/
def fpTrig (ftz : Bool) (fn : VecFn) (x : Lane32) : FpResult :=
  match fpIn ftz x with
  | .nan => .nan 0
  | .inf _ => .nan flagInvalid
  | .fin s m e =>
    if m ≠ 0 then fpFree ftz fn x s m e
    else { bits := if fn = .cos then 0x3F800000 else fpZero (bit x.toNat 31), flags := 0 }

/-- tanh, sigmoid and erf: their limits are exact (R69). -/
def fpLimit (ftz : Bool) (fn : VecFn) (x : Lane32) : FpResult :=
  match fpIn ftz x with
  | .nan => .nan 0
  | .inf s =>
    { bits := if fn = .sigm then (if s then fpZero false else 0x3F800000)
              else (if s then 0xBF800000 else 0x3F800000), flags := 0 }
  | .fin s m e =>
    if m ≠ 0 then fpFree ftz fn x s m e
    else { bits := if fn = .sigm then 0x3F000000 else fpZero (bit x.toNat 31), flags := 0 }

/-- Reciprocal and reciprocal square root: a zero gives an infinity of its sign with division-by-zero, a negative value under
the root NaN (R69). -/
def fpRecip (ftz : Bool) (fn : VecFn) (x : Lane32) : FpResult :=
  match fpIn ftz x with
  | .nan => .nan 0
  | .inf s => if fn = .rsq ∧ s then .nan flagInvalid else { bits := fpZero s, flags := 0 }
  | .fin s m e =>
    if m = 0 then { bits := fpInf s, flags := flagDivZero }
    else if fn = .rsq ∧ s then .nan flagInvalid
    else fpFree ftz fn x s m e

/-- A function of R69. -/
def fpFunction (fn : VecFn) (ftz : Bool) (x : Lane32) : FpResult :=
  match fn with
  | .rcp => fpRecip ftz fn x
  | .rsq => fpRecip ftz fn x
  | .exp2 => fpExp ftz fn x
  | .expe => fpExp ftz fn x
  | .log2 => fpLog ftz fn x
  | .ln => fpLog ftz fn x
  | .sin => fpTrig ftz fn x
  | .cos => fpTrig ftz fn x
  | .tanh => fpLimit ftz fn x
  | .sigm => fpLimit ftz fn x
  | .erf => fpLimit ftz fn x

/-- Flushes a subnormal pattern under FTZ (R67). -/
def fpFlush (ftz : Bool) (x : Lane32) : Lane32 := if ftz && fpSubnormal x then fpZero (bit x.toNat 31) else x

/-- The split of R70: hi with the low 16 bits cleared, lo the BF16 rounding of the exact rest; hi = x, lo = +0 where x is not
finite. -/
def fpSplit (ftz : Bool) (y : Lane32) : Lane32 × FpResult :=
  let x := fpFlush ftz y
  match Fmt.fp32.decode x.toNat with
  | .fin _ _ _ =>
    let hi := x &&& 0xFFFF0000#32
    let d := sumExact [Fmt.fp32.decode x.toNat, (Fmt.fp32.decode hi.toNat).neg]
    let lo := Fmt.bf16.roundTo .rne (decide (d.1 < 0)) d.1.natAbs d.2
    let out := BitVec.ofNat 32 (Fmt.bf16.withSign (decide (d.1 < 0)) lo.code * 2 ^ 16)
    let flags := if ftz && fpSubnormal out then flagUnderflow + flagInexact
      else if lo.inexact then flagInexact + (if lo.tiny then flagUnderflow else 0) else 0
    (fpFlush ftz hi, { bits := fpFlush ftz out, flags := flags })
  | _ => (x, { bits := 0, flags := 0 })

end Sys2Proof.Machine
end

