-- ==== Sys2Proof/Machine/Regs.lean ====
section
/-! DEFINITION. The register map of BAR0 (R459): offsets by name, and for every register its Reset value, its RW, W1C and WO
bits, and who may write or read it (R10-R15). Offsets are absolute in BAR0. -/

namespace Sys2Proof.Machine

/-- What the register tables say of one register: Reset value, masks of RW, W1C and WO bits, whether only the management
function or Isrek may write it, and whether reads from PF0 are privileged (R415). -/
structure RegInfo where
  reset : Nat
  rw : Nat
  w1c : Nat
  wo : Nat
  mgmt : Bool
  priv : Bool
deriving DecidableEq, Repr

/-- A read-only register. -/
def RegInfo.ro (reset : Nat) : RegInfo := { reset := reset, rw := 0, w1c := 0, wo := 0, mgmt := false, priv := false }

/-- A register with RW bits. -/
def RegInfo.rwReg (reset mask : Nat) : RegInfo :=
  { reset := reset, rw := mask, w1c := 0, wo := 0, mgmt := false, priv := false }

/-- A register with RW bits that only PF1 or Isrek may write. -/
def RegInfo.rwMgmt (reset mask : Nat) : RegInfo :=
  { reset := reset, rw := mask, w1c := 0, wo := 0, mgmt := true, priv := false }

/-- A read-only register whose writes count as refused from PF0. -/
def RegInfo.roMgmt (reset : Nat) : RegInfo :=
  { reset := reset, rw := 0, w1c := 0, wo := 0, mgmt := true, priv := false }

/-- A register with WO bits that only PF1 or Isrek may write. -/
def RegInfo.woMgmt (mask : Nat) : RegInfo :=
  { reset := 0, rw := 0, w1c := 0, wo := mask, mgmt := true, priv := false }

/-- All 64 bits. -/
def all64 : Nat := 0xFFFFFFFFFFFFFFFF

/-- Registers of an array: `base + stride * k` for `k < n` (the index, if the offset is one of them). -/
def arrayIndex (off base stride n : Nat) : Option Nat :=
  if base ≤ off ∧ off < base + stride * n ∧ (off - base) % stride = 0 then some ((off - base) / stride) else none

/-! ### HIF (R5, R143, R464) -/

def Reg.hifId : Nat := 0x0000
def Reg.hifStat : Nat := 0x0008
def Reg.hifBs : Nat := 0x0010
def Reg.hifAper : Nat := 0x0018
def Reg.hifIrqStat : Nat := 0x0020
def Reg.hifIrqEn : Nat := 0x0028
def Reg.hifRefuse : Nat := 0x0030
def Reg.hifOffline : Nat := 0x0038
def Reg.hifBst (k : Nat) : Nat := 0x0100 + 8 * k
def Reg.hifBstart : Nat := 0x0150
def Reg.hifSample (w : Nat) : Nat := 0x0200 + 8 * w
def Reg.hifRefused : Nat := 0x0400
def Reg.hifLinkdown : Nat := 0x0408
def Reg.hifBar2Poison : Nat := 0x0410
def Reg.hifSubBase : Nat := 0x1000
def Reg.hifSubCtl : Nat := 0x1008
def Reg.hifSubStat : Nat := 0x1010
def Reg.hifCstat (c : Nat) : Nat := 0x2000 + 0x20 * c
def Reg.hifCexc0 (c : Nat) : Nat := 0x2008 + 0x20 * c
def Reg.hifCexc1 (c : Nat) : Nat := 0x2010 + 0x20 * c
def Reg.msixTable : Nat := 0x4000
def Reg.msixPba : Nat := 0x4800

/-- HIF registers of which each function has its own copy (R459). -/
def perFunction (off : Nat) : Bool :=
  off == Reg.hifAper || off == Reg.hifIrqStat || off == Reg.hifIrqEn || (0x4000 ≤ off && off < 0x4080) || off == 0x4800

/-- The key of a register in the register file: PF1's copies lie one BAR0 above PF0's. -/
def regKey (pf off : Nat) : Nat := if perFunction off && pf != 0 then off + 0x4000000 else off

/-- The HIF block. -/
def hifInfo (off : Nat) : Option RegInfo :=
  if off = Reg.hifId then some (.ro 0x000003FF01213240)
  else if off = Reg.hifStat then some (.ro 0)
  else if off = Reg.hifBs then some (.ro 0)
  else if off = Reg.hifAper then some (.rwReg 0 0x0000FFFFC0000000)
  else if off = Reg.hifIrqStat then some { RegInfo.ro 0 with w1c := 0xFF }
  else if off = Reg.hifIrqEn then some (.rwReg 0 0xFF)
  else if off = Reg.hifRefuse then some (.ro 0)
  else if off = Reg.hifOffline then some (.woMgmt 1)
  else if (arrayIndex off 0x100 8 10).isSome then some (.ro 0)
  else if off = Reg.hifBstart then some (.ro 0)
  else if off = 0x200 ∨ off = 0x208 ∨ off = 0x210 then some { RegInfo.ro 0 with w1c := all64 }
  else if off = Reg.hifRefused ∨ off = Reg.hifLinkdown ∨ off = Reg.hifBar2Poison then some (.ro 0)
  else if off = Reg.hifSubBase then some (.rwReg 0 0x0000FFFFFFFFFFFF)
  else if off = Reg.hifSubCtl then some (.rwReg 0 0x07FF0001)
  else if off = Reg.hifSubStat then some (.ro 0)
  else if (arrayIndex off 0x2000 0x20 192).isSome then some { RegInfo.ro 0 with w1c := 0xF8 }
  else if (arrayIndex off 0x2008 0x20 192).isSome then some { RegInfo.ro 0 with w1c := 0xC00 }
  else if (arrayIndex off 0x2010 0x20 192).isSome then some (.ro 0)
  else match arrayIndex off 0x4000 8 16 with
    | some k => some (if k % 2 = 0 then .rwReg 0 all64 else .rwReg 0x100000000 0x1FFFFFFFF)
    | none => if off = Reg.msixPba then some (.ro 0) else none

/-! ### TIME (R266-R270) -/

def Reg.timeCtl : Nat := 0x600000
def Reg.timeStat : Nat := 0x600008
def Reg.timeCfg (b : Bool) : Nat := if b then 0x600018 else 0x600010
def Reg.timeNow (b : Bool) : Nat := if b then 0x600028 else 0x600020
def Reg.timeCount : Nat := 0x600030
def Reg.timeSet (b : Bool) : Nat := if b then 0x600040 else 0x600038
def Reg.timeRate (b : Bool) : Nat := if b then 0x600050 else 0x600048
def Reg.timeSlew (b : Bool) : Nat := if b then 0x600060 else 0x600058
def Reg.timeSwitch : Nat := 0x600068
def Reg.timeOffs (b : Bool) : Nat := if b then 0x600078 else 0x600070
def Reg.timePcal (p : Nat) : Nat := 0x600080 + 0x10 * p
def Reg.timePmeas (p : Nat) : Nat := 0x600088 + 0x10 * p
def Reg.timeSyncRx : Nat := 0x600200
def Reg.timeHoldover : Nat := 0x600208
def Reg.timePdFail : Nat := 0x600210
def Reg.timeDiscDom : Nat := 0x600218
def Reg.timeDiscSeq : Nat := 0x600220
def Reg.timeActLate : Nat := 0x600228
def Reg.timeSetRefused : Nat := 0x600230

/-- The TIME block. -/
def timeInfo (off : Nat) : Option RegInfo :=
  if off = Reg.timeCtl then some (.rwMgmt 0xFC640 0x1FFFFF)
  else if off = Reg.timeStat then some (.roMgmt 0)
  else if off = 0x600010 ∨ off = 0x600018 then some (.rwMgmt 0x1ED0000 0x1FFFFFF)
  else if off = 0x600020 ∨ off = 0x600028 ∨ off = 0x600030 then some (.ro 0)
  else if off = 0x600038 ∨ off = 0x600040 then some (.woMgmt all64)
  else if off = 0x600048 ∨ off = 0x600050 ∨ off = 0x600058 ∨ off = 0x600060 then some (.rwMgmt 0 0xFFFFFFFF)
  else if off = Reg.timeSwitch then some (.woMgmt 3)
  else if off = 0x600070 ∨ off = 0x600078 then some (.roMgmt 0)
  else if (arrayIndex off 0x600080 0x10 12).isSome then some (.rwMgmt 0 0xFFFFFFFF)
  else if (arrayIndex off 0x600088 0x10 12).isSome then some (.roMgmt 0)
  else if (arrayIndex off 0x600200 8 7).isSome then some (.roMgmt 0)
  else none

/-! ### CAL and FUSE (R473, R478) -/

def Reg.fuseSerial : Nat := 0x3A00000
def Reg.fuseMac (k : Nat) : Nat := 0x3A00008 + 8 * k
def Reg.fuseCore (n : Nat) : Nat := 0x3A00100 + 8 * n
def Reg.fuseLane (p : Nat) : Nat := 0x3A00200 + 8 * p
def Reg.fuseHrow (k : Nat) : Nat := 0x3A00400 + 8 * k
def Reg.calStat : Nat := 0x3C00000

/-- The FUSE and CAL blocks. -/
def fuseInfo (off : Nat) : Option RegInfo :=
  if (arrayIndex off 0x3A00000 8 3).isSome then some (.ro 0)
  else if (arrayIndex off 0x3A00100 8 8).isSome then some (.ro 31)
  else if (arrayIndex off 0x3A00200 8 12).isSome then some (.ro 31)
  else if (arrayIndex off 0x3A00400 8 256).isSome then some (.ro 0)
  else if off = Reg.calStat then some (.ro 0)
  else none

/-! ### SEC (R452-R454) -/

def Reg.secBoot : Nat := 0x3800000
def Reg.secNonce : Nat := 0x3800008
def Reg.secKeyDev : Nat := 0x3800010
def Reg.secKeyAlias : Nat := 0x3800018
def Reg.secFuse : Nat := 0x3800020
def Reg.secMeas (r w : Nat) : Nat := 0x3800100 + 0x30 * r + 8 * w
def Reg.secAccept : Nat := 0x3800400
def Reg.secReject : Nat := 0x3800408
def Reg.secCmdOk : Nat := 0x3800410
def Reg.secCmdRej : Nat := 0x3800418

/-- The SEC block: read-only registers. -/
def secInfo (off : Nat) : Option RegInfo :=
  if (arrayIndex off 0x3800000 8 5).isSome then some (.ro 0)
  else if (arrayIndex off 0x3800100 8 48).isSome then some (.ro 0)
  else if (arrayIndex off 0x3800400 8 4).isSome then some (.ro 0)
  else none

/-! ### ISK and REC (R406-R409) -/

def Reg.iskCtl : Nat := 0x2200000
def Reg.iskStat : Nat := 0x2200008
def Reg.iskMport : Nat := 0x2200010
def Reg.iskNtp : Nat := 0x2200018
def Reg.iskClkcap (n : Nat) : Nat := 0x2200100 + 8 * n
def Reg.iskHandover : Nat := 0x2200400
def Reg.iskOverrun : Nat := 0x2200408
def Reg.iskCopyFail : Nat := 0x2200410
def Reg.iskMbxRej : Nat := 0x2200418
def Reg.iskMportDrop : Nat := 0x2200420
def Reg.iskSens (k : Nat) : Nat := 0x2201000 + 8 * k
def Reg.iskSlim (k : Nat) : Nat := 0x2202000 + 8 * k
def Reg.recCtl : Nat := 0x2400000
def Reg.recStat : Nat := 0x2400008
def Reg.recSeq : Nat := 0x2400010
def Reg.recFreeze : Nat := 0x2400018
def Reg.recNonce : Nat := 0x2400020
def Reg.recDropped : Nat := 0x2400100
def Reg.recOverrun : Nat := 0x2400108
def Reg.recFrzDrop : Nat := 0x2400110
def Reg.recWin : Nat := 0x2800000

/-- Whether sensor k exists (R387). -/
def sensorExists (k : Nat) : Bool :=
  k ≤ 4 || (0x10 ≤ k && k ≤ 0x4A) || (0x50 ≤ k && k ≤ 0x73)

/-- The reset limits (LO, HI) of sensor k (R387); a sensor that does not exist never trips. -/
def sensorLimits (k : Nat) : Int × Int :=
  let lo : Int := -0x80000000
  let hi : Int := 0x7FFFFFFF
  if k = 0 then (46000, 60000) else if k = 1 then (lo, 85000) else if k = 2 then (lo, 4600)
  else if k = 3 then (11400, 12600) else if k = 4 then (lo, 3400)
  else if 0x20 ≤ k ∧ k ≤ 0x4A then (lo, 800)
  else if 0x50 ≤ k ∧ k ≤ 0x6F then (lo, 760)
  else if k = 0x70 then (lo, 320) else if k = 0x71 then (lo, 480) else if k = 0x72 then (400, hi)
  else if k = 0x73 then (lo, 680) else (lo, hi)

/-- The Reset value of ISK_SLIM_k: HI in [31:0], LO in [63:32] (R408). -/
def slimReset (k : Nat) : Nat :=
  unsigned (sensorLimits k).2 32 + unsigned (sensorLimits k).1 32 * 2 ^ 32

/-- The ISK and REC blocks and the record window. -/
def iskInfo (off : Nat) : Option RegInfo :=
  if off = Reg.iskCtl then some (.rwMgmt 0xC8 0x1FF)
  else if off = Reg.iskStat then some (.roMgmt 3)
  else if off = Reg.iskMport ∨ off = Reg.iskNtp then some (.roMgmt 0)
  else if (arrayIndex off 0x2200100 8 8).isSome then some (.rwMgmt 0x708 0xFFF)
  else if (arrayIndex off 0x2200400 8 5).isSome then some (.roMgmt 0)
  else if (arrayIndex off 0x2201000 8 0x80).isSome then some (.roMgmt 0)
  else match arrayIndex off 0x2202000 8 0x80 with
    | some k => some (.rwMgmt (slimReset k) all64)
    | none =>
      if off = Reg.recCtl then some { RegInfo.rwMgmt 0x78 0x1FE with wo := 1 }
      else if off = Reg.recStat ∨ off = Reg.recSeq ∨ off = Reg.recNonce then some (.roMgmt 0)
      else if off = Reg.recFreeze then some (.rwMgmt 0 all64)
      else if (arrayIndex off 0x2400100 8 3).isSome then some (.roMgmt 0)
      else if (arrayIndex off Reg.recWin 8 (65536 * 8)).isSome then some (.roMgmt 0)
      else none

/-! ### PMC and TRC (R410-R425) -/

def Reg.pmcCore (c : Nat) : Nat := 0x3000000 + 0x1000 * c
def Reg.pmcMat (c k : Nat) : Nat := Reg.pmcCore c + 0x100 + 8 * k
def Reg.pmcTile (t : Nat) : Nat := 0x3100000 + 0x1000 * t
def Reg.pmcGlobal : Nat := 0x3180000
def Reg.pmcLastt (pf : Nat) : Nat := 0x3181020 + 8 * pf
def Reg.trcCore (c : Nat) : Nat := 0x3400000 + 0x40 * c
def Reg.trcCtl (c : Nat) : Nat := Reg.trcCore c
def Reg.trcStat (c : Nat) : Nat := Reg.trcCore c + 0x08
def Reg.trcRbase (c : Nat) : Nat := Reg.trcCore c + 0x10
def Reg.trcRsize (c : Nat) : Nat := Reg.trcCore c + 0x18
def Reg.trcRwr (c : Nat) : Nat := Reg.trcCore c + 0x20
def Reg.trcRrd (c : Nat) : Nat := Reg.trcCore c + 0x28
def Reg.trcTctl (n : Nat) : Nat := 0x3404000 + 8 * n
def Reg.trcPort : Nat := 0x3404100
def Reg.trcGstopT : Nat := 0x3404108
def Reg.trcGstopJ : Nat := 0x3404110

/-- The window of core c in the PMC block. -/
def pmcCoreInfo (off : Nat) : Option RegInfo :=
  if (arrayIndex off 0 8 16).isSome then some (.rwReg 0 0xFFFFFFFFFFFF)
  else if (arrayIndex off 0x80 8 16).isSome then some (.rwReg 0 0xFFFFFFF)
  else if (arrayIndex off 0x100 8 8).isSome then some (.ro 0)
  else if off = 0x140 then some { RegInfo.ro 0 with w1c := 0xFFFF }
  else if (arrayIndex off 0x200 8 24).isSome then some (.ro 0)
  else none

/-- The window of tile t in the PMC block. -/
def pmcTileInfo (off : Nat) : Option RegInfo :=
  if (arrayIndex off 0 8 64).isSome then some (.rwReg 0 0xFFFFFFFFFFFF)
  else if (arrayIndex off 0x200 8 64).isSome then some (.rwReg 0 0xF3FFF)
  else if off = 0x400 then some { RegInfo.ro 0 with w1c := all64 }
  else if (arrayIndex off 0x600 8 64).isSome then some (.ro 0)
  else none

/-- The global window, privileged but for the LASTT registers (R415). -/
def pmcGlobalInfo (off : Nat) : Option RegInfo :=
  if (arrayIndex off 0 8 256).isSome then some { RegInfo.rwReg 0 all64 with mgmt := true, priv := true }
  else if (arrayIndex off 0x800 8 256).isSome then
    some { RegInfo.rwReg 0 0x1FFFFFFFFFFF with mgmt := true, priv := true }
  else if (arrayIndex off 0x1000 8 4).isSome then
    some { RegInfo.ro 0 with w1c := all64, mgmt := true, priv := true }
  else if off = 0x1020 ∨ off = 0x1028 then some (.ro 0)
  else none

/-- The window of core c in the TRC block. -/
def trcCoreInfo (off : Nat) : Option RegInfo :=
  if off = 0x00 then some (.rwReg 0 0xFFFF7F)
  else if off = 0x08 then some (.ro 0)
  else if off = 0x10 then some (.rwReg 0 0xFFFFFFFFFFFF)
  else if off = 0x18 then some (.rwReg 0 0xFFFFFFFF)
  else if off = 0x20 then some (.ro 0)
  else if off = 0x28 then some (.rwReg 0 0xFFFFFFFF)
  else none

/-- The PMC and TRC blocks. -/
def pmcInfo (off : Nat) : Option RegInfo :=
  if 0x3000000 ≤ off ∧ off < 0x30C0000 then pmcCoreInfo (off % 0x1000)
  else if 0x3100000 ≤ off ∧ off < 0x310A000 then pmcTileInfo (off % 0x1000)
  else if 0x3180000 ≤ off ∧ off < 0x3182000 then pmcGlobalInfo (off - 0x3180000)
  else if 0x3400000 ≤ off ∧ off < 0x3403000 then trcCoreInfo (off % 0x40)
  else if (arrayIndex off 0x3404000 8 8).isSome then some { RegInfo.rwReg 0x10 0xFF with mgmt := true, priv := true }
  else if off = Reg.trcPort then some { RegInfo.rwReg 0 1 with mgmt := true, priv := true }
  else if off = Reg.trcGstopT then some { RegInfo.rwReg 0 all64 with mgmt := true, priv := true }
  else if off = Reg.trcGstopJ then some { RegInfo.rwReg 0 0xFFF with mgmt := true, priv := true }
  else none

/-! ### NME (R162, R196-R199) -/

def Reg.nme (i : Nat) : Nat := 0x1000000 + 0x10000 * i
def Reg.nmeCtl (i : Nat) : Nat := Reg.nme i
def Reg.nmeStat (i : Nat) : Nat := Reg.nme i + 0x08
def Reg.nmeCqBase (i : Nat) : Nat := Reg.nme i + 0x10
def Reg.nmeCqCtl (i : Nat) : Nat := Reg.nme i + 0x18
def Reg.nmeCqStat (i : Nat) : Nat := Reg.nme i + 0x20
def Reg.nmeWspill (i : Nat) : Nat := Reg.nme i + 0x28
def Reg.nmeFault (i : Nat) : Nat := Reg.nme i + 0x30
def Reg.nmeMap : Nat := 0x1200000
def Reg.nmeHtab : Nat := 0x1200008
def Reg.nmeAccLanes (i : Nat) : Nat := Reg.nme i + 0x100
def Reg.nmeDiscDup (i : Nat) : Nat := Reg.nme i + 0x108
def Reg.nmeDiscOld (i : Nat) : Nat := Reg.nme i + 0x110
def Reg.nmeDiscAnchor (i : Nat) : Nat := Reg.nme i + 0x118
def Reg.nmeDiscStep (i : Nat) : Nat := Reg.nme i + 0x120
def Reg.nmeDiscHandle (i : Nat) : Nat := Reg.nme i + 0x128
def Reg.nmeDiscRange (i : Nat) : Nat := Reg.nme i + 0x130
def Reg.nmeDiscEpoch (i : Nat) : Nat := Reg.nme i + 0x138
def Reg.nmeWinSpill (i : Nat) : Nat := Reg.nme i + 0x140
def Reg.nmeEccCe (i : Nat) : Nat := Reg.nme i + 0x148
def Reg.nmeEccUe (i : Nat) : Nat := Reg.nme i + 0x150
def Reg.nmeEccPoisonRd (i : Nat) : Nat := Reg.nme i + 0x158
def Reg.nmeScrubLines (i : Nat) : Nat := Reg.nme i + 0x160
def Reg.nmeSppr (i : Nat) : Nat := Reg.nme i + 0x168
def Reg.nmeCbwCopies (i : Nat) : Nat := Reg.nme i + 0x170
def Reg.nmeCmpMismatch (i : Nat) : Nat := Reg.nme i + 0x178
def Reg.nmeDiscNospill (i : Nat) : Nat := Reg.nme i + 0x180

/-- The registers of one NME, by offset in its window. -/
def nmeOneInfo (off : Nat) : Option RegInfo :=
  if off = 0 then some (.rwReg 0x1219 0x1FFF)
  else if off = 0x08 then some (.ro 0x8)
  else if off = 0x10 ∨ off = 0x28 then some (.rwReg 0 0xFFFFFFFFFFFF)
  else if off = 0x18 then some (.rwReg 0 0x07FF0001)
  else if off = 0x20 then some (.ro 0)
  else if off = 0x30 then some { RegInfo.ro 0 with w1c := 0x3000000 }
  else if (arrayIndex off 0x100 8 17).isSome then some (.ro 0)
  else none

/-- The NME block. -/
def nmeInfo (off : Nat) : Option RegInfo :=
  if off < 0x1200000 then nmeOneInfo (off % 0x10000)
  else if off = Reg.nmeMap then some (.rwReg 0x2020 0xFF)
  else if off = Reg.nmeHtab then some (.rwReg 0 0xFFFFFFFFFFFF)
  else none

/-! ### FAB (R235-R241) -/

def Reg.fabNode : Nat := 0x1800000
def Reg.fabDim : Nat := 0x1800008
def Reg.fabRoute : Nat := 0x1800010
def Reg.fabE2e : Nat := 0x1800018
def Reg.fabStat : Nat := 0x1800020
def Reg.fabWithdraw : Nat := 0x1800028
def Reg.fabDiscJob : Nat := 0x1800100
def Reg.fabDiscEpoch : Nat := 0x1800108
def Reg.fabDiscEcrc : Nat := 0x1800110
def Reg.fabDiscType : Nat := 0x1800118
def Reg.fabDiscAddr : Nat := 0x1800120
def Reg.fabDiscBdup : Nat := 0x1800128
def Reg.fabDiscFlooddup : Nat := 0x1800130
def Reg.fabDiscNoresp : Nat := 0x1800138
def Reg.fabE2eRetx : Nat := 0x1800140
def Reg.fabE2eFail : Nat := 0x1800148
def Reg.fabE2eDupack : Nat := 0x1800150
def Reg.fabBridgeXing : Nat := 0x1800158
def Reg.fabDropWithdraw : Nat := 0x1800160
def Reg.fabFloodEvict : Nat := 0x1800168
def Reg.fabPisteA (e : Nat) : Nat := 0x1800200 + 0x10 * e
def Reg.fabPisteB (e : Nat) : Nat := 0x1800208 + 0x10 * e
def Reg.fabPort (p : Nat) : Nat := 0x1810000 + 0x10000 * p
def Reg.fabPortCtl (p : Nat) : Nat := Reg.fabPort p
def Reg.fabPortStat (p : Nat) : Nat := Reg.fabPort p + 0x08
def Reg.fabPortLane (p : Nat) : Nat := Reg.fabPort p + 0x10
def Reg.fabLnkFecCorr (p : Nat) : Nat := Reg.fabPort p + 0x100
def Reg.fabLnkFecUncorr (p : Nat) : Nat := Reg.fabPort p + 0x108
def Reg.fabLnkFcrc (p : Nat) : Nat := Reg.fabPort p + 0x110
def Reg.fabLnkReplay (p : Nat) : Nat := Reg.fabPort p + 0x118
def Reg.fabLnkDown (p : Nat) : Nat := Reg.fabPort p + 0x120
def Reg.fabLnkSwap (p : Nat) : Nat := Reg.fabPort p + 0x128
def Reg.fabLnkTrainFail (p : Nat) : Nat := Reg.fabPort p + 0x130
def Reg.fabDropLinkdown (p : Nat) : Nat := Reg.fabPort p + 0x138
def Reg.fabDropHcrc (p : Nat) : Nat := Reg.fabPort p + 0x140
def Reg.fabDropTtl (p : Nat) : Nat := Reg.fabPort p + 0x148
def Reg.fabDropNoroute (p : Nat) : Nat := Reg.fabPort p + 0x150
def Reg.fabDropStall (p : Nat) : Nat := Reg.fabPort p + 0x158
def Reg.fabDropBaddst (p : Nat) : Nat := Reg.fabPort p + 0x160
def Reg.fabDropFlood (p : Nat) : Nat := Reg.fabPort p + 0x168
def Reg.fabPktRx (p : Nat) : Nat := Reg.fabPort p + 0x170
def Reg.fabPktTx (p : Nat) : Nat := Reg.fabPort p + 0x178

/-- The FAB block. -/
def fabInfo (off : Nat) : Option RegInfo :=
  if off < 0x1810000 then
    if off = Reg.fabNode then some (.rwMgmt 0 0xFFFF)
    else if off = Reg.fabDim then some (.rwMgmt 0 0x3F3F3F)
    else if off = Reg.fabRoute then some (.rwReg 0x20A01 0x3FF01)
    else if off = Reg.fabE2e then some (.rwReg 0x190614 0xFF0FFF)
    else if off = Reg.fabStat then some (.ro 0)
    else if off = Reg.fabWithdraw then some { RegInfo.ro 0 with wo := 3 }
    else if (arrayIndex off 0x1800100 8 14).isSome then some (.ro 0)
    else if (arrayIndex off 0x1800200 0x10 16).isSome then some { RegInfo.rwMgmt 0 0x7FFFFF with w1c := 0x1000000 }
    else if (arrayIndex off 0x1800208 0x10 16).isSome then some (.roMgmt 0)
    else none
  else if off < 0x18D0000 then
    let o := off % 0x10000
    if o = 0 then some { RegInfo.rwReg 0x84D01 0xFFF05 with wo := 2 }
    else if o = 8 ∨ o = 0x10 then some (.ro 0)
    else if (arrayIndex o 0x100 8 16).isSome then some (.ro 0)
    else none
  else none

/-! ### GATE (R300-R303) -/

def Reg.gateCtl : Nat := 0x1A00000
def Reg.gateLoad : Nat := 0x1A00008
def Reg.gateResolve : Nat := 0x1A00010
def Reg.gateStatBase : Nat := 0x1A00020
def Reg.gateBctBase : Nat := 0x1A00028
def Reg.gateSlot (k : Nat) : Nat := 0x1A00100 + 0x10 * k
def Reg.gateSlotStep (k : Nat) : Nat := 0x1A00108 + 0x10 * k
def Reg.gateMarkRx : Nat := 0x1A00400
def Reg.gateDiscMark : Nat := 0x1A00408
def Reg.gateLate : Nat := 0x1A00410
def Reg.gateMissing : Nat := 0x1A00418
def Reg.gateTaint : Nat := 0x1A00420
def Reg.gateSubst : Nat := 0x1A00428
def Reg.gateMismatch : Nat := 0x1A00430
def Reg.gateCommit : Nat := 0x1A00438
def Reg.gateHold : Nat := 0x1A00440
def Reg.gateSkip : Nat := 0x1A00448
def Reg.gateAbandon : Nat := 0x1A00450
def Reg.gateDiscHold : Nat := 0x1A00458
def Reg.gateBcOrphan : Nat := 0x1A00460
def Reg.gateBcResend : Nat := 0x1A00468
def Reg.gateBcIncomplete : Nat := 0x1A00470
def Reg.gateDiscBmap : Nat := 0x1A00478
def Reg.gateDiscBct : Nat := 0x1A00480

/-- The GATE block. -/
def gateInfo (off : Nat) : Option RegInfo :=
  if off = Reg.gateCtl then some { RegInfo.rwMgmt 0x01F400C80000 0xFFFFFFFF0000 with wo := 1 }
  else if off = Reg.gateLoad then some { RegInfo.rwReg 0 0xFFFFFFFFFFFF with wo := 0x1000000000000 }
  else if off = Reg.gateResolve then some (.woMgmt 0xFF)
  else if off = Reg.gateStatBase ∨ off = Reg.gateBctBase then some (.rwMgmt 0 0xFFFFFFFFFFFF)
  else if (arrayIndex off 0x1A00100 8 64).isSome then some (.ro 0)
  else if (arrayIndex off 0x1A00400 8 17).isSome then some (.ro 0)
  else none

/-! ### GRM (R326-R331) -/

def Reg.grmCtl : Nat := 0x1C00000
def Reg.grmStat : Nat := 0x1C00008
def Reg.grmPkgBase : Nat := 0x1C00010
def Reg.grmCap : Nat := 0x1C00018
def Reg.grmCmd : Nat := 0x1C00020
def Reg.grmCmdArg : Nat := 0x1C00028
def Reg.grmCmpCnt : Nat := 0x1C00030
def Reg.grmProb : Nat := 0x1C00038
def Reg.grmTile (n : Nat) : Nat := 0x1C00100 + 8 * n
def Reg.grmScreens : Nat := 0x1C00400
def Reg.grmScreenFail : Nat := 0x1C00408
def Reg.grmScreenCut : Nat := 0x1C00410
def Reg.grmHbFail : Nat := 0x1C00418
def Reg.grmSamples : Nat := 0x1C00420
def Reg.grmSampleSkip : Nat := 0x1C00428
def Reg.grmSampleMism : Nat := 0x1C00430
def Reg.grmTransient : Nat := 0x1C00438
def Reg.grmPermanent : Nat := 0x1C00440
def Reg.grmDerate : Nat := 0x1C00448
def Reg.grmQuar : Nat := 0x1C00450
def Reg.grmSpareIn : Nat := 0x1C00458
def Reg.grmTileCorr : Nat := 0x1C00460
def Reg.grmDetMerged : Nat := 0x1C00468
def Reg.grmCore (p : Nat) : Nat := 0x1C01000 + 8 * p

/-- GRM_CORE of a physical core as shipped: core m of each tile healthy and logical m, P24 the dark spare. -/
def grmCoreReset (p : Nat) : Nat := if p % 25 < 24 then p % 25 * 256 else 6 + 31 * 256

/-- The GRM block. -/
def grmInfo (off : Nat) : Option RegInfo :=
  if off = Reg.grmCtl then some (.rwMgmt 0x1F42460E29190F15 0x1FFFFFFFFFFFFFFF)
  else if off = Reg.grmStat ∨ off = Reg.grmCmpCnt then some (.roMgmt 0)
  else if off = Reg.grmPkgBase then some (.rwMgmt 0 0xFFFFFFFFFFFF)
  else if off = Reg.grmCap ∨ off = Reg.grmCmdArg then some (.rwMgmt 0 0x7FFFFFFFFF)
  else if off = Reg.grmCmd then some (.woMgmt 0x1FFFFFFF)
  else if off = Reg.grmProb then some (.rwMgmt 0x144 0x3FFF)
  else if (arrayIndex off 0x1C00100 8 8).isSome then some (.roMgmt 24)
  else if (arrayIndex off 0x1C00400 8 14).isSome then some (.roMgmt 0)
  else match arrayIndex off 0x1C01000 8 200 with
    | some p => some (.roMgmt (grmCoreReset p))
    | none => none

/-! ### RST (R356-R360) -/

def Reg.rstCtl : Nat := 0x1E00000
def Reg.rstStat : Nat := 0x1E00008
def Reg.rstReq : Nat := 0x1E00010
def Reg.rstSnapBase : Nat := 0x1E00018
def Reg.rstIsol : Nat := 0x1E00020
def Reg.rstRecqA (q : Nat) : Nat := 0x1E00100 + 0x10 * q
def Reg.rstRecqB (q : Nat) : Nat := 0x1E00108 + 0x10 * q
def Reg.rstHang : Nat := 0x1E00400
def Reg.rstResets : Nat := 0x1E00408
def Reg.rstMerged : Nat := 0x1E00410
def Reg.rstEscalate : Nat := 0x1E00418
def Reg.rstAbsorb : Nat := 0x1E00420
def Reg.rstDrainDrop : Nat := 0x1E00428
def Reg.rstNotcap : Nat := 0x1E00430
def Reg.rstAbortTx : Nat := 0x1E00438
def Reg.rstAbortRx : Nat := 0x1E00440
def Reg.rstAbortStop : Nat := 0x1E00448
def Reg.rstIsolated : Nat := 0x1E00450

/-- RST_CTL at reset (R357): WDEN, CAPEN, RETWD 500, WAITWD 2000, NMEWD 100, FTWD 100. -/
def rstCtlReset : Nat := 3 + 0x1F4 * 2 ^ 2 + 0x7D0 * 2 ^ 12 + 0x64 * 2 ^ 24 + 0x64 * 2 ^ 32

/-- The RST block. -/
def rstInfo (off : Nat) : Option RegInfo :=
  if off = Reg.rstCtl then some (.rwMgmt rstCtlReset 0xFFFFFFFFFF)
  else if off = Reg.rstStat then some { RegInfo.roMgmt 0 with w1c := 0x20 }
  else if off = Reg.rstReq then some (.woMgmt 0x7FFF)
  else if off = Reg.rstSnapBase then some (.rwMgmt 0 0xFFFFFFFFFFFF)
  else if off = Reg.rstIsol then some { RegInfo.rwMgmt 0 0x3FFFFFFFFFF with w1c := 0x40000000000 }
  else if (arrayIndex off 0x1E00100 8 16).isSome then some (.roMgmt 0)
  else if (arrayIndex off 0x1E00400 8 11).isSome then some (.roMgmt 0)
  else none

/-! ### CKP (R376-R379) -/

def Reg.ckpCtl : Nat := 0x2000000
def Reg.ckpStat : Nat := 0x2000008
def Reg.ckpArea : Nat := 0x2000010
def Reg.ckpSnap : Nat := 0x2000018
def Reg.ckpMirout : Nat := 0x2000020
def Reg.ckpMirin : Nat := 0x2000028
def Reg.ckpEw : Nat := 0x2000030
def Reg.ckpReq : Nat := 0x2000038
def Reg.ckpCmd : Nat := 0x2000040
def Reg.ckpCmdStep : Nat := 0x2000048
def Reg.ckpCmdRes : Nat := 0x2000050
def Reg.ckpGenA (g : Nat) : Nat := 0x2000100 + 0x10 * g
def Reg.ckpGenB (g : Nat) : Nat := 0x2000108 + 0x10 * g
def Reg.ckpTaken : Nat := 0x2000400
def Reg.ckpEarly : Nat := 0x2000408
def Reg.ckpPend : Nat := 0x2000410
def Reg.ckpFail : Nat := 0x2000418
def Reg.ckpMirOk : Nat := 0x2000420
def Reg.ckpMirFail : Nat := 0x2000428
def Reg.ckpMirRej : Nat := 0x2000430
def Reg.ckpHostOk : Nat := 0x2000438
def Reg.ckpHostBad : Nat := 0x2000440
def Reg.ckpVerifyFail : Nat := 0x2000448
def Reg.ckpRestore : Nat := 0x2000450
def Reg.ckpRestoreFail : Nat := 0x2000458
def Reg.ckpSweepRestart : Nat := 0x2000460

/-- The CKP block. -/
def ckpInfo (off : Nat) : Option RegInfo :=
  if off = Reg.ckpCtl then some (.rwMgmt 0xC90000 0x7FFFFFFFFFFF)
  else if off = Reg.ckpStat then some { RegInfo.roMgmt 0 with w1c := 0x1FE0 }
  else if off = Reg.ckpArea ∨ off = Reg.ckpSnap then some (.rwMgmt 0 all64)
  else if off = Reg.ckpMirout ∨ off = Reg.ckpMirin then some (.rwMgmt 0 0x7FFFFFFFFFFFFF)
  else if off = Reg.ckpEw then some (.rwMgmt 0x1E5F3481 0xFFFFFFFF)
  else if off = Reg.ckpReq then some (.rwMgmt 0 all64)
  else if off = Reg.ckpCmd then some (.woMgmt 0x3FFFFF)
  else if off = Reg.ckpCmdStep then some (.rwMgmt 0 0xFFFFFFFFFFFF)
  else if off = Reg.ckpCmdRes then some (.roMgmt 0)
  else if (arrayIndex off 0x2000100 8 8).isSome then some (.roMgmt 0)
  else if (arrayIndex off 0x2000400 8 13).isSome then some (.roMgmt 0)
  else none

end Sys2Proof.Machine
end

