-- ==== Sys2Proof/Machine/RegMap.lean ====
section
/-! DEFINITION. The register map as one function: the block an offset lies in decides which table describes it (R459). -/

namespace Sys2Proof.Machine

/-- What the register tables say of the register at a BAR0 offset; none where the offset is unmapped. -/
def regInfo (off : Nat) : Option RegInfo :=
  if off < 0x600000 then hifInfo off
  else if off < 0x1000000 then timeInfo off
  else if 0x1000000 ≤ off ∧ off < 0x1800000 then nmeInfo off
  else if 0x1800000 ≤ off ∧ off < 0x1A00000 then fabInfo off
  else if 0x1A00000 ≤ off ∧ off < 0x1C00000 then gateInfo off
  else if 0x1C00000 ≤ off ∧ off < 0x1E00000 then grmInfo off
  else if 0x1E00000 ≤ off ∧ off < 0x2000000 then rstInfo off
  else if 0x2000000 ≤ off ∧ off < 0x2200000 then ckpInfo off
  else if 0x2200000 ≤ off ∧ off < 0x3000000 then iskInfo off
  else if 0x3000000 ≤ off ∧ off < 0x3800000 then pmcInfo off
  else if 0x3800000 ≤ off ∧ off < 0x3A00000 then secInfo off
  else if 0x3A00000 ≤ off then fuseInfo off
  else none

end Sys2Proof.Machine
end

