-- ==== Sys2Proof/Machine/Ops.lean ====
section
/-! DEFINITION. The named operations over the state that every unit shares: reading and writing registers and their fields,
counters, fabric time, region clocks, events and the recorder, interrupts, performance counters and trace records, and
the form of a command's outcome. -/

namespace Sys2Proof.Machine
open Sys2Proof

/-! ### Registers -/

/-- The Reset value of the register at a key of the register file. -/
def regReset (key : Nat) : Word :=
  match regInfo (key % 0x4000000) with
  | some i => BitVec.ofNat 64 i.reset
  | none => 0

/-- The register at a key, as a number. -/
def State.reg (s : State) (key : Nat) : Nat := (Tab.get s.regs (regReset key) key).toNat

/-- Writes a register whole. -/
def State.setReg (s : State) (key : Nat) (v : Nat) : State :=
  { s with regs := Tab.put s.regs (regReset key) key (BitVec.ofNat 64 v) }

/-- A field of a register. -/
def State.field (s : State) (key lo width : Nat) : Nat := bits (s.reg key) lo width

/-- Writes a field of a register. -/
def State.setField (s : State) (key lo width v : Nat) : State :=
  s.setReg key (setBits (s.reg key) lo width v)

/-- One bit of a register. -/
def State.flag (s : State) (key i : Nat) : Bool := bit (s.reg key) i

/-- Sets one bit of a register. -/
def State.setFlag (s : State) (key i : Nat) : State := s.setField key i 1 1

/-- Gives a register its Reset value again. -/
def State.resetReg (s : State) (key : Nat) : State := { s with regs := Tab.erase s.regs key }

/-- Gives every register of a range of keys its Reset value again. -/
def State.resetRegs (s : State) (lo hi : Nat) : State :=
  { s with regs := s.regs.filter (fun e => !(lo ≤ e.1 && e.1 < hi)) }

/-- Adds to a counter of the layout of R92: 48 bits, saturating. -/
def State.countN (s : State) (key n : Nat) : State :=
  s.setReg key (min (s.field key 0 48 + n) 0xFFFFFFFFFFFF)

/-- Counts one in a counter of the layout of R92. -/
def State.count (s : State) (key : Nat) : State := s.countN key 1

/-- Adds to a saturating field of a register. -/
def State.countField (s : State) (key lo width : Nat) : State :=
  s.setField key lo width (min (s.field key lo width + 1) (2 ^ width - 1))

/-! ### Free values -/

/-- A fresh free value and the state that has used it. -/
def State.fresh (s : State) : Nat × State := (Config.freeValue s.freeIndex, { s with freeIndex := s.freeIndex + 1 })

/-! ### Fabric time (R243, R244) -/

/-- The value of a domain at a count by its parameters (R244). -/
def TimeDomain.formula (d : TimeDomain) (c : Nat) : Nat :=
  let delta : Int := (c : Int) - (d.cref : Int)
  (((d.base : Int) + delta + floorShift (delta * d.rate) 40) % (2 : Int) ^ 64).toNat

/-- The value of a domain at a count: by its parameters, not below what the end of a switch left (R260). -/
def TimeDomain.value (d : TimeDomain) (c : Nat) : Nat :=
  match d.least with
  | some v => max v (d.formula c)
  | none => d.formula c

/-- Domain B now. -/
def State.nowB (s : State) : Nat := s.time.b.value s.time.count

/-- Domain A now; a switch may hold it until B reaches it, or step it in the count after its GO (R260). -/
def State.nowA (s : State) : Nat :=
  match s.time.switch with
  | some { hold := some v, .. } => max v s.nowB
  | some { before := some (c, v), .. } => if s.time.count ≤ c then v else s.time.a.value s.time.count
  | _ => s.time.a.value s.time.count

/-! ### Region clocks (R264) -/

/-- The key of a clock region: kind in the numbering of SKIND (R397), and index. -/
def regionKey (kind index : Nat) : Nat := kind * 1024 + index

/-- A clock region. -/
def State.region (s : State) (kind index : Nat) : Region := Tab.get s.regions Region.off (regionKey kind index)

/-- Writes a clock region. -/
def State.setRegion (s : State) (kind index : Nat) (r : Region) : State :=
  { s with regions := Tab.put s.regions Region.off (regionKey kind index) r }

/-- The cycles of a region's clock at a TIME_COUNT. -/
def Region.cycles (r : Region) (c : Nat) : Nat := r.cyc + if r.running then (c - r.mark) * r.mhz / 1000 else 0

/-- The region's cycle count LCYC at a TIME_COUNT, 48 bits (R264). -/
def Region.lcyc (r : Region) (c : Nat) : Nat := r.cycles c % 2 ^ 48

/-- The region's clock state CST (R264). -/
def Region.cst (r : Region) (c : Nat) : Nat :=
  let now := r.lcyc c
  let recent (x : Option Nat) : Bool := match x with | some y => decide (now - y < 1024) | none => false
  if r.stopReq then 3 else if recent r.startAt then 2 else if recent r.stretchAt then 1 else 0

/-- The clock region a source lies in: that of a core, by its logical or its physical number, of an NME, or of the fabric tile
of a port. -/
def State.regionOf (s : State) (src : Nat × Nat) : Option (Nat × Nat) :=
  if src.1 = 1 ∨ src.1 = 3 ∨ src.1 = 5 then some src
  else if src.1 = 4 then some (5, src.2 / 6)
  else if src.1 = 2 ∧ s.field (Reg.grmCore src.2) 8 5 < 24 then some (1, src.2 / 25 * 24 + s.field (Reg.grmCore src.2) 8 5)
  else none

/-- LCYC and CST of the region an event comes from, 0 for any other source (R264). -/
def State.origin (s : State) (src : Nat × Nat) : Nat × Nat :=
  match s.regionOf src with
  | some k =>
    let r := s.region k.1 k.2
    (r.lcyc s.time.count, r.cst s.time.count)
  | none => (0, 0)

/-! ### Interrupts (R457, R463, R465) -/

/-- Sends the MSI-X message of a vector, or leaves it pending in the PBA while the vector is masked. -/
def State.msix (s : State) (pf v : Nat) : State :=
  if bit (s.reg (regKey pf (Reg.msixTable + 16 * v + 8))) 32 then s.setFlag (regKey pf Reg.msixPba) v
  else { s with out := s.out ++ [Output.msix pf v] }

/-- A cause of a function is raised: its bit is set, and its message sent if the bit was clear, the cause enabled and the link up. -/
def State.irq (s : State) (pf v : Nat) : State :=
  let k := regKey pf Reg.hifIrqStat
  if s.flag k v then s
  else
    let s := s.setFlag k v
    if s.flag (regKey pf Reg.hifIrqEn) v && s.flag Reg.hifStat 0 then s.msix pf v else s

/-! ### Trace records (R420, R421) -/

/-- The trace buffer of a core. -/
def State.traceBuf (s : State) (c : Nat) : TraceBuf := Tab.get s.traces TraceBuf.empty c

/-- Writes the trace buffer of a core. -/
def State.setTraceBuf (s : State) (c : Nat) (t : TraceBuf) : State :=
  { s with traces := Tab.put s.traces TraceBuf.empty c t }

/-- Word 0 of a trace record: KIND, ENGINE, CST, IOFF, LCYC[31:0]. -/
def traceWord0 (kind engine cst ioff lcyc : Nat) : Word :=
  BitVec.ofNat 64 (kind % 16 + engine % 4 * 2 ^ 4 + cst % 4 * 2 ^ 6 + ioff % 2 ^ 21 * 2 ^ 8 + lcyc % 2 ^ 32 * 2 ^ 32)

/-- Counts a dropped record (R422). -/
def State.traceDrop (s : State) (c : Nat) : State :=
  let t := s.traceBuf c
  let s := s.setTraceBuf c { t with lost := t.lost + 1, frameLost := t.frameLost + 1 }
  s.countField (Reg.trcStat c) 16 32

/-- What is written for a record: a LOSS before it where records were dropped, and a SYNC where one is due (R421). -/
def State.traceRows (s : State) (c kind engine ioff : Nat) (data : Word) : List (Word × Word × Nat) :=
  let t := s.traceBuf c
  let r := s.region 1 c
  let lc := r.lcyc s.time.count
  let cst := r.cst s.time.count
  let loss := if t.lost = 0 then [] else [(traceWord0 11 0 cst 0 lc, BitVec.ofNat 64 (t.lost % 2 ^ 32), s.time.count)]
  let sync := if t.sinceSync % 1024 = 0 ∧ kind ≠ 12 then
      [(traceWord0 0 0 cst 0 (lc / 2 ^ 32 % 2 ^ 16), BitVec.ofNat 64 s.nowA, s.time.count)] else []
  loss ++ sync ++ [(traceWord0 kind engine cst ioff lc, data, s.time.count)]

/-- Records a buffer holds (R420). -/
def traceRoom : Nat := 4096

/-- Writes records as far as the buffer has room; the others are dropped and counted. -/
def State.traceStore (s : State) (c : Nat) (l : List (Word × Word × Nat)) : State :=
  let t := s.traceBuf c
  let room := traceRoom - t.recs.length
  let s := s.setTraceBuf c { t with sinceSync := t.sinceSync + 1, lost := 0, recs := t.recs ++ l.take room }
  (l.drop room).foldl (fun (s : State) _ => s.traceDrop c) s

/-- Writes a record that is to be written whatever the KINDS bits hold; what a full or HELD buffer is to take is dropped. After a dump
has taken the buffer the writer stands until the next launch (R420-R423). -/
def State.tracePut (s : State) (c kind engine ioff : Nat) (data : Word) : State :=
  let t := s.traceBuf c
  if t.stands then s
  else if s.flag (Reg.trcStat c) 13 || decide (traceRoom ≤ t.recs.length) then s.traceDrop c
  else s.traceStore c (s.traceRows c kind engine ioff data)

/-- Writes a trace record of a kind if tracing and the kind are enabled on the core. -/
def State.traceRec (s : State) (c kind engine ioff : Nat) (data : Word) : State :=
  if s.flag (Reg.trcCtl c) 0 && s.flag (Reg.trcCtl c) (8 + kind) then s.tracePut c kind engine ioff data else s

/-! ### Global stops and queue counts (R428, R432) -/

/-- Stops that are due: of TIME packets, and that of the registers TRC_GSTOP_T and TRC_GSTOP_J (R428). -/
def State.stopsDue (s : State) : List (Nat × Nat) :=
  let own := if s.reg Reg.trcGstopT = 0 then [] else [(s.reg Reg.trcGstopT, s.field Reg.trcGstopJ 0 12)]
  (s.gstop.sched ++ own).filter (fun x => decide (x.1 ≤ s.nowA))

/-- Whether a stop of the scope of a job has taken place. -/
def State.stoppedBy (s : State) (job : Nat) : Bool := s.gstop.stopped.any (fun e => e.1 == job)

/-- Whether a stop of the scope of a job keeps its units from acting: one that has taken place, or one that is due, which goes before
every other action of its time or later (R262, R429). -/
def State.stops (s : State) (job : Nat) : Bool := s.stoppedBy job || s.stopsDue.any (fun x => x.2 == job)

/-- Counts an item entered into a queue. -/
def State.enq (s : State) (key : Nat) : State :=
  { s with queues := { s.queues with enq := Tab.put s.queues.enq 0 key ((Tab.get s.queues.enq 0 key + 1) % 2 ^ 32) } }

/-- Counts packet flits sent on a port and VC. -/
def State.sentFlits (s : State) (port vc n : Nat) : State :=
  let t := Tab.put s.queues.txf 0 (8 * port + vc) ((Tab.get s.queues.txf 0 (8 * port + vc) + n) % 2 ^ 32)
  { s with queues := { s.queues with txf := t } }

/-- Counts packet flits received on a port and VC. -/
def State.receivedFlits (s : State) (port vc n : Nat) : State :=
  let t := Tab.put s.queues.rxf 0 (8 * port + vc) ((Tab.get s.queues.rxf 0 (8 * port + vc) + n) % 2 ^ 32)
  { s with queues := { s.queues with rxf := t } }

/-- Whether the NMEs' rings are scanned and the watchdogs run: bring-up has passed BS8, and the one a warm device reset starts is
not before its end (R24, R470). -/
def State.serving (s : State) : Bool := s.host.bs8Done && !(s.host.running && decide (s.host.stage ≤ 8))

/-- Restarts the progress watchdog of a unit, by its key in the queue counts (R336). -/
def State.progress (s : State) (key : Nat) : State :=
  { s with queues := { s.queues with progress := Tab.insert s.queues.progress key (s.nowA + 1) } }

/-- The domain-A time a unit last made progress. -/
def State.lastProgress (s : State) (key : Nat) : Nat := Tab.get s.queues.progress 0 key - 1

/-- CTL of a core makes progress: it is no longer held before an instruction. -/
def State.ctlProgress (s : State) (c : Nat) : State :=
  let s := s.progress (4 * c)
  { s with queues := { s.queues with stalls := Tab.erase s.queues.stalls c } }

/-- CTL of a core is held before an instruction by an engine, for the KIND of R343; since when stays while the reason does. -/
def State.stallOn (s : State) (c kind node : Nat) : State :=
  match Tab.find s.queues.stalls c with
  | some w => if w.1 = kind ∧ w.2.1 = node then s
    else { s with queues := { s.queues with stalls := Tab.insert s.queues.stalls c (kind, node, s.nowA % 2 ^ 32) } }
  | none => { s with queues := { s.queues with stalls := Tab.insert s.queues.stalls c (kind, node, s.nowA % 2 ^ 32) } }

/-! ### Cores -/

/-- A logical core. -/
def State.core (s : State) (c : Nat) : Core := Tab.get s.cores Core.reset c

/-- Writes a logical core. -/
def State.setCore (s : State) (c : Nat) (k : Core) : State := { s with cores := Tab.put s.cores Core.reset c k }

/-- Changes a logical core. -/
def State.modCore (s : State) (c : Nat) (f : Core → Core) : State := s.setCore c (f (s.core c))

/-- STATE of HIF_CSTAT (R152). -/
def State.coreState (s : State) (c : Nat) : Nat := s.field (Reg.hifCstat c) 0 3

/-- Writes STATE of HIF_CSTAT. -/
def State.setCoreState (s : State) (c v : Nat) : State := s.setField (Reg.hifCstat c) 0 3 v

/-- The offset of an instruction in its program image, in words (IOFF of R420). -/
def Core.ioff (k : Core) (pc : Nat) : Nat := (pc - k.ctx.image) / 8

/-- The address of the instruction an engine executes, if it has one in execution. -/
def Core.executing (k : Core) (engine : Nat) : Option Nat :=
  if engine = 0 then (if k.wait == .ended || k.wait == .stopped then none else some k.pc)
  else if engine = 1 then
    match k.mat.passes, k.mat.drains, k.mat.queue with
    | r :: _, _, _ => some r.op.pc
    | [], o :: _, _ => some o.pc
    | [], [], o :: _ => some o.pc
    | [], [], [] => none
  else if engine = 3 then
    match k.dma, k.fab with
    | o :: _, _ => some o.pc
    | [], o :: _ => some o.pc
    | [], [] => none
  else none

/-! ### Performance counters (R410-R418) -/

/-- A set of programmable counters. -/
inductive PmcSet where
  | core (c : Nat)
  | tile (t : Nat)
  | global
deriving DecidableEq, Repr

/-- The register of counter j. -/
def PmcSet.cnt : PmcSet → Nat → Nat
  | .core c, j => Reg.pmcCore c + 8 * j
  | .tile t, j => Reg.pmcTile t + 8 * j
  | .global, j => Reg.pmcGlobal + 8 * j

/-- The select register of counter j. -/
def PmcSet.sel : PmcSet → Nat → Nat
  | .core c, j => Reg.pmcCore c + 0x80 + 8 * j
  | .tile t, j => Reg.pmcTile t + 0x200 + 8 * j
  | .global, j => Reg.pmcGlobal + 0x800 + 8 * j

/-- The overflow register and bit of counter j. -/
def PmcSet.ovf : PmcSet → Nat → Nat × Nat
  | .core c, j => (Reg.pmcCore c + 0x140, j)
  | .tile t, j => (Reg.pmcTile t + 0x400, j)
  | .global, j => (Reg.pmcGlobal + 0x1000 + 8 * (j / 64), j % 64)

/-- Counter width in bits. -/
def PmcSet.width : PmcSet → Nat
  | .global => 64
  | _ => 48

/-- Number of counters. -/
def PmcSet.size : PmcSet → Nat
  | .core _ => 16
  | .tile _ => 64
  | .global => 256

/-- The engine a core event is attributed to (R413). -/
def eventEngine (ev : Nat) : Nat := if ev < 0x10 then 0 else if ev < 0x20 then 1 else if ev < 0x30 then 2 else 3

/-- The sample record of a core counter that wrapped, and its interrupt (R418). -/
def State.pmcSample (s : State) (c j ev : Nat) : State :=
  let k := s.core c
  let e := eventEngine ev
  let run := k.executing e
  let pc := run.getD (Tab.get k.lastPc 0 e)
  let data := j % 16 + (b2n run.isNone) * 2 ^ 8 + s.field (Reg.pmcCore c + 8 * j) 0 48 * 2 ^ 16
  let s := s.tracePut c 9 e (k.ioff pc) (BitVec.ofNat 64 data)
  let s := s.setFlag (Reg.hifSample (c / 64)) (c % 64)
  s.irq 0 1

/-- What the wrap of counter j does beyond its value when it carries into no partner: the overflow bit, and the sample record
of a core counter that selects one. -/
def State.pmcOverflow (s : State) (set : PmcSet) (j : Nat) : State :=
  let o := set.ovf j
  let s := s.setFlag o.1 o.2
  match set with
  | .core c =>
    let chained := j % 2 == 1 && s.flag (set.sel j) 13
    let own := if chained then j - 1 else j
    if s.flag (set.sel own) 14 then s.pmcSample c j (s.field (set.sel own) 0 12) else s
  | _ => s

/-- Adds to a counter of a set, wrapping, with the carry or the overflow of each wrap (R417). -/
def State.pmcAdd (s : State) (set : PmcSet) (j n : Nat) : State :=
  let v := s.field (set.cnt j) 0 set.width + n
  let s := s.setReg (set.cnt j) (v % 2 ^ set.width)
  if v / 2 ^ set.width = 0 then s
  else if j % 2 = 0 ∧ s.flag (set.sel (j + 1)) 13 then
    let v1 := s.field (set.cnt (j + 1)) 0 set.width + v / 2 ^ set.width
    let s := s.setReg (set.cnt (j + 1)) (v1 % 2 ^ set.width)
    if v1 / 2 ^ set.width = 0 then s else s.pmcOverflow set (j + 1)
  else s.pmcOverflow set j

/-- The counters of a set whose select register has been written: only those can be enabled. -/
def State.pmcLive (s : State) (set : PmcSet) : List Nat :=
  (s.regs.filter (fun e => set.sel 0 ≤ e.1 && e.1 < set.sel set.size)).map (fun e => (e.1 - set.sel 0) / 8)

/-- Whether counter j of a set counts an event: enabled, selecting it, and not counting carries. -/
def State.pmcSelects (s : State) (set : PmcSet) (j ev : Nat) : Bool :=
  s.flag (set.sel j) 12 && s.field (set.sel j) 0 12 == ev && !(j % 2 == 1 && s.flag (set.sel j) 13)

/-- Whether a core runs a program of a job. -/
def State.runsJob (s : State) (c job : Nat) : Bool :=
  s.coreState c == 2 && s.field (Reg.hifCstat c) 8 12 == job

/-- Global counters of one SCOPE that name a source count its event. -/
def State.pmcGlobal (s : State) (scope idx ev n : Nat) : State :=
  (s.pmcLive .global).foldl (fun s j =>
    let k := PmcSet.sel .global j
    if s.pmcSelects .global j ev && s.field k 14 2 == scope &&
        (scope == 0 || s.field k 16 16 == idx || s.field k 16 16 == 0xFFFF) &&
        (scope != 1 || !s.flag k 44 || s.runsJob idx (s.field k 32 12))
    then s.pmcAdd .global j n else s) s

/-- An event of a core (R413), n times: its programmable counters, held to event 0x051 while it is in screening context
(R411), and the global counters of SCOPE 1. -/
def State.coreEvent (s : State) (c ev n : Nat) : State :=
  let s := (s.pmcLive (.core c)).foldl (fun s j =>
    let k := PmcSet.sel (.core c) j
    if s.pmcSelects (.core c) j ev && (!s.flag k 15 || s.runsJob c (s.field k 16 12)) &&
        (!(s.core c).package || ev == 0x051)
    then s.pmcAdd (.core c) j n else s) s
  s.pmcGlobal 1 c ev n

/-- An event of a tile (R414), n times, from a source of it: its counters and the global counters of SCOPE 2. -/
def State.tileEvent (s : State) (t src ev n : Nat) : State :=
  let s := (s.pmcLive (.tile t)).foldl (fun s j =>
    let k := PmcSet.sel (.tile t) j
    if s.pmcSelects (.tile t) j ev && (s.field k 16 4 == src || s.field k 16 4 == 0xF)
    then s.pmcAdd (.tile t) j n else s) s
  s.pmcGlobal 2 t ev n

/-- A global event (R414). -/
def State.globalEvent (s : State) (ev : Nat) : State := s.pmcGlobal 0 0 ev 1

/-! ### Events and the recorder (R397-R403) -/

/-- Packs event items (width in bits, value) into DATA: each at the next multiple of its width, the first that would pass
bit 191 left out with all that follow (R398). The Bool is TRUNC. -/
def packItems : Nat → List (Nat × Nat) → Nat × Bool
  | _, [] => (0, false)
  | pos, (w, v) :: t =>
    let at' := (pos + w - 1) / w * w
    if at' + w ≤ 192 then
      let r := packItems (at' + w) t
      ((v % 2 ^ w) <<< at' + r.1, r.2)
    else (0, true)

/-- A unit raises an event: it is stamped now, with domain A, TIME_COUNT and domain B of this count, and waits to be written
at the end of the command. -/
def State.raise (s : State) (code : Nat) (src : Nat × Nat) (items : List (Nat × Nat))
    (job : Option (Nat × Nat × Nat) := none) : State :=
  let o := s.origin src
  let d := packItems 0 items
  { s with recorder := { s.recorder with raised := s.recorder.raised ++
      [{ code := code, stamp := s.nowA, count := s.time.count, stampB := s.nowB, skind := src.1, sidx := src.2,
         lcyc := o.1, cst := o.2, job := job, data := d.1, trunc := d.2 }] } }

/-- COUNT of REC_STAT. -/
def Recorder.full (r : Recorder) : Bool := decide (65536 ≤ r.store.length)

/-- Records awaiting flash (R400). -/
def Recorder.staged (r : Recorder) : Nat := r.store.length - r.flashed

/-- FIRSTSEQ and NEXTSEQ are kept in REC_SEQ; NEXTSEQ is the SEQ the next record takes (R399). -/
def State.nextSeq (s : State) : Nat := s.field Reg.recSeq 32 32

/-- Writes one record, or counts it where the store or the staging queue is full (R400, R401). -/
def State.writeOne (s : State) (e : Event) : State :=
  if s.recorder.full then s.count Reg.recDropped
  else if 4096 ≤ s.recorder.staged then s.count Reg.recOverrun
  else
    let r : Record := { seq := s.nextSeq, event := e, writer := s.isk.owner == some 1, noown := s.isk.owner.isNone }
    let s := { s with recorder := { s.recorder with store := s.recorder.store ++ [r] } }
    let s := s.setField Reg.recSeq 32 32 (s.nextSeq + 1)
    let s := s.globalEvent (0x100 + e.code / 4096)
    s.irq 1 0

/-- The time-reference record that precedes an event (R399): domain A, TIME_COUNT and domain B as sampled with it. -/
def timeReference (e : Event) : Event :=
  { e with code := 0x0002, skind := 8, sidx := 0, lcyc := 0, cst := 0, job := none, trunc := false,
           data := (packItems 0 [(64, e.stamp), (64, e.count), (64, e.stampB)]).1 }

/-- Whether a time reference is due before an event of a stamp (R399). -/
def Recorder.needsRef (r : Recorder) (stamp : Nat) : Bool :=
  match r.tref with
  | none => true
  | some t => decide (2 ^ 30 ≤ (max stamp t) - (min stamp t))

/-- Writes an event as a record, behind a time reference where one is due (R399); the record of a step of domain A, the first after
the step, takes one (R246; DEDUCED, log 85). -/
def State.writeEvent (s : State) (e : Event) : State :=
  let due := s.recorder.needsRef e.stamp || e.code == 0x8008
  let s :=
    if due && !s.recorder.full && decide (s.recorder.staged < 4096) then
      let s := s.writeOne (timeReference e)
      { s with recorder := { s.recorder with tref := some e.stamp } }
    else if due && s.recorder.full then s.count Reg.recDropped
    else s
  s.writeOne e

/-- The earliest freeze begin that is due: those of TIME packets and that of REC_FREEZE. -/
def State.freezeDue (s : State) : Option Nat :=
  let own := if s.reg Reg.recFreeze = 0 then [] else [s.reg Reg.recFreeze]
  ((s.recorder.freezeAt ++ own).filter (fun t => decide (t ≤ s.nowA))).min?

/-- Whether a record of this stamp is held by a freeze: of one in progress or due, whose T the stamp has reached (R403). -/
def State.heldByFreeze (s : State) (stamp : Nat) : Bool :=
  match s.recorder.frozen with
  | some t => decide (t ≤ stamp)
  | none => (s.freezeDue.map (fun t => decide (t ≤ stamp))).getD false

/-- An event reaches the recorder: written, held by a freeze whose T is at or before its stamp, or left waiting by a clear
(R403, R404). -/
def State.takeEvent (s : State) (e : Event) : State :=
  if s.heldByFreeze e.stamp then
    if s.recorder.held.length < 4096 then
      { s with recorder := { s.recorder with held := s.recorder.held ++ [e] } }
    else s.count Reg.recFrzDrop
  else if s.recorder.clearing then
    if s.recorder.waiting.length < 4096 then
      { s with recorder := { s.recorder with waiting := s.recorder.waiting ++ [e] } }
    else s.count Reg.recOverrun
  else s.writeEvent e

/-- Hands the raised events to the recorder: equal stamps in the order of SKIND and then SIDX (R399). -/
def State.flush (s : State) : State :=
  let es := sortBy (fun e => e.skind * 65536 + e.sidx) s.recorder.raised
  es.foldl State.takeEvent { s with recorder := { s.recorder with raised := [] } }

/-! ### Outcomes -/

/-- The form of every meaning: where its condition holds, the command has its effect, and the events it raised are recorded;
where it does not, the command changes nothing. -/
def act (g : State → Bool) (f : State → State) (s : State) : Host.Outcome State Fault Refusal :=
  if g s then .next (f s).flush else .next s

/-- A command of a unit that a stop of the whole module stops (R428). -/
def actLive (g : State → Bool) (f : State → State) (s : State) : Host.Outcome State Fault Refusal :=
  act (fun s => !s.stops 0 && g s) f s

/-- A command whose effect has no condition. -/
def act1 (f : State → State) (s : State) : Host.Outcome State Fault Refusal := .next (f s).flush

/-! ### Host accesses (R458, R460, R462) -/

/-- A refused access: counted, HIF_REFUSE overwritten, event 0xC004 at most once per millisecond. -/
def State.refuse (s : State) (kind pf : Nat) (bar2 : Bool) (off : Nat) : State :=
  let s := s.count Reg.hifRefused
  let s := s.setReg Reg.hifRefuse (kind % 16 + pf % 2 * 16 + b2n bar2 * 32 + off % 2 ^ 40 * 256)
  let ms := s.time.count / 1000000 + 1
  if s.host.refuseMs = ms then s
  else
    let s := { s with host := { s.host with refuseMs := ms } }
    s.raise 0xC004 (8, 0) [(8, kind), (8, pf % 2), (64, off)]

/-- Why a 64-bit write of a requester (0 PF0, 1 PF1, 2 Isrek) to an offset is refused, if it is (R460). -/
def State.writeRefusal (s : State) (pf off : Nat) : Option Nat :=
  if pf < 2 ∧ !s.host.bs1Done ∧ 0x600000 ≤ off then some 5
  else match regInfo off with
    | none => some 4
    | some i => if pf = 0 ∧ i.mgmt then some 2 else none

/-- A write of one register by a requester: refused as R460 says, else with the effect given. -/
def hostWrite (pf off : Nat) (f : State → State) (s : State) : Host.Outcome State Fault Refusal :=
  act1 (fun s => match s.writeRefusal pf off with
    | some k => s.refuse k pf false off
    | none => f s) s

end Sys2Proof.Machine
end

