-- ==== Sys2Proof/Machine/Hbm.lean ====
section
/-! DEFINITION. HBM as the device uses it (R161-R171): the address map, reads and writes of any length under the ECC, poison
and partial-write rules, in-service repair, and the little-endian fields of descriptors kept in HBM. -/

namespace Sys2Proof.Machine
open Sys2Proof

/-! ### The address map (R161-R165) -/

/-- SP in effect, in GiB for each stack (R162). -/
def State.spread (s : State) : Nat := s.field Reg.nmeMap 8 8

/-- The physical place of a device address: its stack and stack-local address, if it is backed (R161, R163, R164). -/
def locate (sp addr : Nat) : Option (Nat × Nat) :=
  let l := 128 - sp
  if addr < 0x40000000000 then
    let n := addr / 2 ^ 39
    let o := addr % 2 ^ 39
    if o < 4 * l * 2 ^ 30 then
      let g := o / 4096
      let c := (g ^^^ (g >>> 2) ^^^ (g >>> 4) ^^^ (g >>> 6) ^^^ (g >>> 8)) % 4
      some (4 * n + c, g / 4 * 4096 + o % 4096)
    else none
  else if 0x100000000000 ≤ addr ∧ addr < 0x140000000000 then
    let o := addr - 0x100000000000
    if o < 32 * sp * 2 ^ 30 then
      let g := o / 4096
      some ((g ^^^ (g >>> 5) ^^^ (g >>> 10)) % 32, l * 2 ^ 30 + g / 32 * 4096 + o % 4096)
    else none
  else none

/-- The key of a physical byte: stack and 37-bit stack-local address. -/
def physKey (stack a : Nat) : Nat := stack * 2 ^ 37 + a

/-- Whether every byte of a range is backed. -/
def State.backed (s : State) (addr n : Nat) : Bool :=
  (locate s.spread addr).isSome &&
  (n == 0 || ((locate s.spread (addr + n - 1)).isSome && (addr / 2 ^ 39 == (addr + n - 1) / 2 ^ 39 || 0x100000000000 ≤ addr)))

/-- Whether a range lies in the backed tile-local region of a tile. -/
def State.inTile (s : State) (tile addr n : Nat) : Bool :=
  decide (tile * 2 ^ 39 ≤ addr ∧ addr + n ≤ tile * 2 ^ 39 + 4 * (128 - s.spread) * 2 ^ 30)

/-- The DRAM row of a stack-local address (R165, R168): the pseudo-channel, and the address within it above the eight column
bits that the fields of FUSE_HROW (R473) leave. -/
def rowOf (a : Nat) : Nat :=
  let pc := a / 128 % 32
  let inner := a / 4096 * 128 + a % 128
  pc * 2 ^ 24 + inner / 256

/-- The bank of a row: its pseudo-channel, stack ID, bank group and bank. -/
def bankOf (row : Nat) : Nat := row / 2 ^ 24 * 64 + row / 2 ^ 22 % 4 * 16 + row % 16

/-! ### Lines -/

/-- An NME. -/
def State.nme (s : State) (i : Nat) : Nme := Tab.get s.nmes Nme.reset i

/-- Writes an NME. -/
def State.setNme (s : State) (i : Nat) (x : Nme) : State := { s with nmes := Tab.put s.nmes Nme.reset i x }

/-- A byte of HBM by physical key. -/
def State.byteAt (s : State) (k : Nat) : Byte := Tab.get s.hbm 0 k

/-- The memory's canonical form. -/
def Memory.wf (m : Tab Byte) : Bool := Tab.wf (fun _ => (0 : Byte)) m

/-- Writes bytes from a physical key upward. -/
def putBytes (m : Tab Byte) (k : Nat) : List Byte → Tab Byte
  | [] => m
  | b :: t => putBytes (Tab.put m 0 k b) (k + 1) t

/-- Bytes from a physical key upward. -/
def State.bytesAt (s : State) (k n : Nat) : List Byte := (List.range n).map (fun i => s.byteAt (k + i))

/-- The ECC state of a line (R167): erroneous symbols, and POISON. It is kept as twice the symbols plus POISON. -/
def State.lineErrs (s : State) (line : Nat) : Nat := Tab.get s.ecc 0 line / 2

/-- POISON of a line. -/
def State.linePoison (s : State) (line : Nat) : Bool := Tab.get s.ecc 0 line % 2 == 1

/-- Writes the ECC state of a line. -/
def State.setEcc (s : State) (line errs : Nat) (poison : Bool) : State :=
  { s with ecc := Tab.put s.ecc 0 line (2 * errs + b2n poison) }

/-- A bank has no spare row left: SPPRFULL, recorded where NME_STAT did not say so of this bank before (R171, R197). -/
def State.bankFull (s : State) (i bank : Nat) : State :=
  let m := s.nme i
  if m.full.contains bank then s
  else
    let s := (s.setNme i { m with full := m.full ++ [bank] }).setFlag (Reg.nmeStat i) 2
    s.raise 0x6005 (3, i) [(16, i), (16, bank)]

/-- In-service repair of a row whose corrections reached the threshold (R171): it is counted, recorded and listed; a bank
whose last spare row is used sets SPPRFULL, and a further row of it is left as it is. -/
def State.sppr (s : State) (i row : Nat) : State :=
  let m := s.nme i
  let bank := bankOf row
  let used := (m.repaired.filter (fun r => r.2 == bank)).length
  if used < Config.spareRows then
    let s := s.setNme i { m with repaired := m.repaired ++ [(row, bank)] }
    let s := s.count (Reg.nmeSppr i)
    let s := s.raise 0x6004 (3, i) [(16, i), (64, row)]
    if used + 1 < Config.spareRows then s else s.bankFull i bank
  else s.bankFull i bank

/-- Corrections of a row that trigger a repair: SPPRTH, 0 taken as 1 (R197). -/
def State.spprth (s : State) (i : Nat) : Nat := max 1 (s.field (Reg.nmeCtl i) 10 3)

/-- Nanoseconds of a scrub pass: SCRUBH hours, 0 taken as 1 (R168, R197). -/
def State.passTime (s : State) (i : Nat) : Nat := max 1 (s.field (Reg.nmeCtl i) 1 8) * 3600000000000

/-- While SCRUBEN = 0 the passes keep their schedule without reading (R168): a pass whose time is over ends, with its rows'
counts. -/
def State.passTick (s : State) (i : Nat) : State :=
  let m := s.nme i
  let n := (s.time.count - m.passAt) / s.passTime i
  if s.flag (Reg.nmeCtl i) 0 || n == 0 then s
  else s.setNme i { m with passAt := m.passAt + n * s.passTime i, corrected := [] }

/-- A corrected error (R168): counted in NME_ECC_CE and against its row, recorded once for each row and scrub pass, and
repaired at the threshold of R171. -/
def State.corrected (s : State) (i a : Nat) : State :=
  let s := s.passTick i
  let row := rowOf a
  let m := s.nme i
  let n := Tab.get m.corrected 0 row + 1
  let s := s.setNme i { m with corrected := Tab.put m.corrected 0 row n }
  let s := s.count (Reg.nmeEccCe i)
  let s := if n = 1 then s.raise 0x6002 (3, i) [(16, i), (16, a / 128 % 32), (64, row)] else s
  if s.flag (Reg.nmeCtl i) 9 && n == s.spprth i then s.sppr i row else s

/-- Event 0x6007 of an access whose parity failed a second time (R159). -/
def State.retryEvent (s : State) (hw : HwError) : State :=
  match hw with
  | .retry addr =>
    match locate s.spread addr with
    | some (stack, a) => s.raise 0x6007 (3, stack) [(16, stack), (16, a / 128 % 32)]
    | none => s
  | _ => s

/-- Tile events 0x020 and 0x021: 64 bytes read or written at a stack, by its controller (R414). -/
def State.hbmEvent (s : State) (stack ev : Nat) : State := if stack < 32 then s.tileEvent (stack / 4) (stack % 4) ev 1 else s

/-- The outcome of a read of one line (R168): whether data is returned, and the state after. Errors in three or more symbols
may pass undetected, which is a free value, and the data is then free too. -/
def State.readLine (s : State) (line : Nat) : Bool × State :=
  let i := line / 2 ^ 31
  let a := line % 2 ^ 31 * 64
  let e := s.lineErrs line
  let p := s.linePoison line
  let s := s.hbmEvent i 0x020
  if e = 0 then
    if p then (false, s.count (Reg.nmeEccPoisonRd i)) else (true, s)
  else if e = 1 then
    let s := (s.setEcc line 0 p).corrected i a
    if p then (false, s.count (Reg.nmeEccPoisonRd i)) else (true, s)
  else
    let f := s.fresh
    if 3 ≤ e ∧ f.1 % 2 = 1 then
      let bytes := (List.range 64).map (fun k => BitVec.ofNat 8 (f.1 / 2 / 256 ^ k))
      (!p, { f.2 with hbm := putBytes f.2.hbm (line * 64) bytes })
    else
      let s := if 3 ≤ e then f.2 else s
      (false, (s.setEcc line 0 true).count (Reg.nmeEccUe i))

/-- The lines that cover a physical range. -/
def linesOf (k n : Nat) : List Nat := if n = 0 then [] else (List.range ((k + n - 1) / 64 - k / 64 + 1)).map (· + k / 64)

/-- Reads the lines of a physical range: whether all returned data, the first that did not, and the state after. -/
def State.readLines (s : State) : List Nat → Option Nat × State
  | [] => (none, s)
  | l :: t =>
    let r := s.readLine l
    let q := r.2.readLines t
    (if r.1 then q.1 else some l, q.2)

/-- Writes part or all of one line (R169): a full line clears POISON and errors; a part is a read-modify-write, which leaves the
line poisoned where the read is uncorrectable, and records event 0x6003. -/
def State.writeLine (s : State) (k : Nat) (bytes : List Byte) : State :=
  let line := k / 64
  let s := s.hbmEvent (line / 2 ^ 31) 0x021
  if bytes.length = 64 then
    let s := s.setEcc line 0 false
    { s with hbm := putBytes s.hbm k bytes }
  else
    let r := s.readLine line
    let s := { r.2 with hbm := putBytes r.2.hbm k bytes }
    if r.1 then s.setEcc line 0 false
    else
      let s := s.setEcc line 0 true
      s.raise 0x6003 (3, line / 2 ^ 31) [(16, line / 2 ^ 31), (8, 0), (64, k)]

/-! ### Device addresses -/

/-- Why an access of HBM gave no data: an unbacked address, or an uncorrectable read; with the address. -/
inductive MemErr where
  | unbacked (addr : Nat)
  | uncorrectable (addr : Nat)
deriving DecidableEq, Repr

/-- Cuts a range into pieces that each lie in one 64-byte line. -/
def piecesOf : Nat → Nat → Nat → List (Nat × Nat)
  | 0, _, _ => []
  | fuel + 1, addr, n =>
    if n = 0 then []
    else
      let m := min n (64 - addr % 64)
      (addr, m) :: piecesOf fuel (addr + m) (n - m)

/-- The pieces of a range. -/
def pieces (addr n : Nat) : List (Nat × Nat) := piecesOf (n / 64 + 2) addr n

/-- Reads the pieces of a range in order: the bytes, the first error, and the state after. -/
def State.readPieces (s : State) : List (Nat × Nat) → List Byte × Option MemErr × State
  | [] => ([], none, s)
  | (addr, n) :: t =>
    match locate s.spread addr with
    | none => ([], some (.unbacked addr), s)
    | some (stack, a) =>
      let k := physKey stack a
      let r := s.readLine (k / 64)
      if r.1 then
        let q := r.2.readPieces t
        (r.2.bytesAt k n ++ q.1, q.2.1, q.2.2)
      else ([], some (.uncorrectable addr), r.2)

/-- Reads n bytes at a device address. -/
def State.memRead (s : State) (addr n : Nat) : List Byte × Option MemErr × State := s.readPieces (pieces addr n)

/-- Writes pieces in order; an unbacked piece is left out. -/
def State.writePieces (s : State) : List (Nat × Nat) → List Byte → State
  | [], _ => s
  | (addr, n) :: t, bytes =>
    match locate s.spread addr with
    | none => s.writePieces t (bytes.drop n)
    | some (stack, a) => (s.writeLine (physKey stack a) (bytes.take n)).writePieces t (bytes.drop n)

/-- Writes bytes at a device address. -/
def State.memWrite (s : State) (addr : Nat) (bytes : List Byte) : State := s.writePieces (pieces addr bytes.length) bytes

/-- A 64-bit little-endian word of bytes read, by byte offset. -/
def wordAt (bytes : List Byte) (off : Nat) : Nat := ofBytes ((bytes.drop off).take 8)

/-- Writes a 64-bit word. -/
def State.memWrite64 (s : State) (addr v : Nat) : State := s.memWrite addr (toBytes 8 v)

/-- Writes the POISON tag of every line of a device range (poisoning data whose source was lost). -/
def State.poisonRange (s : State) (addr n : Nat) : State :=
  (pieces addr n).foldl (fun s p => match locate s.spread p.1 with
    | none => s
    | some (stack, a) => s.setEcc (physKey stack a / 64) 0 true) s

end Sys2Proof.Machine
end

