-- ==== Sys2Proof/Machine/Operands.lean ====
section
/-! DEFINITION. Operand forms of Fjokakan instructions (R115-R123): register files with their hard-wired members, tile
descriptors and their fields, the place of every element and scale, and reads and writes of core store. -/

namespace Sys2Proof.Machine
open Sys2Proof

/-! ### Register files (R115) -/

/-- A scalar register; s0 reads zero. -/
def Core.sr (k : Core) (i : Nat) : Word := if i = 0 then 0 else Tab.get k.s 0 i

/-- Writes a scalar register; a write of s0 is discarded. -/
def Core.setS (k : Core) (i : Nat) (v : Word) : Core := if i = 0 then k else { k with s := Tab.put k.s 0 i v }

/-- A predicate register; p0 reads all ones. -/
def Core.pr (k : Core) (i : Nat) : Word := if i = 0 then BitVec.allOnes 64 else Tab.get k.p 0 i

/-- Writes a predicate register; a write of p0 is discarded. -/
def Core.setP (k : Core) (i : Nat) (v : Word) : Core := if i = 0 then k else { k with p := Tab.put k.p 0 i v }

/-- Lane l of a vector register. -/
def Core.vr (k : Core) (r l : Nat) : Lane32 := Tab.get k.v 0 (64 * r + l)

/-- Writes one lane. -/
def Core.setV (k : Core) (r l : Nat) (x : Lane32) : Core := { k with v := Tab.put k.v 0 (64 * r + l) x }

/-- Writes lanes from 0 upward. -/
def Core.setVec (k : Core) (r : Nat) (xs : List Lane32) : Core :=
  xs.zipIdx.foldl (fun k xi => k.setV r xi.2 xi.1) k

/-- A tile descriptor register. -/
def Core.tr (k : Core) (i : Nat) : BitVec 256 := Tab.get k.t 0 i

/-- The reserved bits of a tile descriptor, [135:134] and [255:248], read 0 and ignore what is written (R13, R116). -/
def dDefined (d : BitVec 256) : BitVec 256 := BitVec.ofNat 256 (setBits (setBits d.toNat 134 2 0) 248 8 0)

/-- Writes a tile descriptor; its anchor slot becomes empty (R125). -/
def Core.setT (k : Core) (i : Nat) (d : BitVec 256) : Core :=
  { k with t := Tab.put k.t 0 i (dDefined d), anchors := Tab.erase k.anchors i }

end Sys2Proof.Machine

namespace Sys2Proof
open Sys2Proof.Machine

/-! ### Fields of an instruction (R118) -/

/-- IMM as a number. -/
def Fki.im (x : Fki) : Nat := x.imm.toNat

/-- A field of IMM. -/
def Fki.immBits (x : Fki) (lo width : Nat) : Nat := bits x.imm.toNat lo width

/-- IMM sign-extended to 64 bits (sext of R119). -/
def Fki.sext (x : Fki) : Word := x.imm.signExtend 64

/-- IMM zero-extended to 64 bits (zext of R119). -/
def Fki.zext (x : Fki) : Word := x.imm.zeroExtend 64

end Sys2Proof

namespace Sys2Proof.Machine
open Sys2Proof

/-- The 64-bit word of an instruction (R118). -/
def fkiWord (cls fn : Nat) (x : Fki) : Word :=
  BitVec.ofNat 64 (cls % 64 * 2 ^ 58 + fn % 64 * 2 ^ 52 + x.d.toNat * 2 ^ 47 + x.a.toNat * 2 ^ 42 + x.b.toNat * 2 ^ 37 +
    x.c.toNat * 2 ^ 32 + x.imm.toNat)

/-! ### Tile descriptors (R116) -/

/-- A field of a descriptor. -/
def dBits (d : BitVec 256) (lo width : Nat) : Nat := bits d.toNat lo width

def dBase (d : BitVec 256) : Nat := dBits d 0 48
def dTensor (d : BitVec 256) : Nat := dBits d 48 16
def dD0 (d : BitVec 256) : Nat := dBits d 64 16
def dD1 (d : BitVec 256) : Nat := dBits d 80 16
def dStride (d : BitVec 256) : Nat := dBits d 96 32
def dFmtCode (d : BitVec 256) : Nat := dBits d 128 5
def dSpace (d : BitVec 256) : Nat := dBits d 133 1
def dAnchor (d : BitVec 256) : Nat := dBits d 136 16
def dScale (d : BitVec 256) : Nat := dBits d 152 48
def dIdxBase (d : BitVec 256) : Nat := dBits d 200 48

/-- AVAL of the anchor field (R46). -/
def dAval (d : BitVec 256) : Int := signed (dAnchor d) 11

/-- ASEL of the anchor field (R46). -/
def dAsel (d : BitVec 256) : Nat := bits (dAnchor d) 11 2

/-- The format a descriptor names, if its code names one. -/
def dFmt (d : BitVec 256) : Option Fmt := Fmt.ofCode (dFmtCode d)

/-- Low bit and width of each descriptor field by the number TSET uses (R116). -/
def dFieldPlace (n : Nat) : Option (Nat × Nat) :=
  [(0, 48), (48, 16), (64, 16), (80, 16), (96, 32), (128, 5), (133, 1), (136, 16), (152, 48), (200, 48)][n]?

/-- The descriptor with one field written (TSET). -/
def dSetField (d : BitVec 256) (n v : Nat) : BitVec 256 :=
  match dFieldPlace n with
  | some (lo, w) => BitVec.ofNat 256 (setBits d.toNat lo w v)
  | none => d

/-- The element index of R117 for element (d1, d0). -/
def dIndex (d : BitVec 256) (d1 d0 : Nat) : Nat := (dIdxBase d + d1 * dD0 d + d0) % 2 ^ 48

/-- Bytes of one row of elements. -/
def rowBytes (f : Fmt) (d0 : Nat) : Nat := (d0 * f.width + 7) / 8

/-- The byte address of row d1. -/
def dRow (d : BitVec 256) (d1 : Nat) : Nat := dBase d + d1 * dStride d

/-- The byte address of the scale of element (d1, d0) (R116). -/
def dScaleAddr (d : BitVec 256) (d1 d0 : Nat) : Nat := dScale d + d1 * ((dD0 d + 31) / 32) + d0 / 32

/-! ### Core store -/

/-- Size of core store: offsets lie below it (R116). -/
def coreStoreSize : Nat := 0x600000

/-- A byte of core store. -/
def Core.byte (k : Core) (a : Nat) : Byte := Tab.get k.store 0 a

/-- n bytes of core store. -/
def Core.bytes (k : Core) (a n : Nat) : List Byte := (List.range n).map (fun i => k.byte (a + i))

/-- Writes bytes of core store. -/
def Core.putBytes (k : Core) (a : Nat) (l : List Byte) : Core := { k with store := Machine.putBytes k.store a l }

/-- The element code at a bit offset of a row of core store. -/
def Core.codeAt (k : Core) (f : Fmt) (row d0 : Nat) : Nat :=
  let b := d0 * f.width
  let n := (b % 8 + f.width + 7) / 8
  (ofBytes (k.bytes (row + b / 8) n) >>> (b % 8)) % 2 ^ f.width

/-- Writes the element code at a bit offset of a row of core store. -/
def Core.putCode (k : Core) (f : Fmt) (row d0 code : Nat) : Core :=
  let b := d0 * f.width
  let n := (b % 8 + f.width + 7) / 8
  let a := row + b / 8
  k.putBytes a (toBytes n (setBits (ofBytes (k.bytes a n)) (b % 8) f.width code))

/-- The scale byte of element (d1, d0). -/
def Core.scaleAt (k : Core) (d : BitVec 256) (d1 d0 : Nat) : Nat := (k.byte (dScaleAddr d d1 d0)).toNat

/-- The exact value of element (d1, d0) of a core-store descriptor, its block scale applied. -/
def Core.elemAt (k : Core) (d : BitVec 256) (f : Fmt) (d1 d0 : Nat) : Num :=
  let code := k.codeAt f (dRow d d1) d0
  if f.isMx then f.decodeMx code (k.scaleAt d d1 d0) else f.decode code

/-- Why the descriptor of a matrix or vector operand does not name core store as it must: ALIGN with the failing address
(R123). `lastRow` and `n` say how far the operand reaches. -/
def dAlign (d : BitVec 256) (f : Fmt) (firstRow lastRow n : Nat) : Option Nat :=
  if dSpace d = 0 then some (dBase d)
  else if dBase d % 64 ≠ 0 then some (dBase d)
  else if dStride d % 64 ≠ 0 then some (dStride d)
  else if coreStoreSize < dRow d firstRow + rowBytes f n then some (dRow d firstRow)
  else if coreStoreSize < dRow d lastRow + rowBytes f n then some (dRow d lastRow)
  else if f.isMx ∧ coreStoreSize ≤ dScaleAddr d lastRow (n - 1) then some (dScaleAddr d lastRow (n - 1))
  else none

end Sys2Proof.Machine
end

