-- ==== Sys2Proof/Machine/Packet.lean ====
section
/-! DEFINITION. Packets (R213-R217): the fields of the header flit, its two checksums, flits and bytes, and the payload an
end-to-end record names. -/

namespace Sys2Proof
open Sys2Proof.Machine

/-- A field of the header flit. -/
def Packet.field (p : Packet) (lo width : Nat) : Nat := bits p.header.toNat lo width

/-- Writes a field of the header flit. -/
def Packet.setField (p : Packet) (lo width v : Nat) : Packet :=
  { p with header := BitVec.ofNat 512 (setBits p.header.toNat lo width v) }

def Packet.dst (p : Packet) : Nat := p.field 0 15
def Packet.src (p : Packet) : Nat := p.field 16 15
def Packet.job (p : Packet) : Nat := p.field 32 12
def Packet.epoch (p : Packet) : Nat := p.field 44 8
def Packet.stepl (p : Packet) : Nat := p.field 52 16
def Packet.vc (p : Packet) : Nat := p.field 68 3
def Packet.type (p : Packet) : Nat := p.field 71 4
def Packet.rsp (p : Packet) : Nat := p.field 75 1
def Packet.esc (p : Packet) : Nat := p.field 76 1
def Packet.dl (p : Packet) : Nat := p.field 77 3
def Packet.hops (p : Packet) : Nat := p.field 80 6
def Packet.plane (p : Packet) : Nat := p.field 86 2
def Packet.flood (p : Packet) : Nat := p.field 89 1
def Packet.det (p : Packet) : Nat := p.field 90 2
def Packet.seq (p : Packet) : Nat := p.field 96 32
def Packet.ts32 (p : Packet) : Nat := p.field 128 32
def Packet.addr (p : Packet) : Nat := p.field 160 48
def Packet.len (p : Packet) : Nat := p.field 208 5
def Packet.sub (p : Packet) : Nat := p.field 216 8
def Packet.tag (p : Packet) : Nat := p.field 224 16
def Packet.ext (p : Packet) (lo width : Nat) : Nat := p.field (288 + lo) width

/-- The bits of a number below `n`, highest first. -/
def bitsMsb (n x : Nat) : List Bool := ((List.range n).map (bit x)).reverse

/-- HCRC of a header flit (R213): the CRC-16 of bits [495:0], highest bit first. -/
def headerCrc (h : Flit) : Nat := crc16 (bitsMsb 496 h.toNat)

/-- The header with its HCRC regenerated (R215). -/
def Packet.seal (p : Packet) : Packet := p.setField 496 16 (headerCrc p.header)

/-- Whether a header flit passes HCRC. -/
def headerOk (h : Flit) : Bool := bits h.toNat 496 16 == headerCrc h

/-- The 64 bytes of a flit, least significant first. -/
def flitBytes (f : Flit) : List Byte := toBytes 64 f.toNat

/-- Payload bytes of a packet. -/
def Packet.bytes (p : Packet) : List Byte := p.payload.flatMap flitBytes

/-- Cuts bytes into flits; the caller pads to whole flits. -/
def flitsOf : Nat → List Byte → List Flit
  | 0, _ => []
  | n + 1, l => BitVec.ofNat 512 (ofBytes (l.take 64)) :: flitsOf n (l.drop 64)

/-- ECRC of a packet (R213): CRC-32C over the header with the hop fields, ECRC and HCRC zero, and the payload. -/
def Packet.crc (p : Packet) : Nat :=
  let h := [(68, 3), (76, 1), (77, 3), (80, 6), (86, 2), (90, 2), (256, 32), (496, 16)].foldl
    (fun (q : Packet) f => q.setField f.1 f.2 0) p
  crc32c (flitBytes h.header ++ p.bytes)

/-- The packet with its ECRC and HCRC. -/
def Packet.finish (p : Packet) : Packet := (p.setField 256 32 p.crc).seal

/-- A packet of header fields (low bit, width, value) and payload flits; LEN follows from the payload. -/
def Packet.make (fs : List (Nat × Nat × Nat)) (payload : List Flit) : Packet :=
  (fs.foldl (fun (q : Packet) f => q.setField f.1 f.2.1 f.2.2) { header := 0, payload := payload }).setField 208 5
    payload.length

/-- Reserved bits of a header (R213): those that must be zero. -/
def Packet.reservedZero (p : Packet) : Bool :=
  [(15, 1), (31, 1), (92, 4), (213, 3), (240, 16), (480, 16)].all (fun f => p.field f.1 f.2 == 0)

/-! ### Packet types (R214) -/

def tyPut : Nat := 0
def tyGet : Nat := 1
def tyAcc : Nat := 2
def tyBcast : Nat := 3
def tyCtrl : Nat := 4
def tyTime : Nat := 5
def tyMirror : Nat := 6
def tyAbort : Nat := 7

/-- The class of VCs of a packet (R214, R218): 0 request, 1 response, 2 control. -/
def Packet.vcClass (p : Packet) : Nat :=
  if p.type = tyTime ∨ p.type = tyAbort then 2
  else if p.type = tyCtrl then (if p.sub = 0x01 ∨ p.sub = 0x04 then 1 else 2)
  else if p.type = tyGet ∧ p.rsp = 1 then 1
  else 0

/-- Whether TYPE, RSP and SUB name a packet of R214 and the reserved bits are zero (check 5 of R231). -/
def Packet.typeOk (p : Packet) : Bool :=
  p.reservedZero && decide (p.type ≤ 7) && (p.rsp == 0 || p.type == tyGet) &&
  (if p.type = tyCtrl then p.sub == 1 || p.sub == 2 || p.sub == 3 || p.sub == 4 || (decide (0x10 ≤ p.sub ∧ p.sub ≤ 0x1F))
   else p.sub == 0) &&
  decide (p.len = p.payload.length) && decide (p.len ≤ 16) &&
  (if p.type = tyAcc then decide (1 ≤ p.len)
   else if p.type = tyPut ∨ p.type = tyBcast ∨ p.type = tyMirror ∨ (p.type = tyGet ∧ p.rsp = 1) then true
   else p.len == 0)

/-- A link-local packet (check 2 of R231). -/
def Packet.linkLocal (p : Packet) : Bool :=
  p.type == tyCtrl && p.plane == 0 && (p.sub == 3 || (decide (0x10 ≤ p.sub ∧ p.sub ≤ 0x1F)))

end Sys2Proof

namespace Sys2Proof.Machine
open Sys2Proof

/-! ### Payload sources (R228) -/

/-- The bytes of a source's ranges, and the first error met. -/
def State.readSegs (s : State) (core : Option Nat) : List (Nat × Nat) → List Byte × Option MemErr × State
  | [] => ([], none, s)
  | (a, n) :: t =>
    match core with
    | some c =>
      let q := s.readSegs core t
      ((s.core c).bytes a n ++ q.1, q.2.1, q.2.2)
    | none =>
      let r := s.memRead a n
      match r.2.1 with
      | some e => ([], some e, r.2.2)
      | none =>
        let q := r.2.2.readSegs core t
        (r.1 ++ q.1, q.2.1, q.2.2)

/-- The payload flits a source gives, padded to whole flits: with zeros behind a sub-header (R174), else with bytes the spec
leaves open. -/
def State.readSource (s : State) (x : Source) (len : Nat) : List Flit × Option MemErr × State :=
  let r := s.readSegs x.core x.segs
  let bytes := x.pre ++ r.1
  let need := 64 * len - bytes.length
  let pad : List Byte := if x.pre.isEmpty then
      (if need = 0 then [] else toBytes need (Config.freeValue r.2.2.freeIndex)) else List.replicate need 0
  let s := if x.pre.isEmpty ∧ need ≠ 0 then { r.2.2 with freeIndex := r.2.2.freeIndex + 1 } else r.2.2
  (flitsOf len (bytes ++ pad), r.2.1, s)

/-- A source with nothing in it. -/
def Source.none : Source := { pre := [], core := Option.none, segs := [] }

end Sys2Proof.Machine
end

