-- ==== Sys2Proof/Machine/Route.lean ====
section
/-! DEFINITION. Ports and routing (R200, R219-R226): what a port holds, the choice of an output for a packet, the drops of a
hop, floods, and the frames a transmitter sends. -/

namespace Sys2Proof.Machine
open Sys2Proof

/-! ### Ports -/

/-- A port. -/
def State.port (s : State) (p : Nat) : Port := Tab.get s.fab.ports Port.reset p

/-- Writes a port. -/
def State.setPort (s : State) (p : Nat) (x : Port) : State :=
  { s with fab := { s.fab with ports := Tab.put s.fab.ports Port.reset p x } }

/-- Changes a port. -/
def State.modPort (s : State) (p : Nat) (f : Port → Port) : State := s.setPort p (f (s.port p))

/-- The training state of a port (R212). -/
def State.lts (s : State) (p : Nat) : Nat := s.field (Reg.fabPortStat p) 0 4

/-- Whether a port is UP. -/
def State.portUp (s : State) (p : Nat) : Bool := s.lts p == 7

/-- Whether a hop may use a port: UP and not withdrawn (R224, R233). -/
def State.usable (s : State) (p : Nat) : Bool := s.portUp p && !s.flag (Reg.fabPortStat p) 14

/-- The ports in state UP, rising. -/
def State.upPorts (s : State) : List Nat := (List.range 12).filter s.portUp

/-- Buffer depth of a VC in flits (R218). -/
def vcDepth (vc : Nat) : Nat := if vc < 2 then 512 else if vc < 6 then 192 else 64

/-- Flits of a packet on a link. -/
def flitsIn (p : Packet) : Nat := p.payload.length + 1

/-- The loopback of the module (R132): its own packets to itself arrive here. -/
def loopback : Nat := 12

/-- The fabric tile of a port as an event source of tile counters: tile 8 or 9, port within it. -/
def State.portEvent (s : State) (p ev n : Nat) : State :=
  if p < 12 then s.tileEvent (8 + p / 6) (p % 6) ev n else s

/-! ### Coordinates (R8, R222) -/

/-- Ring size and own coordinate of a dimension. -/
def NodeLatch.dim (l : NodeLatch) (k : Nat) : Nat × Nat :=
  if k = 0 then (l.xd, l.node % 32) else if k = 1 then (l.yd, l.node / 32 % 32) else (l.zd, l.node / 1024 % 32)

/-- A coordinate of a node ID. -/
def coord (node k : Nat) : Nat := node / 32 ^ k % 32

/-- The offset of a dimension to a destination (R222). -/
def NodeLatch.offset (l : NodeLatch) (dst k : Nat) : Nat :=
  let d := l.dim k
  (coord dst k + d.1 - d.2) % d.1

/-- Whether every coordinate of a destination lies inside FAB_DIM. -/
def NodeLatch.inside (l : NodeLatch) (dst : Nat) : Bool :=
  [0, 1, 2].all (fun k => decide (coord dst k < (l.dim k).1))

/-- The node at the other end of direction d (R200): even directions are +. -/
def NodeLatch.neighbour (l : NodeLatch) (d : Nat) : Nat :=
  let k := d / 2
  let r := l.dim k
  let c := if d % 2 = 0 then (r.2 + 1) % r.1 else (r.2 + r.1 - 1) % r.1
  l.node - coord l.node k * 32 ^ k + c * 32 ^ k

/-- Unfinished dimensions, lowest first. -/
def NodeLatch.unfinished (l : NodeLatch) (dst : Nat) : List Nat := [0, 1, 2].filter (fun k => l.offset dst k != 0)

/-- Productive directions of a dimension on adaptive VCs (R222). -/
def NodeLatch.productive (l : NodeLatch) (dst k : Nat) : List Nat :=
  let o := l.offset dst k
  let d := (l.dim k).1
  if o = 0 then [] else if 2 * o < d then [2 * k] else if 2 * o = d then [2 * k, 2 * k + 1] else [2 * k + 1]

/-- The escape direction (R222): the productive one of the lowest unfinished dimension, + where both are. -/
def NodeLatch.escape (l : NodeLatch) (dst : Nat) : Option Nat :=
  (l.unfinished dst).head?.bind (fun k => (l.productive dst k).head?)

/-- Whether direction d from here crosses the dateline of its dimension (R223). -/
def NodeLatch.wraps (l : NodeLatch) (d : Nat) : Bool :=
  let r := l.dim (d / 2)
  if d % 2 = 0 then r.2 == r.1 - 1 else r.2 == 0

/-- The identity in use; before the first latch no ring has a size. -/
def State.own (s : State) : NodeLatch := s.fab.latch.getD { node := 0, xd := 0, yd := 0, zd := 0 }

/-! ### Choice of an output (R222-R225) -/

/-- What becomes of a packet at a hop: it takes a port with its header for the link, waits, or is dropped and counted. -/
inductive Hop where
  | out (port : Nat) (p : Packet)
  | wait
  | drop (counter : Nat)
deriving DecidableEq, Repr

/-- The port a direction uses on a plane: the plane's own, or the other plane's where the first is not usable (R224). -/
def State.dirPort (s : State) (plane d : Nat) : Option Nat :=
  let a := d + 6 * plane
  let b := d + 6 * (1 - plane)
  if s.usable a then some a else if s.usable b then some b else none

/-- Credits a port holds for a VC. -/
def State.credit (s : State) (p vc : Nat) : Nat := ((s.port p).credits[vc]?).getD 0

/-- The header for a link on a VC: VC, HOPS, PLANE of the port, HCRC (R215). -/
def hopHeader (p : Packet) (port vc : Nat) : Packet :=
  (((p.setField 68 3 vc).setField 80 6 (p.hops + 1)).setField 86 2 (if p.flood = 1 then 0 else port / 6 + 1)).seal

/-- Among candidate ports with credits, the one with most, ties to the lowest number (R223). -/
def State.bestPort (s : State) (vc need : Nat) (ports : List Nat) : Option Nat :=
  ports.foldl (fun best p =>
    if s.credit p vc < need then best
    else match best with
      | none => some p
      | some q => if s.credit q vc < s.credit p vc ∨ (s.credit q vc = s.credit p vc ∧ p < q) then some p else some q) none

/-- The escape VC of a packet in direction d and its header's DL after the hop (R223). -/
def NodeLatch.escapeVc (l : NodeLatch) (p : Packet) (d : Nat) : Nat × Nat :=
  let k := d / 2
  let class1 := bit p.dl k || l.wraps d
  let base := if p.vcClass = 0 then 2 else if p.vcClass = 1 then 4 else 6
  (base + b2n class1, if l.wraps d then setBits p.dl k 1 1 else p.dl)

/-- The detour port of a packet (R222), if any. -/
def State.detourPort (s : State) (l : NodeLatch) (plane dst : Nat) : Option Nat :=
  let first := (l.unfinished dst).head?.bind (fun k =>
    match l.productive dst k with
    | [d] => s.dirPort plane (2 * k + (1 - d % 2))
    | _ => none)
  match first with
  | some p => some p
  | none =>
    match [0, 1, 2].filter (fun k => l.offset dst k == 0 && decide (1 < (l.dim k).1)) with
    | k :: _ =>
      match s.dirPort plane (2 * k) with
      | some p => some p
      | none => s.dirPort plane (2 * k + 1)
    | [] => none

/-- The detours allowed (DETMAX, 3 taken as 2), never more than 2 (R222, R236). -/
def State.detMax (s : State) : Nat := min 2 (s.field Reg.fabRoute 16 2)

/-- The port at which a drop is counted: the arrival port, or for a packet of the module itself the escape port of its plane,
P0 or P6 where no direction can be formed (R225). -/
def State.dropPort (s : State) (p : Packet) (origin : Nat) : Nat :=
  if origin < 12 then origin
  else
    let plane := if p.plane = 2 then 1 else 0
    match s.own.escape p.dst with
    | some d => if s.own.inside p.dst then d + 6 * plane else 6 * plane
    | none => 6 * plane

/-- The hop of a routed packet (R222-R225). -/
def State.hop (s : State) (p : Packet) (origin : Nat) : Hop :=
  let l := s.own
  let at' := s.dropPort p origin
  if !l.inside p.dst then .drop (Reg.fabDropBaddst at')
  else if 63 ≤ p.hops then .drop (Reg.fabDropTtl at')
  else
    let plane := if p.plane = 2 then 1 else 0
    let need := flitsIn p
    let adaptive := p.esc == 0 && p.vcClass != 2 && s.flag Reg.fabRoute 0
    let avc := if p.vcClass = 0 then 0 else 1
    let prod := ((l.unfinished p.dst).flatMap (l.productive p.dst)).filterMap (s.dirPort plane)
    let esc : Hop := match l.escape p.dst with
      | none => .wait
      | some d => match s.dirPort plane d with
        | none => if adaptive then .wait else .drop (Reg.fabDropNoroute at')
        | some port =>
          let v := l.escapeVc p d
          if s.credit port v.1 < need then .wait
          else .out port (hopHeader ((p.setField 76 1 1).setField 77 3 v.2) port v.1)
    if !adaptive then esc
    else if prod.isEmpty then
      if p.det < s.detMax then
        match s.detourPort l plane p.dst with
        | none => .drop (Reg.fabDropNoroute at')
        | some port =>
          if s.credit port avc < need then .wait
          else .out port (hopHeader (p.setField 90 2 (p.det + 1)) port avc)
      else .drop (Reg.fabDropNoroute at')
    else match s.bestPort avc need prod with
      | some port => .out port (hopHeader p port avc)
      | none => esc

/-- Takes credits of a port for a packet on its VC. -/
def Port.takeCredits (x : Port) (p : Packet) : Port :=
  { x with credits := x.credits.modify p.vc (fun c => c - flitsIn p) }

/-- A tile none of whose ports had a packet to send starts its watchdog anew as one is injected (R336). -/
def State.tileInjects (s : State) (port : Nat) : State :=
  if ((List.range 6).map (· + port / 6 * 6)).all (fun p => (s.port p).outq.isEmpty) then s.progress (0x2000 + port / 6) else s

/-- A packet leaves on a port: its credits are taken and it waits for the link. What the hop did is counted: bridge crossings
(R224), escapes, detours. -/
def State.take (s : State) (port origin : Nat) (old p : Packet) : State :=
  let s := if origin = loopback then s.tileInjects port else s
  let s := s.modPort port (fun x =>
    { x.takeCredits p with outq := x.outq ++ [{ packet := p, back := some { packet := old, origin := origin, since := s.time.count } }] })
  let s := if origin < 12 ∧ origin / 6 ≠ port / 6 then
      (s.count Reg.fabBridgeXing).portEvent origin 0x106 (flitsIn p)
    else s
  let s := if old.esc = 0 ∧ p.esc = 1 then s.portEvent port 0x104 1 else s
  let s := if old.det ≠ p.det then s.portEvent port 0x105 1 else s
  if origin < 12 then s.portEvent origin 0x107 1 else s

/-- A packet without an output is offered one; `none` where it goes on waiting. -/
def State.offer (s : State) (w : Waiting) : Option State :=
  match s.hop w.packet w.origin with
  | .out port p => some (s.take port w.origin w.packet p)
  | .drop k => some (s.count k)
  | .wait => none

/-- Offers an output to every waiting packet in turn. -/
def State.offerAll (s : State) : State :=
  s.fab.waiting.foldl (fun s w => match s.offer w with
    | some t => t
    | none => { s with fab := { s.fab with waiting := s.fab.waiting ++ [w] } })
    { s with fab := { s.fab with waiting := [] } }

/-! ### Arrival and injection -/

/-- Stamps of now in 2^-4 ns, with the sub-nanosecond part of a port (R253). -/
def State.stampOf (s : State) (phase : Nat) : Nat × Nat := (16 * s.nowA + phase, 16 * s.nowB + phase)

/-- The correction of a port's ingress stamps: INGLAT and SKEW (R253). -/
def State.ingressLag (s : State) (port : Nat) : Nat :=
  if port < 12 then s.field (Reg.timePcal port) 0 16 + (Tab.get s.time.ports TimePort.reset port).skew else 0

/-- Puts a packet at the end of the receive buffer of a VC; in an empty one it becomes the head now. -/
def Port.push (x : Port) (vc now : Nat) (r : RxPacket) : Port :=
  { x with rx := x.rx.modify vc (· ++ [r]),
           headAt := if ((x.rx[vc]?).getD []).isEmpty then x.headAt.set vc now else x.headAt }

/-- Puts a packet into the receive buffer of its VC with the ingress stamps of its header's frame, corrected (R253). -/
def State.deliverAt (s : State) (port : Nat) (st : Nat × Nat) (p : Packet) : State :=
  let lag := s.ingressLag port
  let s := s.enq (0x2000 + 8 * port + p.vc)
  s.modPort port (fun x => x.push p.vc s.time.count { packet := p, stampA := st.1 - lag, stampB := st.2 - lag })

/-- Puts a packet that arrives now into the receive buffer of its VC. -/
def State.deliver (s : State) (port phase : Nat) (p : Packet) : State := s.deliverAt port (s.stampOf phase) p

/-- The VC a packet takes inside the module. -/
def Packet.homeVc (p : Packet) : Nat := if p.vcClass = 0 then 0 else if p.vcClass = 1 then 1 else 6

/-- Injects a routed packet of the module itself: addressed to its own node it arrives by the loopback, stamped now (R132);
else it takes an output or waits for one (R224). -/
def State.inject (s : State) (p : Packet) : State :=
  let p := (((p.setField 16 15 s.own.node).setField 128 32 s.nowA).finish)
  if p.dst = s.own.node ∧ s.fab.latch.isSome then
    s.deliver loopback 0 ((p.setField 68 3 (Packet.homeVc p)).seal)
  else
    let w : Waiting := { packet := p, origin := 12, since := s.time.count }
    match s.offer w with
    | some t => t
    | none => { s with fab := { s.fab with waiting := s.fab.waiting ++ [w] } }

/-! ### Floods (R226) -/

/-- The copy of a flood for a port: control VC by the dateline rule, DL of the dimension crossed. -/
def State.floodCopy (s : State) (p : Packet) (port : Nat) : Packet :=
  let d := port % 6
  let wrap := s.own.wraps d
  let vc := if wrap || bit p.dl (d / 2) then 7 else 6
  hopHeader (if wrap then p.setField 77 3 (setBits p.dl (d / 2) 1 1) else p) port vc

/-- Sends a flood on every UP port but the arrival port (12: none); a copy without credits waits at its port. -/
def State.floodOut (s : State) (p : Packet) (arrival : Nat) : State :=
  if 63 ≤ p.hops then s.count (if arrival < 12 then Reg.fabDropTtl arrival else Reg.fabDropTtl 0)
  else (s.upPorts.filter (· != arrival)).foldl (fun s port =>
    let q := s.floodCopy p port
    let s := if arrival < 12 then s.globalEvent 0x005 else s
    if flitsIn q ≤ s.credit port q.vc then
      (s.tileInjects port).modPort port (fun x => { x.takeCredits q with outq := x.outq ++ [{ packet := q, back := none }] })
    else s.modPort port (fun x => { x with floods := x.floods ++ [(q, s.time.count)] })) s

/-- The key of a flood: an ABORT or HOLD by (TYPE, JOB, EPOCH, STEPL), a TIME packet by (SRC, TYPE, SEQ). -/
def Packet.floodKey (p : Packet) : Nat :=
  if p.type = tyTime then p.src + 2 ^ 15 * p.seq + 2 ^ 60 * p.type
  else p.job + 2 ^ 12 * p.epoch + 2 ^ 20 * p.stepl + 2 ^ 60 * p.type

/-- Enters a key in the flood-seen table: the answer tells whether it was new. A full table gives up the entry closest to
expiry, counted. -/
def State.floodSeen (s : State) (key : Nat) : Bool × State :=
  if s.fab.flood.any (·.key == key) then (false, s)
  else
    let full := decide (256 ≤ s.fab.flood.length)
    let kept := if full then (sortBy FloodSeen.made s.fab.flood).drop 1 else s.fab.flood
    let s := if full then s.count Reg.fabFloodEvict else s
    (true, { s with fab := { s.fab with flood := kept ++ [{ key := key, made := s.time.count }] } })

/-- Originates a flood stamped at a time: the key is marked seen, and the notice leaves on every UP port (R226); an ABORT with
no port UP waits for one (R349). -/
def State.originateAt (s : State) (p : Packet) (stamp : Nat) : State :=
  let p := ((((p.setField 16 15 s.own.node).setField 0 15 s.own.node).setField 89 1 1).setField 128 32 stamp).finish
  let s := (s.floodSeen (Packet.floodKey p)).2
  let s := if s.upPorts.isEmpty ∧ p.type = tyAbort then
      { s with fab := { s.fab with stuck := s.fab.stuck ++ [p] } }
    else s
  (s.globalEvent 0x006).floodOut p 12

/-- Originates a flood stamped now. -/
def State.originate (s : State) (p : Packet) : State := s.originateAt p s.nowA

/-- A flood takes the next flood sequence of the module (R347). -/
def State.floodSeq (s : State) : Nat × State :=
  (s.fab.nextFlood, { s with fab := { s.fab with nextFlood := (s.fab.nextFlood + 1) % 2 ^ 32 } })

/-! ### The transmitter (R204-R207) -/

/-- An idle flit (R205). -/
def idleFlit : Flit := ((({ header := 0, payload := [] } : Packet).setField 71 4 15).seal).header

/-- The link-control flit a port sends now (R206): acknowledgement, NAK, shadow request, confirmation, credits. -/
def Port.lcf (x : Port) : Flit :=
  let fs : List (Nat × Nat × Nat) :=
    [(0, 8, x.rxNext + 255), (8, 1, b2n x.rxAny), (9, 8, if x.nakDue then x.rxNext else 0), (17, 1, b2n x.nakDue),
     (18, 4, x.want.getD 0), (22, 1, b2n x.want.isSome), (23, 8, x.txSeq), (31, 1, b2n x.txShadow.isSome)] ++
    x.owed.zipIdx.map (fun ci => (32 + 12 * ci.2, 12, ci.1))
  ((fs.foldl (fun (q : Packet) f => q.setField f.1 f.2.1 f.2.2) { header := 0, payload := [] }).seal).header

/-- What sending an LCF uses up: the NAK, the confirmation and the credits. -/
def Port.lcfSent (x : Port) : Port :=
  { x with nakDue := false, txShadow := none, owed := [0, 0, 0, 0, 0, 0, 0, 0] }

/-- Whether the replay buffer of 128 frames has room for more. -/
def Port.room (x : Port) (n : Nat) : Bool := decide (x.replay.length + n ≤ 128)

/-- One bit of the CRC-12 of R204. -/
def crc12 (l : List Bool) : Nat := l.foldl (crcStepMsb 12 0x80F) 0

/-- FCRC of a frame: over FSEQ and the flit bits, the highest bit of each first. -/
def frameCrc (fseq : Nat) (slots : List Flit) : Nat :=
  crc12 (bitsMsb 8 fseq ++ slots.flatMap (fun f => bitsMsb 512 f.toNat))

/-- A frame as a port sends it: FSEQ and FCRC are its 20-bit header (R204). -/
def frameOut (p fseq : Nat) (slots : List Flit) : Output := .frame p fseq (frameCrc fseq slots) slots

/-- Sends one new frame with the first of some flits: slot 0 is an LCF where FSEQ is a multiple of 4, unused slots are idle.
The answer is the flits left. -/
def State.sendFrame (s : State) (p : Nat) (flits : List Flit) : List Flit × State :=
  let x := s.port p
  let seq := x.txSeq
  let ctl := seq % 4 = 0
  let n := if ctl then 9 else 10
  let body := flits.take n
  let slots := (if ctl then [x.lcf] else []) ++ body ++ List.replicate (n - body.length) idleFlit
  let x := if ctl then x.lcfSent else x
  let x := { x with txSeq := (seq + 1) % 256, replay := x.replay ++ [(seq, slots)] }
  (flits.drop n, { (s.setPort p x) with out := s.out ++ [frameOut p seq slots] })

/-- Sends new frames until the flits are gone. -/
def State.sendFrames (s : State) (p : Nat) : Nat → List Flit → State
  | 0, _ => s
  | fuel + 1, flits =>
    if flits.isEmpty then s
    else
      let r := s.sendFrame p flits
      r.2.sendFrames p fuel r.1

/-- The next packet by the arbitration of R220, with the rest of the queue and whose turn is next: control first, then response
and request in turn, escape VCs before adaptive within a side. -/
def Port.pick (x : Port) : Option (Packet × Port) :=
  let first (f : Packet → Bool) : Option Queued := x.outq.find? (fun q => f q.packet)
  let control := first (fun p => decide (6 ≤ p.vc))
  let resp := (first (fun p => p.vc == 4 || p.vc == 5)).orElse (fun _ => first (fun p => p.vc == 1))
  let req := (first (fun p => p.vc == 2 || p.vc == 3)).orElse (fun _ => first (fun p => p.vc == 0))
  let choice : Option (Queued × Bool) := match control, resp, req with
    | some c, _, _ => some (c, x.respTurn)
    | none, some r, none => some (r, false)
    | none, none, some q => some (q, true)
    | none, some r, some q => if x.respTurn then some (r, false) else some (q, true)
    | none, none, none => none
  choice.map (fun c => (c.1.packet, { x with outq := x.outq.erase c.1, respTurn := c.2 }))

/-- Packets of the link itself that wait at a port take credits in turn (R219). -/
def Port.linkRetry (x : Port) : Nat → Port
  | 0 => x
  | n + 1 => match x.linkq with
    | q :: t =>
      if flitsIn q ≤ (x.credits[q.vc]?).getD 0 then
        Port.linkRetry { x.takeCredits q with outq := x.outq ++ [{ packet := q, back := none }], linkq := t } n
      else x
    | [] => x

/-- Gives a port a packet of the link itself to send: it takes credits of its VC, or waits for them (R219). -/
def State.linkSend (s : State) (port : Nat) (p : Packet) : State :=
  s.modPort port (fun x => Port.linkRetry { x with linkq := x.linkq ++ [p] } (x.linkq.length + 1))

/-- Flood copies that wait at a port take credits in turn. -/
def State.floodRetry (s : State) (p : Nat) : State :=
  let x := s.port p
  match x.floods with
  | (q, _) :: t =>
    if flitsIn q ≤ s.credit p q.vc then
      s.setPort p { x.takeCredits q with outq := x.outq ++ [{ packet := q, back := none }], floods := t }
    else s
  | [] => s

end Sys2Proof.Machine
end

