-- ==== Sys2Proof/Machine/E2e.lean ====
section
/-! DEFINITION. The end-to-end layer (R178, R228-R232): the piste table, sender records and their numbering, sending and
retransmission, acknowledgements and their coalescing, and the checks of an arriving packet. -/

namespace Sys2Proof.Machine
open Sys2Proof

/-! ### Piste table (R232) -/

/-- The valid entry that holds a job. -/
def State.pisteOf (s : State) (job : Nat) : Option Nat :=
  (List.range 16).find? (fun e => s.flag (Reg.fabPisteA e) 0 && s.field (Reg.fabPisteA e) 3 12 == job)

/-- STATE of an entry: 0 ACTIVE, 1 TEARDOWN, 2 QUARANTINE. -/
def State.pisteState (s : State) (e : Nat) : Nat := s.field (Reg.fabPisteA e) 1 2

/-- The entry that holds a job in state ACTIVE. -/
def State.pisteActive (s : State) (job : Nat) : Option Nat :=
  match s.pisteOf job with
  | some e => if s.pisteState e = 0 then some e else none
  | none => none

/-- EPOCH of an entry. -/
def State.pisteEpoch (s : State) (e : Nat) : Nat := s.field (Reg.fabPisteA e) 15 8

/-- Whether a job is ACTIVE with an epoch. -/
def State.jobLive (s : State) (job epoch : Nat) : Bool :=
  match s.pisteActive job with
  | some e => s.pisteEpoch e == epoch
  | none => false

/-! ### Sender records (R178, R228) -/

/-- The key of a sequence space: destination node and job. -/
def seqKey (dst job : Nat) : Nat := dst * 4096 + job

/-- Makes the record of a new packet; PUT, ACC and MIRROR packets take the next sequence of their destination and job, a GET
the next TAG. `id` and the record's numbers are filled in here. -/
def State.newRecord (s : State) (r : E2e) : State :=
  let numbered := r.type != tyGet
  let k := seqKey r.dst r.job
  let seq := Tab.get s.fab.seqs 0 k
  let r := { r with id := s.fab.nextRec, seq := if numbered then seq else 0,
                    tag := if numbered then r.tag else s.fab.nextTag % 65536, sends := 0, sentAt := 0 }
  { s with fab := { s.fab with
      nextRec := s.fab.nextRec + 1
      nextTag := if numbered then s.fab.nextTag else s.fab.nextTag + 1
      seqs := if numbered then Tab.put s.fab.seqs 0 k ((seq + 1) % 2 ^ 32) else s.fab.seqs
      recs := s.fab.recs ++ [r] } }

/-- A record of nothing yet sent, to be completed by its maker. -/
def E2e.blank : E2e :=
  { id := 0, type := 0, dst := 0, job := 0, epoch := 0, stepl := 0, seq := 0, addr := 0, ext := 0, tag := 0, len := 0,
    source := Source.none, dest := none, owner := .none, sends := 0, sentAt := 0 }

/-- Whether a record's packet may be sent for the first time: no unacknowledged sequence of its space lies 4,096 or more behind
(R178). -/
def Fabric.inWindow (f : Fabric) (r : E2e) : Bool :=
  r.type == tyGet || f.recs.all (fun q => q.type == tyGet || q.dst != r.dst || q.job != r.job ||
    decide (signed (r.seq + 2 ^ 32 - q.seq) 32 < 4096))

/-- What became of a record, for its owner: 0 delivered, 0x08 acknowledged ADDR, 0x23 given up, 0x24 its source unreadable at
an address. -/
structure E2eEvent where
  owner : E2eOwner
  code : Nat
  addr : Nat
deriving DecidableEq, Repr

/-- Replaces a record. -/
def State.setRecord (s : State) (r : E2e) : State :=
  { s with fab := { s.fab with recs := s.fab.recs.map (fun q => if q.id = r.id then r else q) } }

/-- Drops a record. -/
def State.dropRecord (s : State) (id : Nat) : State :=
  { s with fab := { s.fab with recs := s.fab.recs.filter (fun q => q.id != id) } }

/-- The core a record's packet is sent for. -/
def E2e.coreOf (r : E2e) : Option Nat := match r.owner with | .core c _ => some c | _ => none

/-- Sends the packet of a record, its payload read now (R228): the first time on the plane of its sequence's parity, each
later time on the other, with RTX (R230). An unreadable source ends the record. -/
def State.sendRecord (s : State) (r : E2e) : List E2eEvent × State :=
  let q := s.readSource r.source r.len
  let s := q.2.2
  match q.2.1 with
  | some e =>
    let a := match e with | .unbacked a => a | .uncorrectable a => a
    let code := match e with | .unbacked _ => 0x08 | .uncorrectable _ => 0x24
    ([{ owner := r.owner, code := code, addr := a }], s.dropRecord r.id)
  | none =>
    let plane := (r.seq + r.sends) % 2 + 1
    let p := Packet.make [(0, 15, r.dst), (32, 12, r.job), (44, 8, r.epoch), (52, 16, r.stepl), (71, 4, r.type),
      (86, 2, plane), (88, 1, b2n (decide (0 < r.sends))), (96, 32, r.seq), (160, 48, r.addr), (224, 16, r.tag),
      (288, 192, r.ext)] q.1
    let s := s.setRecord { r with sends := r.sends + 1, sentAt := s.time.count }
    let s := if 0 < r.sends then s.count Reg.fabE2eRetx else s
    let s := match r.coreOf with
      | some c => s.coreEvent c (if r.sends = 0 then 0x040 else 0x041) 1
      | none => s
    ([], s.inject p)

/-- Sends every record not yet sent whose window admits it. -/
def State.pump (s : State) : List E2eEvent × State :=
  s.fab.recs.foldl (fun a r =>
    if r.sends = 0 ∧ a.2.fab.inWindow r ∧ a.2.fab.recs.any (fun q => q.id == r.id) then
      let b := a.2.sendRecord r
      (a.1 ++ b.1, b.2)
    else a) ([], s)

/-- RTO in TIME_COUNT units (R236): microseconds, 0 taken as 1. -/
def State.rto (s : State) : Nat := 1000 * max 1 (s.field Reg.fabE2e 0 8)

/-- RMAX (R236), 0 taken as 1; a GET request is re-sent once (R230). -/
def State.rmax (s : State) (r : E2e) : Nat := if r.type = tyGet then 2 else max 1 (s.field Reg.fabE2e 8 4)

/-- A record's timeout: another transmission, or the packet given up and its owner told. -/
def State.recordTimeout (s : State) (r : E2e) : List E2eEvent × State :=
  if r.sends < s.rmax r then s.sendRecord r
  else
    let s := (s.count Reg.fabE2eFail).dropRecord r.id
    ([{ owner := r.owner, code := 0x23, addr := r.addr }], s)

/-- Discards the records of a job (R232). -/
def State.dropJobRecords (s : State) (job : Nat) : State :=
  { s with fab := { s.fab with recs := s.fab.recs.filter (fun r => r.job != job) } }

/-- Restarts the module's source sequences of a job at 0 (R178, R232). -/
def State.restartSeqs (s : State) (job : Nat) : State :=
  { s with fab := { s.fab with seqs := s.fab.seqs.filter (fun e => e.1 % 4096 != job) } }

/-- Whether the module has nothing outstanding for a job (R232): no end-to-end record and no GET. -/
def Fabric.idleFor (f : Fabric) (job : Nat) : Bool := f.recs.all (fun r => r.job != job)

/-! ### Acknowledgements (R229) -/

/-- The EACK of a map. -/
def AckMap.packet (m : AckMap) : Packet :=
  let ex (i : Nat) : List (Nat × Nat × Nat) := match m.exs[i]? with
    | some e => [(352 + 40 * i, 32, e.1), (384 + 40 * i, 4, e.2)]
    | none => []
  Packet.make ([(0, 15, m.source), (32, 12, m.job), (44, 8, m.epoch), (71, 4, tyCtrl), (86, 2, 1), (216, 8, 1),
    (288, 32, m.base), (320, 32, m.map), (472, 2, m.exs.length)] ++ ex 0 ++ ex 1 ++ ex 2) []

/-- Sends a map as an EACK and forgets it. -/
def State.sendAcks (s : State) (m : AckMap) : State :=
  { s with fab := { s.fab with acks := s.fab.acks.filter (fun q => !(q.source == m.source && q.job == m.job)) } }.inject
    m.packet

/-- Keeps a map until its limit, or sends it at once: without coalescing, or full. -/
def State.keepAcks (s : State) (m : AckMap) : State :=
  if s.field Reg.fabE2e 16 8 = 0 ∨ m.map = 2 ^ 32 - 1 ∨ m.exs.length = 3 then s.sendAcks m
  else { s with fab := { s.fab with
    acks := s.fab.acks.filter (fun q => !(q.source == m.source && q.job == m.job)) ++ [m] } }

/-- The map with a sequence and its status, if it can hold it. -/
def AckMap.add (m : AckMap) (epoch seq status : Nat) : Option AckMap :=
  let d := (seq + 2 ^ 32 - m.base) % 2 ^ 32
  if m.epoch ≠ epoch then none
  else if status = 0 then (if d < 32 then some { m with map := setBits m.map d 1 1 } else none)
  else if m.exs.length < 3 then some { m with exs := m.exs ++ [(seq, status)] } else none

/-- Acknowledges a sequence of a source and job: 0 OK, 1 REJECTED, 2 ADDR. -/
def State.ack (s : State) (source job epoch seq status : Nat) : State :=
  let fresh : AckMap := { source := source, job := job, epoch := epoch, base := seq,
                          map := if status = 0 then 1 else 0,
                          exs := if status = 0 then [] else [(seq, status)], since := s.time.count }
  match s.fab.acks.find? (fun q => q.source == source && q.job == job) with
  | none => s.keepAcks fresh
  | some m => match m.add epoch seq status with
    | some m => s.keepAcks m
    | none => (s.sendAcks m).keepAcks fresh

/-- Acknowledges a packet. -/
def State.ackPacket (s : State) (p : Packet) (status : Nat) : State := s.ack p.src p.job p.epoch p.seq status

/-- The sequences of an EACK with their statuses. -/
def Packet.acked (p : Packet) : List (Nat × Nat) :=
  let base := p.ext 0 32
  let map := p.ext 32 32
  ((bitList 32 map).map (fun i => ((base + i) % 2 ^ 32, 0))) ++
    ([0, 1, 2].take (min 3 (p.ext 184 2))).map (fun i => (p.ext (64 + 40 * i) 32, p.ext (96 + 40 * i) 4))

/-! ### Arrival (R231) -/

/-- The packet at the head of a receive buffer. -/
def State.head (s : State) (port vc : Nat) : Option RxPacket := ((s.port port).rx[vc]?).bind List.head?

/-- Takes the head packet out of its buffer: its flits are owed to the partner as credits (R219). -/
def State.popHead (s : State) (port vc : Nat) : State :=
  match s.head port vc with
  | none => s
  | some r => s.modPort port (fun x =>
      { x with rx := x.rx.modify vc (List.drop 1), headAt := x.headAt.set vc s.time.count,
               owed := if port < 12 then x.owed.modify vc (fun n => n + flitsIn r.packet) else x.owed })

/-- Whether the packet is at its destination: by the loopback, or with DST the own node. -/
def State.isHome (s : State) (port : Nat) (p : Packet) : Bool :=
  port == loopback || (p.flood == 0 && p.dst == s.own.node && s.fab.latch.isSome)

/-- A data-integrity drop (R242): counted, and recorded with the port. -/
def State.integrity (s : State) (port counter : Nat) : State :=
  (s.count counter).raise 0x7007 (4, port) [(8, port), (64, counter - 0x1800000)]

/-- The counter of the first of checks 5-8 that a packet fails (R231). -/
def State.arrivalCheck (s : State) (p : Packet) : Option Nat :=
  if !p.typeOk then some Reg.fabDiscType
  else if p.job = 0 ∧ p.type ≠ tyCtrl ∧ p.type ≠ tyTime then some Reg.fabDiscJob
  else if p.job ≠ 0 ∧ (s.pisteActive p.job).isNone then some Reg.fabDiscJob
  else if p.job ≠ 0 ∧ !s.jobLive p.job p.epoch then some Reg.fabDiscEpoch
  else if p.field 256 32 ≠ p.crc then some Reg.fabDiscEcrc
  else none

/-- Counts a discard of checks 5-8. -/
def State.discard (s : State) (port counter : Nat) : State :=
  if counter = Reg.fabDiscEcrc then s.integrity port counter else s.count counter

/-- A receive command takes the packet at the head of a buffer: nothing happens unless it is at home and of the kind asked for;
it leaves the buffer, is discarded where checks 5-8 fail, and else goes to its consumer. Packets of the loopback have not
passed a fabric tile and `local` says whether the checks still apply to them. -/
def State.arrive (s : State) (port vc : Nat) (checkLocal : Bool) (f : RxPacket → State → State) : State :=
  match s.head port vc with
  | none => s
  | some r =>
    let s := s.popHead port vc
    if port = loopback ∧ !checkLocal then f r s
    else match s.arrivalCheck r.packet with
      | some k => s.discard port k
      | none => f r s

/-- A flood at the head of a buffer: a later copy of a seen key is discarded; a first copy is forwarded on every other UP port and
delivered under checks 5-8. -/
def State.arriveFlood (s : State) (port vc : Nat) (f : RxPacket → State → State) : State :=
  match s.head port vc with
  | none => s
  | some r =>
    let s := s.popHead port vc
    let q := s.floodSeen (Packet.floodKey r.packet)
    if !q.1 then q.2.count Reg.fabDiscFlooddup
    else
      let s := q.2.floodOut r.packet port
      match s.arrivalCheck r.packet with
      | some k => s.discard port k
      | none => f r s

/-- Whether the head of a buffer is a flood of a kind, or a packet of that kind sent to this module alone. -/
def State.floodIs (s : State) (port vc : Nat) (kind : Packet → Bool) : Bool :=
  match s.head port vc with
  | some r => kind r.packet && (r.packet.flood == 1 || s.isHome port r.packet)
  | none => false

/-- Takes a flood, or a packet of its kind sent to this module alone, to its consumer. -/
def State.arriveNotice (s : State) (port vc : Nat) (f : RxPacket → State → State) : State :=
  match s.head port vc with
  | some r => if r.packet.flood = 1 then s.arriveFlood port vc f else s.arrive port vc true f
  | none => s

/-- Whether the head of a buffer is a packet of a kind at its destination. -/
def State.headIs (s : State) (port vc : Nat) (kind : Packet → Bool) : Bool :=
  match s.head port vc with
  | some r => s.isHome port r.packet && kind r.packet && !r.packet.linkLocal
  | none => false

end Sys2Proof.Machine
end

