-- ==== Sys2Proof/Machine/Grm.lean ====
section
/-! DEFINITION. The state of physical cores (R304-R306, R318-R325): logical numbers, charges, tile events, derate levels and
quarantine. -/

namespace Sys2Proof.Machine
open Sys2Proof

/-! ### Physical and logical numbers (R3, R8, R328) -/

/-- STATE of GRM_CORE: 0 HEALTHY, 1 SUSPECT, 2 RESCREEN, 3 DERATED, 4 PROBATION, 5 QUARANTINED, 6 SPARE, 7 FUSED. -/
def State.grmState (s : State) (p : Nat) : Nat := s.field (Reg.grmCore p) 0 3

/-- Writes STATE of GRM_CORE. -/
def State.setGrmState (s : State) (p v : Nat) : State := s.setField (Reg.grmCore p) 0 3 v

/-- The logical core 24n + m that a physical core 25n + m is, if any. -/
def State.logicalOf (s : State) (p : Nat) : Option Nat :=
  let l := s.field (Reg.grmCore p) 8 5
  if l < 24 then some (p / 25 * 24 + l) else none

/-- The physical core of a logical one. -/
def State.physOf (s : State) (c : Nat) : Option Nat :=
  ((List.range 25).map (· + c / 24 * 25)).find? (fun p => s.logicalOf p == some c)

/-- The cluster 5n + k of a logical core. -/
def State.clusterOf (s : State) (c : Nat) : Nat :=
  match s.physOf c with
  | some p => p / 25 * 5 + p % 25 / 5
  | none => c / 24 * 5 + c % 24 / 5

/-- Whether a physical core is usable: HEALTHY, DERATED or PROBATION, or under classification. -/
def State.grmUsable (s : State) (p : Nat) : Bool := decide (s.grmState p ≤ 4)

/-- Whether the logical core of a physical one is RUNNING. -/
def State.physRunning (s : State) (p : Nat) : Bool :=
  match s.logicalOf p with
  | some c => s.coreState c == 2
  | none => false

/-- RSN, DMAX and the other fields of GRM_CTL with their taken values (R327). -/
def State.rsn (s : State) : Nat := max 1 (s.field Reg.grmCtl 30 4)
def State.dmax (s : State) : Nat := s.field Reg.grmCtl 27 3
def State.dstep (s : State) : Nat := if s.field Reg.grmCtl 24 3 ≤ 3 then max 1 (s.field Reg.grmCtl 24 3) else 1
def State.corrn (s : State) : Nat := max 2 (s.field Reg.grmCtl 47 4)

/-- A screening event (R330) of a physical core: the core, the source code and the level concerned. -/
def State.grmEventOf (s : State) (sub p src level : Nat) : State :=
  s.raise (0x2000 + sub) (2, p) [(16, p), (8, src), (8, level)]

/-- A screening event of a physical core with its LASTSRC and DLVL. -/
def State.grmEvent (s : State) (sub p : Nat) : State :=
  s.grmEventOf sub p (s.field (Reg.grmCore p) 13 4) (s.field (Reg.grmCore p) 3 3)

/-- A screening event of a compute tile. -/
def State.grmTileEvent (s : State) (sub n : Nat) : State :=
  s.raise (0x2000 + sub) (6, n) [(16, n), (8, 8), (8, s.field (Reg.grmTile n) 6 3)]

/-! ### Levels (R318, R319) -/

/-- Clock cap of a derate level in MHz. -/
def levelCap (l : Nat) : Nat := ([2100, 2100, 1800, 1800, 1600, 1400, 1200, 900][l]?).getD 900

/-- Voltage offset of a derate level in mV (R318). -/
def levelOffset (l : Nat) : Nat := ([0, 10, 10, 20, 20, 20, 25, 25][l]?).getD 25

/-- The operating maximum of a core rail in mV (R491). -/
def railMax : Nat := 920

/-- The level in effect on a core: the greater of DLVL and its tile's TDLVL. -/
def State.level (s : State) (p : Nat) : Nat := max (s.field (Reg.grmCore p) 3 3) (s.field (Reg.grmTile (p / 25)) 6 3)

/-- The CLK record of a core's clock (R421). -/
def State.traceClock (s : State) (kind index mhz : Nat) : State :=
  if kind = 1 then s.traceRec index 13 0 0 (BitVec.ofNat 64 mhz) else s

/-- A region changes frequency (R264, R265): its count so far is kept, the change is recorded with LCYC and the new MHz. -/
def State.setFreq (s : State) (kind idx mhz : Nat) : State :=
  let r := s.region kind idx
  let lc := r.lcyc s.time.count
  let s := s.setRegion kind idx { r with cyc := r.cycles s.time.count, mark := s.time.count, mhz := mhz }
  (s.raise 0xD003 (kind, idx) [(8, kind), (16, idx), (64, lc), (16, mhz)]).traceClock kind idx mhz

/-- A region's clock starts (R265). -/
def State.startClock (s : State) (kind idx : Nat) : State :=
  let r := s.region kind idx
  let lc := r.lcyc s.time.count
  let s := s.setRegion kind idx { r with cyc := r.cycles s.time.count, mark := s.time.count, running := true, startAt := some lc, stopReq := false }
  (s.raise 0xD001 (kind, idx) [(8, kind), (16, idx), (64, lc)]).traceClock kind idx r.mhz

/-- A region's clock stops (R265). -/
def State.stopClock (s : State) (kind idx : Nat) : State :=
  let r := s.region kind idx
  let lc := r.lcyc s.time.count
  let s := s.setRegion kind idx { r with cyc := r.cycles s.time.count, mark := s.time.count, running := false, stopReq := true }
  (s.raise 0xD002 (kind, idx) [(8, kind), (16, idx), (64, lc)]).traceClock kind idx 0

/-- The clock of a region that has none starts. -/
def State.ensureClock (s : State) (kind idx : Nat) : State :=
  if (s.region kind idx).running then s else s.startClock kind idx

/-- The clock of a region that has one stops. -/
def State.cutClock (s : State) (kind idx : Nat) : State :=
  if (s.region kind idx).running then s.stopClock kind idx else s

/-! ### Core clocks (R390, R477) -/

/-- A little-endian word of the loaded calibration set. -/
def State.calWord (s : State) (off n : Nat) : Nat :=
  ofBytes ((List.range n).map (fun i => Tab.get s.host.calLoaded 0 (off + i)))

/-- ISK_CLKCAP of a tile with its taken value (R407). -/
def State.clkCap (s : State) (n : Nat) : Nat := min 2100 (max 900 (s.field (Reg.iskClkcap n) 0 12))

/-- The thermal clock of a cluster: its cap, the tile's ISK_CLKCAP, while it is not throttled (R390). -/
def State.thermalClock (s : State) (g : Nat) : Nat :=
  match Tab.find s.isk.thermal g with
  | some t => min t.1 (s.clkCap (g / 5))
  | none => s.clkCap (g / 5)

/-- The 16 points of the voltage-frequency table of a physical core, in ascending frequency: [11:0] MHz, [23:12] mV (R477). -/
def State.vfPoints (s : State) (p : Nat) : List Nat :=
  (List.range 16).map (fun k => s.calWord (0x5000 + 128 * p + 8 * k) 8)

/-- The highest clock of the voltage-frequency table of a physical core at the rail voltage measured: 1.20 GHz where the section
is defaulted (R477); free where no point of the table allows the reading or there is none. -/
def State.vfClock (s : State) (p : Nat) : Nat × State :=
  if !s.flag Reg.calStat 4 then (1200, s)
  else
    let v := s.reg (Reg.iskSens (0x10 + p / 25))
    let fits := (s.vfPoints p).filter (fun x => decide ((bits x 12 12 : Int) ≤ signed v 32))
    if bit v 32 && !fits.isEmpty then ((fits.map (fun x => bits x 0 12)).foldl max 0, s)
    else let f := s.fresh; (f.1 % 4096, f.2)

/-- The voltage in mV the table of a physical core gives for a clock: that of the lowest point at or above it, the rail's
maximum where the section is defaulted or no point is as high (R477; DESIGN CHOICE, log 86). -/
def State.vfVolts (s : State) (p mhz : Nat) : Nat :=
  if !s.flag Reg.calStat 4 then railMax
  else match (s.vfPoints p).find? (fun x => decide (mhz ≤ bits x 0 12)) with
    | some x => bits x 12 12
    | none => railMax

/-- A clock within the range of every core, 0.90 to 2.10 GHz (R7). -/
def coreClock (mhz : Nat) : Nat := max 900 (min 2100 mhz)

/-- The clock and the voltage of a core at a level applied, where the other three clocks allow `other` MHz: where the level's
offset would take the rail above its maximum, the offset is limited to it and the cap of the next level applies (R318). -/
def State.levelClock (s : State) (p level other : Nat) : Nat × Nat :=
  let f := coreClock (min (levelCap level) other)
  let v := s.vfVolts p f + levelOffset level
  if v ≤ railMax then (f, v) else (coreClock (min (levelCap (level + 1)) other), railMax)

/-- A core takes the lowest of its four clocks: the cap of the level applied, ISK_CLKCAP of its tile, its cluster's thermal clock
and its voltage-frequency table (R390), and the voltage of its level (R318). A change of clock, and every change of level
(`level`), is recorded as a frequency change of its region (R265, R319). -/
def State.clockCore (s : State) (p : Nat) (level : Bool := false) : State :=
  let v := s.vfClock p
  let s := v.2
  let other := min (s.clkCap (p / 25)) (min (s.thermalClock (p / 25 * 5 + p % 25 / 5)) v.1)
  let x := s.levelClock p (Tab.get s.grm.levels 0 p) other
  let s := { s with grm := { s.grm with clocks := Tab.put s.grm.clocks 0 p x.1, volts := Tab.put s.grm.volts 0 p x.2 } }
  match s.logicalOf p with
  | none => s
  | some c => if (s.region 1 c).mhz = x.1 ∧ !level then s else s.setFreq 1 c x.1

/-- The clocks of every core of a tile. -/
def State.clockTile (s : State) (n : Nat) : State :=
  ((List.range 25).map (· + 25 * n)).foldl (fun s p => s.clockCore p) s

/-- Applies the level in effect to a core that is not RUNNING, or marks the change pending (R319); a change is counted and recorded
with the level applied. -/
def State.applyLevel (s : State) (p : Nat) : State :=
  let l := s.level p
  if Tab.get s.grm.levels 0 p = l then s.setField (Reg.grmCore p) 6 1 0
  else if s.physRunning p then s.setFlag (Reg.grmCore p) 6
  else
    let s := s.setField (Reg.grmCore p) 6 1 0
    let s := { s with grm := { s.grm with levels := Tab.put s.grm.levels 0 p l } }
    ((s.count Reg.grmDerate).grmEventOf 0x004 p (s.field (Reg.grmCore p) 13 4) l).clockCore p true

/-! ### Quarantine (R321, R322, R324) -/

/-- The dark spare of a tile, if it has one. -/
def State.darkSpare (s : State) (n : Nat) : Option Nat :=
  let m := s.field (Reg.grmTile n) 0 5
  if m < 25 ∧ s.grmState (25 * n + m) = 6 then some (25 * n + m) else none

/-- GRM_STAT.PROB follows GRM_PROB and the cores in PROBATION (R324). -/
def State.probRefresh (s : State) : State :=
  let on := s.flag Reg.grmProb 0 || (List.range 200).any (fun p => s.grmState p == 4)
  s.setField Reg.grmStat 18 1 (b2n on)

/-- Quarantines a core that is not RUNNING (R321): its logical number becomes unavailable until a reset brings the spare in, or
for good where there is none (R322); its clock stops (R389). -/
def State.quarantine (s : State) (p : Nat) : State :=
  let n := p / 25
  let was := s.grmState p
  let s := (s.setGrmState p 5).setFlag (Reg.grmCore p) 7
  let s := { s with grm := { s.grm with classify := Tab.erase s.grm.classify p } }
  let s := (s.count Reg.grmQuar).grmEvent 0x006 p
  let s := if was = 4 then (s.grmEvent 0x00C p).probRefresh else s
  match s.logicalOf p with
  | none => s
  | some c =>
    let s := (s.setCoreState c 5).cutClock 1 c
    match s.darkSpare n with
    | some _ => (s.setFlag (Reg.grmTile n) 5).setFlag Reg.grmStat (2 + n)
    | none => s.setFlag Reg.grmStat (10 + n)

/-- The due bits of a core: 1 QUICK, 2 HB, 4 tile-event QUICK, 8 quarantine at the end of the program. -/
def State.due (s : State) (p : Nat) : Nat := Tab.get s.grm.due 0 p

/-- Writes the due bits. -/
def State.setDue (s : State) (p v : Nat) : State := { s with grm := { s.grm with due := Tab.put s.grm.due 0 p v } }

/-- Sets one due bit. -/
def State.markDue (s : State) (p b : Nat) : State := s.setDue p (s.due p ||| b)

/-- The charges of a tile that are still within CORRW us (R325); one at its last instant still is. -/
def State.corrLive (s : State) (n : Nat) : List (Nat × Nat × Nat × Nat) :=
  (Tab.get s.grm.window [] n).filter (fun e => decide (s.time.count ≤ e.2.2.2 + 1000 * s.field Reg.grmCtl 51 10))

/-- TILE_CORR_WINDOW_EXPIRE: charges of a tile leave the tile-event window; they stand (R325). -/
def execTileCorrWindowExpire (tile : Nat) (s : State) : Host.Outcome State Fault Refusal :=
  act (fun s => decide ((s.corrLive tile).length < (Tab.get s.grm.window [] tile).length))
    (fun s => { s with grm := { s.grm with window := Tab.put s.grm.window [] tile (s.corrLive tile) } }) s

end Sys2Proof.Machine
end

