-- ==== Sys2Proof/Machine/GateBase.lean ====
section
/-! DEFINITION. What the Step Gate, the reset controller and the piste table share (R271-R276, R286, R291): slots and their record
fields, Gate events, disarming handles, staged updates, and the abandonment of a slot. -/

namespace Sys2Proof.Machine
open Sys2Proof

/-! ### Slots -/

/-- A slot's record. -/
def State.slot (s : State) (k : Nat) : Slot := Tab.get s.gate.slots Slot.empty k

/-- Writes a slot's record. -/
def State.setSlot (s : State) (k : Nat) (x : Slot) : State :=
  { s with gate := { s.gate with slots := Tab.put s.gate.slots Slot.empty k x } }

/-- Nanoseconds from TC to the commit point (R35, R289). -/
def commitDelay : Nat := 40000

/-- STATE of a slot (R272): 0 FREE, 1 LOADING, 2 OPEN, 3 TEST, 4 COMMITTED, 5 DONE, 6 HELD, 7 SKIPPED, 8 ABORTED. -/
def State.slotState (s : State) (k : Nat) : Nat := s.field (Reg.gateSlot k) 0 4
def State.slotJob (s : State) (k : Nat) : Nat := s.field (Reg.gateSlot k) 4 12
def State.slotEpoch (s : State) (k : Nat) : Nat := s.field (Reg.gateSlot k) 16 8
def State.slotPolicy (s : State) (k : Nat) : Nat := s.field (Reg.gateSlot k) 24 2
def State.slotReason (s : State) (k : Nat) : Nat := s.field (Reg.gateSlot k) 26 5
def State.slotStep (s : State) (k : Nat) : Nat := s.field (Reg.gateSlotStep k) 0 48

/-- Whether a slot state is terminal (R272). -/
def terminal (st : Nat) : Bool := st == 5 || st == 7 || st == 8

/-- Slots neither FREE nor terminal. -/
def State.liveSlots (s : State) : List Nat :=
  (List.range 32).filter (fun k => s.slotState k != 0 && !terminal (s.slotState k))

/-- Job, epoch and step of a slot for its events. -/
def State.slotCtx (s : State) (k : Nat) : Option (Nat × Nat × Nat) := some (s.slotJob k, s.slotEpoch k, s.slotStep k)

/-- A Gate event (R286): handle and node, and what else the event carries. -/
def State.gateEvent (s : State) (k sub handle node : Nat) (more : List (Nat × Nat)) : State :=
  s.raise (0x4000 + sub) (8, 0) ([(16, handle), (16, node)] ++ more) (s.slotCtx k)

/-- Writes a device-written word of a slot's record (R274): a line that is left unreadable is recorded once per slot. -/
def State.recordWrite (s : State) (k off v : Nat) : State :=
  let x := s.slot k
  let a := x.addr + off
  let s := s.memWrite64 a v
  match locate s.spread a with
  | some (stack, l) =>
    if s.linePoison (physKey stack l / 64) ∧ !x.badWrite then
      (s.setSlot k { x with badWrite := true }).gateEvent k 0x041 0 s.own.node [(16, k), (64, x.addr)]
    else s
  | none => s

/-- A 64-bit word of HBM as the coordinator reads it; an unreadable one reads as zero. -/
def State.hbmWord (s : State) (a : Nat) : Nat × State :=
  let r := s.memRead a 8
  (ofBytes r.1, r.2.2)

/-- Enters a slot state, in the register and in the record; a terminal state notes when, HELD raises its interrupt (R465). -/
def State.setSlotState (s : State) (k st : Nat) : State :=
  let s := s.setField (Reg.gateSlot k) 0 4 st
  let s := if st = 6 then s.irq 1 3 else s
  let s := if terminal st then s.setSlot k { s.slot k with termAt := s.time.count } else s
  let w := s.hbmWord ((s.slot k).addr + 0x80)
  w.2.recordWrite k 0x80 (setBits w.1 0 4 st)

/-! ### Handles -/

/-- The armed record of a handle in an NME. -/
def Nme.find (m : Nme) (handle : Nat) : Option Armed := m.armed.find? (fun a => a.desc.handle == handle)

/-- Replaces the armed record of a handle. -/
def Nme.setArmed (m : Nme) (a : Armed) : Nme :=
  { m with armed := m.armed.map (fun b => if b.desc.handle = a.desc.handle then a else b) }

/-- The address of a handle's descriptor (R176). -/
def State.handleAddr (s : State) (handle : Nat) : Nat := s.reg Reg.nmeHtab + 64 * handle

/-- The handle a packet's payload names (R174). -/
def Packet.accHandle (p : Sys2Proof.Packet) : Nat := bits ((p.payload.head?).getD 0).toNat 0 16

/-- Disarms a handle on one NME (R179): its areas are given up, packets that wait for its chunks are acknowledged REJECTED and
counted, and once no NME holds it the descriptor's ARMED and the tiles' routes are cleared. -/
def State.disarmOn (s : State) (i handle : Nat) : State :=
  let m := s.nme i
  if (m.find handle).isNone then s
  else
    let mine := m.waiting.filter (fun h => h.dedup && Packet.accHandle h.packet == handle)
    let rest := m.waiting.filter (fun h => !(h.dedup && Packet.accHandle h.packet == handle))
    let s := s.setNme i { m with armed := m.armed.filter (fun a => a.desc.handle != handle), waiting := rest }
    let s := mine.foldl (fun s h => (if h.dup then s else s.count (Reg.nmeDiscHandle i)).ackPacket h.packet 1) s
    if (List.range 32).any (fun j => ((s.nme j).find handle).isSome) then s
    else
      let s := { s with routes := Tab.erase s.routes handle }
      let w := s.hbmWord (s.handleAddr handle + 0x30)
      w.2.memWrite64 (s.handleAddr handle + 0x30) (setBits w.1 48 1 0)

/-- Disarms a handle on every NME. -/
def State.disarm (s : State) (handle : Nat) : State := (List.range 32).foldl (fun s i => s.disarmOn i handle) s

/-- STAGED of an optimizer descriptor (R185). -/
def State.staged (s : State) (optd : Nat) : Bool := bit (s.hbmWord optd).1 3

/-- Writes CUR and STAGED of an optimizer descriptor. -/
def State.setStaged (s : State) (optd : Nat) (flip staged : Bool) : State :=
  let w := s.hbmWord optd
  let v := if flip then setBits w.1 2 1 (1 - bits w.1 2 1) else w.1
  w.2.memWrite64 optd (setBits v 3 1 (b2n staged))

/-- Clears STAGED without a flip on every OPTEN handle of a slot (R188). -/
def State.unstage (s : State) (k : Nat) : State :=
  ((s.slot k).entries.filter (·.opten)).foldl (fun s e => s.setStaged e.optd false false) s

/-! ### Abandonment (R291) -/

/-- Abandons a slot in LOADING, OPEN, TEST or HELD: its handles are disarmed, STAGED is cleared without a flip, TDEC is written,
and it becomes ABORTED. -/
def State.abandon (s : State) (k cause : Nat) : State :=
  let st := s.slotState k
  if st = 1 ∨ st = 2 ∨ st = 3 ∨ st = 6 then
    let s := (s.slot k).entries.foldl (fun s e => s.disarm e.handle) s
    let s := s.unstage k
    let s := if st = 1 then s.setField Reg.gateLoad 49 1 0 else s
    let s := s.setSlotState k 8
    let s := s.recordWrite k 0x88 s.nowA
    (s.count Reg.gateAbandon).gateEvent k 0x024 0 s.own.node [(8, cause)]
  else s

end Sys2Proof.Machine
end

