-- ==== Sys2Proof/Machine/Desc.lean ====
section
/-! DEFINITION. Reduction-handle and optimizer descriptors (R175, R176, R185, R195): their fields, the areas they place, and the
checks a command or a load makes of them. -/

namespace Sys2Proof.Machine
open Sys2Proof

/-! ### Descriptors (R176, R185) -/

/-- A field of descriptor bytes: 64-bit word at an offset, low bit, width. -/
def dField (l : List Byte) (off lo width : Nat) : Nat := bits (wordAt l off) lo width

/-- The handle descriptor that 64 bytes spell, with the step, job and epoch given. -/
def Handle.ofBytes (handle step job epoch : Nat) (l : List Byte) : Handle :=
  { handle := handle, stage := dField l 0 1 2, holdown := dField l 0 3 1 == 1, nexten := dField l 0 4 1 == 1,
    opten := dField l 0 5 1 == 1, aval := dField l 0 6 11, nbase := dField l 0 17 5, ncnt := dField l 0 22 6,
    lanes := dField l 8 0 32, poff := dField l 0x10 0 39, hoff := dField l 0x18 0 39, nnode := dField l 0x20 0 15,
    nhandle := dField l 0x20 16 16, nstage := dField l 0x20 32 2, optd := dField l 0x28 0 48,
    step := step, job := job, epoch := epoch }

/-- An optimizer descriptor (R185). -/
structure OptDesc where
  alg : Nat
  cur : Bool
  staged : Bool
  banka : Nat
  bankb : Nat
  pblk : Nat
deriving DecidableEq, Repr

/-- The optimizer descriptor that 64 bytes spell. -/
def OptDesc.ofBytes (l : List Byte) : OptDesc :=
  { alg := dField l 0 0 2, cur := dField l 0 2 1 == 1, staged := dField l 0 3 1 == 1, banka := dField l 8 0 39,
    bankb := dField l 0x10 0 39, pblk := dField l 0x18 0 48 }

/-- Bytes of a chunk of one area. -/
def chunkBytes : Nat := 393216

/-- Chunks of a handle on each of its NMEs. -/
def Handle.chunks (h : Handle) : Nat := ((h.lanes + 16383) / 16384 + h.ncnt - 1) / h.ncnt

/-- CS, the span of an area on one NME (R176). -/
def Handle.span (h : Handle) : Nat := h.chunks * chunkBytes

/-- P, the parameters of an NME (R185). -/
def Handle.params (h : Handle) : Nat := 16384 * h.chunks

/-- Whether an NME is one of a handle's. -/
def Handle.uses (h : Handle) (i : Nat) : Bool := decide (h.nbase ≤ i ∧ i < h.nbase + h.ncnt)

/-- The NMEs of a handle. -/
def Handle.nmes (h : Handle) : List Nat := (List.range h.ncnt).map (· + h.nbase)

/-- Where area 0 (partial), 1 or 2 (hold buffer 0, 1) of a handle begins on an NME (R176). -/
def Handle.area (h : Handle) (i a : Nat) : Nat :=
  i / 4 * 2 ^ 39 + (if a = 0 then h.poff + i % 4 * h.span else h.hoff + (2 * (i % 4) + (a - 1)) * h.span)

/-- The NME and the local chunk of a lane (R175). -/
def Handle.nmeOf (h : Handle) (lane : Nat) : Nat := h.nbase + lane / 16384 % h.ncnt
def Handle.chunkOf (h : Handle) (lane : Nat) : Nat := lane / 16384 / h.ncnt

/-- The address of a lane in an area. -/
def Handle.laneAddr (h : Handle) (a lane : Nat) : Nat :=
  h.area (h.nmeOf lane) a + h.chunkOf lane * chunkBytes + lane % 16384 * 24

/-- The lanes of a handle that an NME holds, in chunk order. -/
def Handle.lanesOf (h : Handle) (i : Nat) : List Nat :=
  (List.range h.chunks).flatMap (fun k =>
    let first := (k * h.ncnt + (i - h.nbase)) * 16384
    (List.range (min 16384 (h.lanes - first))).map (· + first))

/-- Bytes of one bank on an NME. -/
def OptDesc.bankBytes (o : OptDesc) (h : Handle) : Nat := (if o.alg = 0 then 12 else 8) * h.params

/-- The address of bank A or B of a handle on an NME (R185). -/
def OptDesc.bank (o : OptDesc) (h : Handle) (i : Nat) (b : Bool) : Nat :=
  i / 4 * 2 ^ 39 + (if b then o.bankb else o.banka) + i % 4 * 12 * h.params

/-! ### Checks of a descriptor (R195) -/

/-- Whether an NME's spill table is placed (R181). -/
def State.spillPlaced (s : State) (i : Nat) : Bool :=
  let b := s.field (Reg.nmeWspill i) 0 48
  b != 0 && s.inTile (i / 4) b (16 * 32768 * 576)

/-- NOSPILL follows the placement. -/
def State.spillCheck (s : State) (i : Nat) : State := s.setField (Reg.nmeStat i) 3 1 (b2n (!s.spillPlaced i))

/-- NOSPILL of an NME. -/
def State.nospill (s : State) (i : Nat) : Bool := s.flag (Reg.nmeStat i) 3

/-- A descriptor's invalid fields (R176, R185): those R195 names, an empty or misaligned area, and bits that must be zero. -/
def handleBad (h : Handle) (l : List Byte) : Bool :=
  h.stage == 3 || h.ncnt == 0 || decide (32 < h.ncnt) || decide (32 < h.nbase + h.ncnt) || (h.nexten && h.opten) ||
  (h.nexten && h.nstage == 3) || h.lanes == 0 || h.poff % 4096 != 0 || (h.holdown && h.hoff % 4096 != 0) ||
  dField l 0 28 36 != 0
def optBad (o : OptDesc) : Bool := o.alg == 3 || o.banka % 4096 != 0 || o.bankb % 4096 != 0

/-- Reads a descriptor of 64 bytes: its bytes, or ERR 0x04 outside the map, 0x06 uncorrectable. -/
def State.readDesc (s : State) (a : Nat) : Nat × List Byte × State :=
  if !s.backed a 64 then (0x04, [], s)
  else
    let r := s.memRead a 64
    match r.2.1 with
    | some _ => (0x06, [], r.2.2)
    | none => (0, r.1, r.2.2)

/-- What a command or a load finds of a handle (R195, orders 2-5): ERR, descriptor, optimizer descriptor, and the address of a
descriptor that could not be read. -/
structure Found2 where
  err : Nat
  desc : Handle
  opt : Option OptDesc
  bad : Nat := 0
deriving DecidableEq, Repr

/-- Reads and checks a handle's descriptors in the order of R195. -/
def State.checkDesc (s : State) (handle step job epoch : Nat) : Found2 × State :=
  let r := s.readDesc (s.handleAddr handle)
  let h := Handle.ofBytes handle step job epoch r.2.1
  let fail (e : Nat) : Found2 := { err := e, desc := h, opt := none }
  if r.1 ≠ 0 then ({ fail r.1 with bad := s.handleAddr handle }, r.2.2)
  else
    let valid := dField r.2.1 0 0 1 == 1
    if !h.opten then
      (if !valid then fail 0x02 else if handleBad h r.2.1 then fail 0x01 else fail 0, r.2.2)
    else
      let q := r.2.2.readDesc h.optd
      let o := OptDesc.ofBytes q.2.1
      if q.1 ≠ 0 then ({ fail q.1 with bad := h.optd }, q.2.2)
      else if !q.2.2.backed o.pblk 64 then (fail 0x04, q.2.2)
      else if !valid then (fail 0x02, q.2.2)
      else if handleBad h r.2.1 || optBad o then (fail 0x01, q.2.2)
      else ({ err := 0, desc := h, opt := some o }, q.2.2)

/-- Whether every area of a handle on an NME lies in the backed tile-local region of its tile (R161, R176, R185). -/
def State.areasFit (s : State) (f : Found2) (i : Nat) : Bool :=
  let h := f.desc
  s.inTile (i / 4) (h.area i 0) h.span &&
  (!h.holdown || (s.inTile (i / 4) (h.area i 1) h.span && s.inTile (i / 4) (h.area i 2) h.span)) &&
  (match f.opt with
   | none => true
   | some o => s.inTile (i / 4) (o.bank h i false) (o.bankBytes h) && s.inTile (i / 4) (o.bank h i true) (o.bankBytes h))

end Sys2Proof.Machine
end

