-- ==== Sys2Proof/Machine/Cut.lean ====
section
/-! DEFINITION. How a transfer over destination ranges is cut into packets (R217). -/

namespace Sys2Proof.Machine

/-- Cuts one destination range into packets (R217): each as large as 1,024 bytes and the next 4 KiB boundary allow. The answers
are (address, byte offset in the transfer, bytes). -/
def cutRange : Nat → Nat → Nat → Nat → List (Nat × Nat × Nat)
  | 0, _, _, _ => []
  | fuel + 1, a, o, n =>
    if n = 0 then []
    else
      let k := min n (min 1024 (4096 - a % 4096))
      (a, o, k) :: cutRange fuel (a + k) (o + k) (n - k)

/-- The packets of a transfer over destination ranges in order. -/
def cutAll : List (Nat × Nat) → Nat → List (Nat × Nat × Nat)
  | [], _ => []
  | (a, n) :: t, o => cutRange (n / 1024 + n / 4096 + 2) a o n ++ cutAll t (o + n)

end Sys2Proof.Machine
end

