-- ==== Sys2Proof/Machine/Mirror.lean ====
section
/-! DEFINITION. Checkpoint generations and the mirror stream (R363, R368, R370-R372): where a generation lies, its state, the
stream a source sends, and what a host accepts. -/

namespace Sys2Proof.Machine
open Sys2Proof

/-! ### Generations (R363, R368) -/

/-- A granule of the image. -/
def granule : Nat := 65536

/-- STATE of a generation (R368): 0 EMPTY, 1 WRITING, 2 SIGNED, 3 MIRRORING, 4 MIRRORED, 5 RECEIVING, 6 VERIFIED, 7 INVALID. -/
def State.genState (s : State) (g : Nat) : Nat := s.field (Reg.ckpGenA g) 0 3

/-- Writes STATE of a generation. -/
def State.setGenState (s : State) (g v : Nat) : State := s.setField (Reg.ckpGenA g) 0 3 v

/-- STEP of a generation. -/
def State.genStep (s : State) (g : Nat) : Nat := s.field (Reg.ckpGenA g) 16 48

/-- Writes VCODE of a generation. -/
def State.setVcode (s : State) (g v : Nat) : State := s.setField (Reg.ckpGenA g) 8 8 v

/-- Bytes of one area. -/
def State.isz (s : State) : Nat := s.field Reg.ckpArea 39 25 * granule

/-- The address of generation g's area on an NME for an offset and a size. -/
def areaAt (off isz g nme : Nat) : Nat := nme / 4 * 2 ^ 39 + off + (2 * (nme % 4) + g % 2) * isz

/-- The address of generation g's area on an NME (R363). -/
def State.area (s : State) (g nme : Nat) : Nat :=
  areaAt (if g < 2 then s.field Reg.ckpArea 0 39 else s.field Reg.ckpMirin 16 39) s.isz g nme

/-- A checkpoint event (R380). -/
def State.ckpEvent (s : State) (sub job step gen : Nat) (more : List (Nat × Nat)) : State :=
  let epoch := match s.pisteOf job with | some e => s.pisteEpoch e | none => 0
  s.raise (0x5000 + sub) (8, 0) ((16, gen) :: more) (some (job, epoch, step))

/-- JOB of CKP_CTL. -/
def State.ckpJob (s : State) : Nat := s.field Reg.ckpCtl 1 12

/-- BUSY and PHASE follow what runs: a sweep, signing, a mirror stream; PEND the pending trigger (R378). -/
def State.ckpRefresh (s : State) : State :=
  let phase := match s.ckp.run, s.ckp.mirror with
    | some r, _ => if r.signing then 3 else 1
    | none, some _ => 4
    | none, none => 0
  let s := s.setField Reg.ckpStat 0 1 (b2n s.ckp.run.isSome)
  let s := s.setField Reg.ckpStat 1 3 phase
  s.setField Reg.ckpStat 4 1 (b2n s.ckp.pend.isSome)

/-! ### Section sizes (R363) -/

/-- Granules that hold n bytes. -/
def granules (n : Nat) : Nat := (n + granule - 1) / granule

/-- Granules of one section of moments for K chunks: elements, then one scale for each 256. -/
def momentGranules (mfmt : Bool) (k : Nat) : Nat :=
  let p := 16384 * k
  granules ((if mfmt then 1 else 2) * p + p / 256)

/-- Whether a handle uses an NME. -/
def CkHandle.uses (h : CkHandle) (nme : Nat) : Bool := decide (h.nbase ≤ nme ∧ nme < h.nbase + h.ncnt)

/-- Data granules of a handle on each of its NMEs. -/
def CkHandle.size (h : CkHandle) (mfmt : Bool) : Nat :=
  h.chunks + momentGranules mfmt h.chunks * (if h.alg = 0 then 2 else 1)

/-- Data granules of an NME. -/
def ngr (hs : List CkHandle) (mfmt : Bool) (nme : Nat) : Nat :=
  ((hs.filter (fun h => h.uses nme)).map (fun h => h.size mfmt)).foldl (· + ·) 0

/-- Granules of the digest list of n data granules. -/
def digestGranules (n : Nat) : Nat := granules (48 * n)

/-- The granules of an image after the manifest's, for the data granules of each NME. -/
def imageGranules (n : Nat → Nat) : List (Nat × Nat) :=
  (List.range 32).flatMap (fun j => (List.range (n j + digestGranules (n j))).map (fun i => (j, i + 1)))

/-! ### The stream of a source (R371) -/

/-- The offset of the hosted area on the partner. -/
def State.pmoff (s : State) : Nat := s.field Reg.ckpMirout 16 39

/-- The record of one MIRROR packet of the stream. -/
def State.mirrorRecord (s : State) (m : MirrorRun) (nme gran addr len : Nat) (segs : List (Nat × Nat)) : E2e :=
  let epoch := match s.pisteOf m.job with | some e => s.pisteEpoch e | none => 0
  { E2e.blank with type := tyMirror, dst := s.field Reg.ckpMirout 0 15, job := m.job, epoch := epoch,
                   stepl := m.step % 2 ^ 16, addr := addr, len := len,
                   source := { pre := [], core := none, segs := segs }, owner := .mirror nme gran }

/-- Makes the packets of n bytes of a granule. -/
def State.mirrorBytes (s : State) (m : MirrorRun) (nme gran n : Nat) : State :=
  let src := s.area m.gen nme + gran * granule
  let dst := areaAt s.pmoff s.isz m.gen nme + gran * granule
  (cutAll [(dst, n)] 0).foldl (fun (s : State) t =>
    s.newRecord (s.mirrorRecord m nme gran t.1 ((t.2.2 + 63) / 64) [(src + t.2.1, t.2.2)])) s

/-- Makes the packets of the stage a stream is at. -/
def State.mirrorSend (s : State) (m : MirrorRun) : State :=
  let base := areaAt s.pmoff s.isz m.gen 0
  let s := { s with ckp := { s.ckp with mirror := some m } }
  if m.stage = 0 then s.newRecord (s.mirrorRecord m 0 0 (base + 64) 0 [])
  else if m.stage = 1 then
    match m.left with
    | (j, g) :: _ => s.mirrorBytes m j g granule
    | [] => s
  else if m.stage = 2 then s.mirrorBytes m 0 0 16384
  else s.newRecord (s.mirrorRecord m 0 0 base 0 [])

/-- Opens the stream of an own generation (R371): OPEN goes out and the generation is MIRRORING. -/
def State.mirrorOpen (s : State) (g : Nat) : State :=
  let m : MirrorRun := { gen := g, job := s.ckpJob, step := s.genStep g, stage := 0, left := [] }
  ((s.setGenState g 3).mirrorSend m).ckpRefresh

/-- Mirrors an own generation where mirroring is enabled: now, or after the stream in progress. -/
def State.mirrorStart (s : State) (g : Nat) : State :=
  if !s.flag Reg.ckpMirout 15 then s
  else if s.ckp.mirror.isSome then { s with ckp := { s.ckp with next := some g } }
  else s.mirrorOpen g

/-- The stream is over: the next one, if any, opens. -/
def State.mirrorEnd (s : State) : State :=
  let next := s.ckp.next
  let s := { s with
    ckp := { s.ckp with mirror := none, next := none }
    fab := { s.fab with recs := s.fab.recs.filter (fun r => match r.owner with | .mirror _ _ => false | _ => true) } }
  match next with
  | some g => if s.genState g = 2 then s.mirrorOpen g else s.ckpRefresh
  | none => s.ckpRefresh

/-- The stream has failed (R372): the generation returns to SIGNED. -/
def State.mirrorFail (s : State) (m : MirrorRun) : State :=
  (((s.setGenState m.gen 2).count Reg.ckpMirFail).ckpEvent 0x005 m.job m.step m.gen []).mirrorEnd

/-- Stops the stream without a failure: the generation returns to SIGNED (R369). -/
def State.mirrorStop (s : State) : State :=
  match s.ckp.mirror with
  | some m => (s.setGenState m.gen 2).mirrorEnd
  | none => s

/-- Data granules of an NME as the manifest of a generation names them. -/
def State.manifestNgr (s : State) (g nme : Nat) : Nat := ofBytes ((s.memRead (s.area g 0 + 0x2040 + 64 * nme) 4).1)

/-- The stream's stage is fully acknowledged: the next one goes out. -/
def State.mirrorNext (s : State) (m : MirrorRun) : State :=
  if m.stage = 0 then
    let left := imageGranules (s.manifestNgr m.gen)
    s.mirrorSend { m with stage := if left.isEmpty then 2 else 1, left := left }
  else if m.stage = 1 then
    match m.left with
    | _ :: [] => s.mirrorSend { m with stage := 2, left := [] }
    | _ :: t => s.mirrorSend { m with left := t }
    | [] => s.mirrorSend { m with stage := 2 }
  else if m.stage = 2 then s.mirrorSend { m with stage := 3 }
  else
    (((s.setGenState m.gen 4).count Reg.ckpMirOk).ckpEvent 0x003 m.job m.step m.gen []).mirrorEnd

/-- Whether packets of the stream are unacknowledged. -/
def Fabric.mirroring (f : Fabric) : Bool := f.recs.any (fun r => match r.owner with | .mirror _ _ => true | _ => false)

/-- What became of a packet of the stream (R371, R372): acknowledged, or a failure of the stream. -/
def State.mirrorEvent (s : State) (code : Nat) : State :=
  match s.ckp.mirror with
  | none => s
  | some m =>
    if code ≠ 0 then s.mirrorFail m
    else if s.fab.mirroring then s
    else s.mirrorNext m

/-- An epoch change of the job during a stream (R372): its records are gone; it goes on under the new epoch from what was not
fully acknowledged, without a new OPEN. -/
def State.mirrorResume (s : State) (job : Nat) : State :=
  match s.ckp.mirror with
  | some m => if m.job = job then s.mirrorSend m else s
  | none => s

/-- A GET of a restore's fetch cannot complete (R373, code 0x0C): no more is fetched. -/
def State.restoreFail (s : State) : State :=
  match s.ckp.cmd with
  | some c => { s with
      ckp := { s.ckp with cmd := some { c with failed := true, left := [] } }
      fab := { s.fab with recs := s.fab.recs.filter (fun r => r.owner != E2eOwner.restore) } }
  | none => s

/-! ### What a host accepts (R372) -/

/-- The hosted generation an address lies in. -/
def State.hostedAt (s : State) (addr : Nat) : Option Nat :=
  [2, 3].find? (fun g => (List.range 32).any (fun j => decide (s.area g j ≤ addr ∧ addr < s.area g j + s.isz)))

/-- An OPEN or a SEAL of a hosted generation: a MIRROR without payload to the manifest granule + 64, or to the granule. -/
def State.isOpen (s : State) (p : Packet) (g : Nat) : Bool := p.len == 0 && p.addr == s.area g 0 + 64
def State.isSeal (s : State) (p : Packet) (g : Nat) : Bool := p.len == 0 && p.addr == s.area g 0

/-- The test of R372. -/
def State.mirrorAccepts (s : State) (p : Packet) : Bool :=
  s.flag Reg.ckpMirin 15 && p.src == s.field Reg.ckpMirin 0 15 &&
  (match s.hostedAt p.addr with
   | none => false
   | some g => !s.flag (Reg.ckpGenA g) 3 && (s.isOpen p g || s.genState g == 5))

/-- What an accepted MIRROR packet does: its payload is written; OPEN begins the generation anew, SEAL has it verified. -/
def State.mirrorTake (s : State) (p : Packet) : State :=
  match s.hostedAt p.addr with
  | none => s
  | some g =>
    if s.isOpen p g then
      { (s.setReg (Reg.ckpGenA g) 5).resetReg (Reg.ckpGenB g) with ckp := { s.ckp with sealed' := s.ckp.sealed'.filter (· != g) } }
    else if s.isSeal p g then { s with ckp := { s.ckp with sealed' := s.ckp.sealed'.filter (· != g) ++ [g] } }
    else s.memWrite p.addr p.bytes

end Sys2Proof.Machine
end

