-- ==== Sys2Proof/Machine/Domain.lean ====
section
/-! DEFINITION. Reset domains (R332, R344): what each contains, how two are joined, and the entries of the recovery queue. -/

namespace Sys2Proof.Machine
open Sys2Proof

/-! ### Domains (R332, R344) -/

/-- Codes of the reset domains. -/
def domEngine : Nat := 0
def domCore : Nat := 1
def domCluster : Nat := 2
def domPartition : Nat := 3
def domFabric : Nat := 4
def domNme : Nat := 5
def domDevice : Nat := 6

/-- The compute tile a domain lies in, if any. -/
def domTile (d u : Nat) : Option Nat :=
  if d = domEngine then some (u / 96) else if d = domCore then some (u / 24) else if d = domCluster then some (u / 5)
  else if d = domPartition then some u else if d = domNme then some (u / 4) else none

/-- The next larger domain. -/
def State.domUp (s : State) (d u : Nat) : Nat × Nat :=
  if d = domEngine then (domCore, u / 4) else if d = domCore then (domCluster, s.clusterOf u)
  else if d = domCluster then (domPartition, u / 5) else if d = domNme then (domPartition, u / 4) else (domDevice, 0)

/-- Whether domain (d, u) lies inside domain (e, v). -/
def State.domInside (s : State) (d u e v : Nat) : Bool :=
  (d == e && u == v) || e == domDevice ||
  (e == domPartition && domTile d u == some v) ||
  (e == domCluster && ((d == domCore && s.clusterOf u == v) || (d == domEngine && s.clusterOf (u / 4) == v))) ||
  (e == domCore && d == domEngine && u / 4 == v)

/-- The smallest domain containing two. -/
def State.domJoin (s : State) : Nat → Nat × Nat → Nat × Nat → Nat × Nat
  | 0, _, _ => (domDevice, 0)
  | fuel + 1, a, b =>
    if s.domInside b.1 b.2 a.1 a.2 then a else s.domJoin fuel (s.domUp a.1 a.2) b

/-- The logical cores of a domain. -/
def State.domCores (s : State) (d u : Nat) : List Nat :=
  if d = domEngine then [u / 4] else if d = domCore then [u]
  else if d = domCluster then ((List.range 24).map (· + u / 5 * 24)).filter (fun c => s.clusterOf c == u)
  else if d = domPartition then (List.range 24).map (· + u * 24)
  else if d = domDevice then List.range 192 else []

/-- The NMEs of a domain: a partition keeps its memory side (R173). -/
def domNmes (d u : Nat) : List Nat :=
  if d = domNme then [u] else if d = domDevice then List.range 32 else []

/-! ### Queue entries (R359) -/

/-- DOMAIN, UNIT, CAUSE and STATE of a queue entry. -/
def State.recDomain (s : State) (q : Nat) : Nat := s.field (Reg.rstRecqA q) 1 3
def State.recUnit (s : State) (q : Nat) : Nat := s.field (Reg.rstRecqA q) 4 10
def State.recCause (s : State) (q : Nat) : Nat := s.field (Reg.rstRecqA q) 14 8
def State.recState (s : State) (q : Nat) : Nat := s.field (Reg.rstRecqA q) 42 3

/-- What the controller holds of an entry. -/
def State.recEntry (s : State) (q : Nat) : Recovery := Tab.get s.rst.entries Recovery.fresh q

/-- Writes it. -/
def State.setRecEntry (s : State) (q : Nat) (r : Recovery) : State :=
  { s with rst := { s.rst with entries := Tab.put s.rst.entries Recovery.fresh q r } }

/-- Entries queued or in progress, oldest first. -/
def State.recLive (s : State) : List Nat :=
  sortBy (fun q => (s.recEntry q).order)
    ((List.range 8).filter (fun q => s.flag (Reg.rstRecqA q) 0 && decide (s.recState q < 3)))

end Sys2Proof.Machine
end

