-- ==== Sys2Proof/Machine/SecBase.lean ====
section
/-! DEFINITION. Keys and the two signatures (R437-R439): the module's identity, KEYID, and verification; the measurement registers and
the derivation of Alias (R438, R446). -/

namespace Sys2Proof.Machine
open Sys2Proof

/-- The suffixes "ED" and "MD" of a derivation. -/
def suffixEd : List Byte := [0x45, 0x44]
def suffixMd : List Byte := [0x4D, 0x44]

/-- The info string "GLS DEVID ". -/
def infoDevId : List Byte := [0x47, 0x4C, 0x53, 0x20, 0x44, 0x45, 0x56, 0x49, 0x44, 0x20]

/-- The info string "GLS ALIAS ". -/
def infoAlias : List Byte := [0x47, 0x4C, 0x53, 0x20, 0x41, 0x4C, 0x49, 0x41, 0x53, 0x20]

/-- The 1,984 key bytes PKED and PKMD of a derived pair; `tail` follows the suffix of the info string. -/
def derivedKeys (info tail : List Byte) : List Byte :=
  toBytes 32 (Config.keyEd (info ++ suffixEd ++ tail)).toNat ++ toBytes 1952 (Config.keyMd (info ++ suffixMd ++ tail)).toNat

/-- The key bytes of DevID. -/
def devIdKeys : List Byte := derivedKeys infoDevId []

/-- KEYID of key bytes (R438). -/
def keyId (keys : List Byte) : Nat := ofBytes ((sha384 keys).take 8)

/-- SIGED of a message with a derived pair. -/
def sigEd (info tail msg : List Byte) : List Byte := toBytes 64 (Config.signEd (info ++ suffixEd ++ tail) msg).toNat

/-- SIGMD of a message with a derived pair. -/
def sigMd (info tail msg : List Byte) : List Byte := toBytes 3309 (Config.signMd (info ++ suffixMd ++ tail) msg).toNat

/-- Whether SIGED verifies. -/
def edOk (keys msg sig : List Byte) : Bool := Config.verifyEd (keys.take 32) msg sig

/-- Whether SIGMD verifies. -/
def mdOk (keys msg sig : List Byte) : Bool := Config.verifyMd (keys.drop 32) msg sig

/-! ### Measurements and Alias (R438, R446) -/

/-- The 48 bytes of a measurement register. -/
def State.meas (s : State) (r : Nat) : List Byte := (List.range 6).flatMap (fun w => toBytes 8 (s.reg (Reg.secMeas r w)))

/-- Extends a measurement register: M becomes SHA-384(M, d). -/
def State.extend (s : State) (r : Nat) (d : List Byte) : State :=
  let m := sha384 (s.meas r ++ d)
  (List.range 6).foldl (fun (s : State) w => s.setReg (Reg.secMeas r w) (ofBytes ((m.drop (8 * w)).take 8))) s

/-- SHA-384 of SEC_MEAS_0 to SEC_MEAS_4, on which the Alias keys depend (R437). -/
def State.aliasTail (s : State) : List Byte :=
  sha384 ((List.range 5).flatMap (fun r => (List.range 6).flatMap (fun w => toBytes 8 (s.reg (Reg.secMeas r w)))))

/-- The key bytes of Alias. -/
def State.aliasKeys (s : State) : List Byte := derivedKeys infoAlias s.aliasTail

/-- Alias is derived anew from the measurements: every kept signature is discarded (R438, R448). -/
def State.rederive (s : State) : State :=
  let s := { s with sec := { s.sec with kept := [] } }
  s.raise 0xB00C (8, 0) [(64, keyId s.aliasKeys)]

/-- Bytes of the envelope before its payload. -/
def envBytes : Nat := 0x1580

/-- Bytes of an area. -/
def areaBytes (t : Tab Byte) (off n : Nat) : List Byte := (List.range n).map (fun i => Tab.get t 0 (off + i))

end Sys2Proof.Machine
end

