-- ==== Sys2Proof/Machine/Groom.lean ====
section
/-! DEFINITION. The Groomer on a core (R305-R325): when a section starts, what it saves and restores, charges and their
classification, tile events, and the spare. -/

namespace Sys2Proof.Machine
open Sys2Proof

/-! ### Free bytes -/

/-- Writes free bytes at a device address: what stands there is laid out by no rule. -/
def State.memFree (s : State) (addr n : Nat) : State :=
  let base := s.freeIndex
  let s := { s with freeIndex := base + n }
  s.memWrite addr ((List.range n).map (fun i => BitVec.ofNat 8 (Config.freeValue (base + i))))

/-! ### Sections (R311, R312) -/

/-- The section of a kind in a package; a TARGET one by engine and SUB. -/
def Package.find (k : Package) (kind engine sub : Nat) : Option Section :=
  k.sections.find? (fun x => x.kind == kind && (kind != 2 || (x.engine == engine && x.sub == sub)))

/-- The package the next screen uses: a verified one becomes active there (R311, R327). It is copied to GRM_PKG_BASE unless the flash
area is being staged anew, and measured, and Alias is derived anew (R438, R446). -/
def State.usePackage (s : State) : State :=
  match s.grm.staged with
  | some k =>
    let s := ({ s with grm := { s.grm with package := some k, staged := none } }).setFlag Reg.grmStat 1
    let s := if s.sec.staging = some 1 then s else s.memWrite (s.field Reg.grmPkgBase 0 48) (areaBytes s.sec.pkgArea envBytes k.len)
    (s.extend 4 k.pdig).rederive
  | none => s

/-- The save slot of a physical core (R327). -/
def State.saveSlot (s : State) (p : Nat) : Nat :=
  p / 25 * 2 ^ 39 + s.field Reg.grmCap 0 39 + 16 * 2 ^ 20 + 4 * 2 ^ 20 * (p % 25)

/-- Starts a section on a physical core (R312): its state is saved, MISR cleared, and CTL goes to the image. -/
def State.startRun (s : State) (p : Nat) (x : Section) (why : RunFor) (atSyld : Bool) : State :=
  let c := s.logicalOf p
  let run : SectionRun :=
    { part := x, why := why, atSyld := atSyld, saved := c.map s.core, charged := false, began := s.time.count,
      cyc := (s.region 1 (c.getD 0)).cycles s.time.count }
  let s := { s with grm := { s.grm with runs := Tab.insert s.grm.runs p run } }
  match c with
  | none => s
  | some c =>
    let k := s.core c
    let s := s.memWrite (s.saveSlot p) ((List.range x.cslen).map (fun i => Tab.get k.store 0 (x.csbase + i)))
    let s := s.memFree (s.saveSlot p + 2 * 2 ^ 20) (2 * 2 ^ 20)
    let s := s.setCore c { k with package := true, misr := 0, wait := .none,
                                  pc := (s.field Reg.grmPkgBase 0 48 + x.imoff) % 2 ^ 48 }
    s.coreEvent c 0x051 1

/-- A core as a section leaves it (R140, R312): saved state and the parts core-store region are restored; core semaphores,
and what is in flight, stay. -/
def Core.restored (k saved : Core) (x : Section) : Core :=
  let store := Sys2Proof.Machine.putBytes k.store x.csbase ((List.range x.cslen).map (fun i => Tab.get saved.store 0 (x.csbase + i)))
  { saved with store := store, sems := k.sems, ctx := k.ctx, lastPc := k.lastPc, dma := k.dma, fab := k.fab, runs := k.runs,
               nextOp := k.nextOp }

/-- Ends the run of a core, its state restored. -/
def State.endRun (s : State) (p : Nat) : State :=
  match Tab.find s.grm.runs p with
  | none => s
  | some r =>
    let s := { s with grm := { s.grm with runs := Tab.erase s.grm.runs p } }
    match s.logicalOf p, r.saved with
    | some c, some k => (s.modCore c (fun now => now.restored k r.part)).ctlProgress c
    | _, _ => s

/-- Whether a run has passed its time limit (R312, R315): TLIM in core cycles at 0.90 GHz, counted by the core's own clock; 100 us
for a heartbeat. -/
def State.overdue (s : State) (p : Nat) (r : SectionRun) : Bool :=
  let ran := s.time.count - r.began
  let cycles := match s.logicalOf p with
    | some c => (s.region 1 c).cycles s.time.count - r.cyc
    | none => ran * Tab.get s.grm.clocks 0 p / 1000
  decide (9000 * r.part.tlim < cycles) || (r.why == .heartbeat && decide (100000 < ran))

/-- A run on a core whose program is stopped ends without a result, the program's state restored. -/
def State.stopRun (s : State) (c : Nat) : State :=
  match s.physOf c with
  | some p => s.endRun p
  | none => s

/-- A screen on an idle core is cut by a launch found for it; a classification run is not (R314). -/
def State.cutScreen (s : State) (c : Nat) : State :=
  match s.physOf c with
  | none => s
  | some p =>
    match Tab.find s.grm.runs p with
    | none => s
    | some r =>
      if r.why = .classify ∨ r.why = .spare ∨ r.atSyld then s
      else (s.endRun p).count Reg.grmScreenCut

/-! ### Scheduling (R306, R314, R315) -/

/-- Whether a command waits for a FULL run of a core. -/
def State.fullDue (s : State) (p : Nat) : Bool :=
  match s.grm.cmd with
  | some m => m.cores.contains p
  | none => false

/-- What is due on a core that is not RUNNING: its classification, else the QUICK run of a tile event, FULL of a command, QUICK
and HB; with the section kind, engine and SUB. -/
def State.dueRun (s : State) (p : Nat) : Option (RunFor × Nat × Nat × Nat) :=
  match Tab.find s.grm.classify p with
  | some c => if c.held then none else some (.classify, c.kind, c.engine, c.sub)
  | none =>
    if bit (s.due p) 2 then some (.tileEvent, 1, 0, 0)
    else if s.fullDue p then some (.command, 3, 0, 0)
    else if bit (s.due p) 0 then some (.quick, 1, 0, 0)
    else if bit (s.due p) 1 then some (.heartbeat, 0, 0, 0)
    else none

/-- Whether a core is wanted by a launch already found. -/
def State.wanted (s : State) (c : Nat) : Bool := s.disp.found.any (fun f => bit f.cores c)

/-- Whether a live recovery entry covers a physical core: its logical core, its cluster, its tile or the device. -/
def State.recovering (s : State) (c : Nat) : Bool :=
  s.recLive.any (fun q => (s.domCores (s.recDomain q) (s.recUnit q)).contains c)

/-- The same of a physical core; one without a logical number lies in its cluster, its partition and the device. -/
def State.physRecovering (s : State) (p : Nat) : Bool :=
  match s.logicalOf p with
  | some c => s.recovering c
  | none => s.recLive.any (fun q =>
      let d := s.recDomain q
      d == domDevice || (d == domPartition && s.recUnit q == p / 25) ||
      (d == domCluster && s.recUnit q == p / 25 * 5 + p % 25 / 5))

/-- Whether the Groomer may start a section: in service, with a package. -/
def State.groomReady (s : State) : Bool := s.flag Reg.grmCtl 0 && (s.grm.package.isSome || s.grm.staged.isSome)

/-- Starts a section of the active package on a core, if it has one of that kind. -/
def State.runSection (s : State) (p kind engine sub : Nat) (why : RunFor) (atSyld : Bool) : State :=
  let t := s.usePackage
  match t.grm.package.bind (fun k => k.find kind engine sub) with
  | some x => t.startRun p x why atSyld
  | none => s

/-- Whether the Groomer may take a core that is not RUNNING: usable, free of resets, with no section on it (R306, R314). -/
def State.groomFree (s : State) (p : Nat) : Bool :=
  (Tab.find s.grm.runs p).isNone && s.grmUsable p && !s.physRecovering p &&
  (match s.logicalOf p with
   | some c => s.coreState c != 2 && s.coreState c != 4
   | none => true)

/-- The Groomer starts what is due on a usable core that is not RUNNING, free of resets, and wanted by no launch unless it is
under classification (R306, R314). -/
def State.groom (s : State) (p : Nat) : State :=
  if !s.groomReady || !s.groomFree p then s
  else
    match s.dueRun p with
    | none => s
    | some (why, kind, engine, sub) =>
      let wanted : Bool := match s.logicalOf p with
        | some c => s.coreState c == 1 || s.wanted c
        | none => false
      if why ≠ .classify ∧ wanted then s else s.runSection p kind engine sub why false

/-- What a SYLD of a RUNNING core finds due: HB first, then the QUICK runs (R140, R314, R315). -/
def State.syldRun (s : State) (p : Nat) : Option (RunFor × Nat) :=
  if !s.groomReady || !s.grmUsable p then none
  else if bit (s.due p) 1 then some (.heartbeat, 0)
  else if bit (s.due p) 2 then some (.tileEvent, 1)
  else if bit (s.due p) 0 then some (.quick, 1)
  else none

/-- A core has left RUNNING: a pending level is applied, a pending quarantine takes place (R319, R321), and what waited for the
end of its program may start. -/
def State.coreLeft (s : State) (c : Nat) : State :=
  match s.physOf c with
  | none => s
  | some p =>
    let s := if s.flag (Reg.grmCore p) 6 then s.applyLevel p else s
    if bit (s.due p) 3 then (s.setDue p (s.due p - 8)).quarantine p else s.groom p

/-! ### Charges (R304, R305, R325) -/

/-- Marks the section running on a core as met by a charge (R305). -/
def State.markRun (s : State) (p : Nat) (charged : Bool) : State :=
  match Tab.find s.grm.runs p with
  | some r => { s with grm := { s.grm with runs := Tab.insert s.grm.runs p { r with charged := charged } } }
  | none => s

/-- Withdraws a charge of a tile event (R325): a core it brought under classification is as it was before, with its transients and
permanent classifications; one under classification before goes on with that. A quarantine stands (R323). -/
def State.uncharge (s : State) (p src old since : Nat) : State :=
  let was := bits old 0 3
  let s := s.setDue p (setBits (s.due p) 3 1 0)
  if 5 ≤ s.grmState p then s
  else if was = 1 ∨ was = 2 then
    s.markRun p false
  else
    let s := match Tab.find s.grm.runs p with
      | some r => if r.why = RunFor.classify then s.endRun p else s
      | none => s
    let left := (Tab.get s.grm.transients [] p).filter (fun t => decide (t < since))
    let s := { s with grm := { s.grm with classify := Tab.erase s.grm.classify p, transients := Tab.put s.grm.transients [] p left } }
    s.setReg (Reg.grmCore p) (setBits (setBits old 13 4 src) 17 8 (min 255 left.length))

/-- The QUICK runs and the higher floor of a tile event (R325). -/
def State.tileCorrelated (s : State) (n : Nat) (charges : List (Nat × Nat × Nat × Nat)) : State :=
  let firsts := charges.foldl (fun (l : List (Nat × Nat × Nat × Nat)) e => if l.any (fun x => x.1 == e.1) then l else l ++ [e]) []
  let s := firsts.foldl (fun (s : State) e => s.uncharge e.1 (s.field (Reg.grmCore e.1) 13 4) e.2.2.1 e.2.2.2) s
  let s : State := { s with grm := { s.grm with window := Tab.put s.grm.window [] n [] } }
  let s := (s.count Reg.grmTileCorr).countField (Reg.grmTile n) 9 8
  let t := s.field (Reg.grmTile n) 6 3
  let s := if t < s.dmax then (s.setField (Reg.grmTile n) 6 3 (t + 1)).grmTileEvent 0x009 n
    else (s.grmTileEvent 0x009 n).grmTileEvent 0x00A n
  ((List.range 25).map (· + 25 * n)).foldl (fun (s : State) p =>
    if s.grmUsable p then ((s.applyLevel p).markDue p 4).groom p else s) s

/-- A charge with source 1 to 4 or 7 enters its tile's window; charges to CORRN distinct cores within CORRW us make a tile
event, which the Bool tells (R325). -/
def State.correlate (s : State) (p src old : Nat) : Bool × State :=
  if !([1, 2, 3, 4, 7].contains src) then (false, s)
  else
    let n := p / 25
    let l := s.corrLive n ++ [(p, src, old, s.time.count)]
    let s := { s with grm := { s.grm with window := Tab.put s.grm.window [] n l } }
    let cores := l.foldl (fun (a : List Nat) e => if a.contains e.1 then a else a ++ [e.1]) []
    if s.corrn ≤ cores.length then (true, s.tileCorrelated n l) else (false, s)

/-- The classification a detection of a source starts: TARGET runs for RESIDUE and CHECK, else QUICK (R307). -/
def Classify.start (before src engine sub rsn : Nat) (held : Bool) : Classify :=
  { before := before, kind := if src = 1 ∨ src = 2 then 2 else 1, engine := engine, sub := sub, left := rsn, rescreen := false,
    held := held }

/-- A second charge to a core in the same count (R305): they are one, of the lower source, which its classification follows. -/
def State.chargeAgain (s : State) (p src engine sub : Nat) : State :=
  if s.field (Reg.grmCore p) 13 4 ≤ src then s
  else
    let s := s.setField (Reg.grmCore p) 13 4 src
    match Tab.find s.grm.classify p with
    | some c =>
      if c.rescreen then s
      else
        let s := match Tab.find s.grm.runs p with
          | some r => if r.why = RunFor.classify then s.endRun p else s
          | none => s
        let k := Classify.start c.before src engine sub c.left false
        { s with grm := { s.grm with classify := Tab.insert s.grm.classify p k } }
    | none => s

/-- Charges a detection of a source to a physical core (R305), with the engine and SUB its classification repeats (R307); `held`
where a sample decides first which core is in error. Any detection quarantines a core in PROBATION (R324). -/
def State.charge (s : State) (p src engine sub : Nat) (held : Bool := false) : State :=
  let st := s.grmState p
  let old := s.reg (Reg.grmCore p)
  if 5 ≤ st then s.grmEventOf 0x00E p src (s.field (Reg.grmCore p) 3 3)
  else if Tab.get s.grm.chargedAt 0 p = s.time.count + 1 ∧ (st = 1 ∨ st = 2 ∨ st = 4) then
    (((s.chargeAgain p src engine sub).correlate p src old).2).groom p
  else
    let s : State := { s with grm := { s.grm with chargedAt := Tab.put s.grm.chargedAt 0 p (s.time.count + 1) } }
    if st = 1 ∨ st = 2 then
      ((((s.count Reg.grmDetMerged).setField (Reg.grmCore p) 13 4 src).markRun p true).correlate p src old).2
    else
      let s := (s.setField (Reg.grmCore p) 13 4 src).grmEvent 0x001 p
      if st = 4 then
        let r := s.correlate p src old
        if r.1 then r.2 else if r.2.physRunning p then r.2.markDue p 8 else r.2.quarantine p
      else
        let s := s.setGrmState p 1
        let s := { s with grm := { s.grm with classify := Tab.insert s.grm.classify p (Classify.start st src engine sub s.rsn held) } }
        ((s.correlate p src old).2).groom p

/-! ### Classification (R307, R310, R318, R324) -/

/-- Ends a core's classification. -/
def State.classified (s : State) (p st : Nat) : State :=
  let s := s.setGrmState p st
  { s with grm := { s.grm with classify := Tab.erase s.grm.classify p } }

/-- A core that R318 gives up: in PROBATION at DMAX where PROBEN holds and the tile has no dark spare, else quarantined, at the
end of its program if it is RUNNING (R321). -/
def State.giveUp (s : State) (p : Nat) : State :=
  if s.flag Reg.grmCtl 46 ∧ (s.darkSpare (p / 25)).isNone then
    let s := (s.classified p 4).setField (Reg.grmCore p) 3 3 s.dmax
    ((s.applyLevel p).grmEvent 0x00C p).probRefresh
  else if s.physRunning p then
    ({ s with grm := { s.grm with classify := Tab.erase s.grm.classify p } }).markDue p 8
  else s.quarantine p

/-- A permanent classification (R310, R318): PCNT, and a higher level with a rescreen by the same section. -/
def State.permanent (s : State) (p : Nat) (c : Classify) : State :=
  let s := ((s.countField (Reg.grmCore p) 25 8).count Reg.grmPermanent).grmEvent 0x003 p
  let d := s.field (Reg.grmCore p) 3 3 + s.dstep
  if s.dmax < d then s.giveUp p
  else
    let s := (s.setField (Reg.grmCore p) 3 3 d).setGrmState p 2
    let c' : Classify := { c with left := s.rsn, rescreen := true, held := false }
    let s := { s with grm := { s.grm with classify := Tab.insert s.grm.classify p c' } }
    s.applyLevel p

/-- A transient classification (R310): the state before the charge and TCNT, unless TCNT reaches TLIM. -/
def State.transient (s : State) (p : Nat) (c : Classify) : State :=
  let l := Tab.get s.grm.transients [] p ++ [s.time.count]
  let s := s.setField (Reg.grmCore p) 17 8 (min 255 l.length)
  let s := { s with grm := { s.grm with transients := Tab.put s.grm.transients [] p l } }
  let lim := s.field Reg.grmCtl 34 4
  if lim ≠ 0 ∧ lim ≤ l.length then s.permanent p c
  else ((s.classified p c.before).count Reg.grmTransient).grmEvent 0x002 p

/-- The result of one classification or rescreen run (R307, R318). -/
def State.classifyRun (s : State) (p : Nat) (pass : Bool) : State :=
  match Tab.find s.grm.classify p with
  | none => s
  | some c =>
    if pass then
      if 1 < c.left then
        { s with grm := { s.grm with classify := Tab.insert s.grm.classify p { c with left := c.left - 1 } } }
      else if c.rescreen then
        (s.classified p (if s.field (Reg.grmCore p) 3 3 = 0 then 0 else 3)).grmEvent 0x005 p
      else s.transient p c
    else if c.rescreen then s.giveUp p
    else s.permanent p c

/-! ### The spare (R321) -/

/-- A reset that brings a pending spare in starts its FULL run. -/
def State.startSpare (s : State) (n : Nat) : State :=
  match s.darkSpare n with
  | some p => if s.flag (Reg.grmTile n) 5 then s.runSection p 3 0 0 .spare false else s
  | none => s

/-- The quarantined cores of a tile that wait for a spare. -/
def State.waitingForSpare (s : State) (n : Nat) : List Nat :=
  ((List.range 25).map (· + 25 * n)).filter (fun p =>
    s.grmState p == 5 && s.flag (Reg.grmCore p) 7 && (s.logicalOf p).isSome)

/-- The spare's FULL run has a result: it takes the quarantined core's logical number, whose clock starts, or is quarantined
(R321, R322, R389). -/
def State.spareResult (s : State) (p : Nat) (pass : Bool) : State :=
  let n := p / 25
  let s := ((s.setField (Reg.grmTile n) 0 5 31).setField (Reg.grmTile n) 5 1 0).setField Reg.grmStat (2 + n) 1 0
  match pass, s.waitingForSpare n with
  | true, q :: more =>
    let l := s.field (Reg.grmCore q) 8 5
    let s := (s.setField (Reg.grmCore q) 8 5 31).setField (Reg.grmCore q) 7 1 0
    let s := (s.setField (Reg.grmCore p) 8 5 l).setGrmState p 0
    let s := ((s.setCoreState (24 * n + l) 4).ensureClock 1 (24 * n + l)).applyLevel p
    let s := (s.count Reg.grmSpareIn).grmEvent 0x007 p
    if more.isEmpty then s else s.setFlag Reg.grmStat (10 + n)
  | true, [] => s.setGrmState p 0
  | false, _ =>
    let s := ((s.setGrmState p 5).setFlag (Reg.grmCore p) 7).count Reg.grmQuar
    ((s.grmEvent 0x008 p).grmEvent 0x006 p).setFlag Reg.grmStat (10 + n)

/-- A core entering reset loses its run without a result; a classification run a charge has met is a failure (R305). -/
def State.dropRun (s : State) (c : Nat) : State :=
  match s.physOf c with
  | none => s
  | some p =>
    match Tab.find s.grm.runs p with
    | none => s
    | some r =>
      let s := { s with grm := { s.grm with runs := Tab.erase s.grm.runs p } }
      if r.charged && r.why == .classify then s.classifyRun p false else s

end Sys2Proof.Machine
end

