-- ==== Sys2Proof/Machine/TimeBase.lean ====
section
/-! DEFINITION. Time messages as they leave a port (R251-R253): their layout, and the egress stamps with the messages that follow. -/

namespace Sys2Proof.Machine
open Sys2Proof

/-- The domain named: false A, true B. -/
def State.domain (s : State) (b : Bool) : TimeDomain := if b then s.time.b else s.time.a

/-- Writes a domain. -/
def State.setDomain (s : State) (b : Bool) (d : TimeDomain) : State :=
  if b then { s with time := { s.time with b := d } } else { s with time := { s.time with a := d } }

/-- The value of a domain now. -/
def State.nowD (s : State) (b : Bool) : Nat := if b then s.nowB else s.nowA

/-- DOMNUM of a domain. -/
def State.domNum (s : State) (b : Bool) : Nat := s.field (Reg.timeCfg b) 5 8

/-- The time messaging of a port. -/
def State.timePort (s : State) (p : Nat) : TimePort := Tab.get s.time.ports TimePort.reset p

/-- Writes it. -/
def State.setTimePort (s : State) (p : Nat) (t : TimePort) : State :=
  { s with time := { s.time with ports := Tab.put s.time.ports TimePort.reset p t } }

/-- The 1588 messageType of a SUB (R251). -/
def timeMsgType (sub : Nat) : Nat :=
  if sub = 0x10 then 0 else if sub = 0x11 then 8 else if sub = 0x12 then 2 else if sub = 0x13 then 3
  else if sub = 0x14 then 0xA else 0xB

/-- A time message with its own fields fs, as a port sends it (R251). -/
def State.timeMessage (s : State) (sub domnum seqid : Nat) (fs : List (Nat × Nat × Nat)) : Packet :=
  let p := Packet.make ([(0, 15, s.own.node), (16, 15, s.own.node), (71, 4, tyCtrl), (128, 32, s.nowA), (216, 8, sub),
    (288, 4, timeMsgType sub), (292, 8, domnum), (300, 16, seqid)] ++ fs) []
  ((p.setField 68 3 6).setField 80 6 1).finish

/-- Gives a port a time message to send (R219, R251). -/
def State.timeSend (s : State) (port sub domnum seqid : Nat) (fs : List (Nat × Nat × Nat)) : State :=
  let p := s.timeMessage sub domnum seqid fs
  s.linkSend port p

/-- TSTAMP and CORR of a stamp in 2^-4 ns (R251). -/
def timeStamp (t : Int) : List (Nat × Nat × Nat) :=
  [(320, 64, (t / 16 % (2 : Int) ^ 64).toNat), (384, 64, (t % 16).toNat * 2 ^ 12)]

/-- The egress stamp of what leaves a port now: the PCS stamp, whose part below 1 ns is not in State, and EGRLAT (R253). -/
def State.egressStamp (s : State) (port : Nat) (b : Bool) : Int × State :=
  let f := s.fresh
  (16 * (s.nowD b : Int) + (f.1 % 16 : Nat) + (s.field (Reg.timePcal port) 16 16 : Nat), f.2)

/-- A time message has left a port: a Sync is followed by its Follow_Up, a Pdelay_Resp by its Pdelay_Resp_Follow_Up, and a
Pdelay_Req's stamp is kept (R250, R252). -/
def State.timeSent (s : State) (port : Nat) (q : Packet) : State :=
  if q.type ≠ tyCtrl ∨ !q.linkLocal then s
  else
    let t := s.timePort port
    let num := q.ext 4 8
    if q.sub = 0x10 then
      match t.outSyncs with
      | [] => s
      | (b, seqid) :: more =>
        let s := s.setTimePort port { t with outSyncs := more }
        let e := s.egressStamp port b
        e.2.timeSend port 0x11 num seqid (timeStamp e.1)
    else if q.sub = 0x12 then
      let e := s.egressStamp port false
      e.2.setTimePort port { t with pds := t.pds.map (fun x => if x.seq = q.ext 12 16 then { x with t1 := some e.1 } else x) }
    else if q.sub = 0x13 then
      let e := s.egressStamp port (num != s.domNum false)
      e.2.timeSend port 0x14 num (q.ext 12 16) (timeStamp e.1 ++ [(448, 15, q.ext 160 15), (463, 4, q.ext 175 4)])
    else s

end Sys2Proof.Machine
end

