-- ==== Sys2Proof/Machine/Link.lean ====
section
/-! DEFINITION. Links and ports (R200-R212, R219-R226, R233, R236, R239): frames, link-level retry, lane sparing, training,
transmission, transit, stalls and withdrawal. -/

namespace Sys2Proof.Machine
open Sys2Proof

/-! ### Training states and going DOWN (R201, R208, R212) -/

/-- Whether fabric tile f is out of reset. -/
def State.tileUp (s : State) (f : Nat) : Bool := s.flag Reg.fabStat f

/-- Sets the training state of a port, entered now, and its PORTUP bit with it. -/
def State.setLts (s : State) (p v : Nat) : State :=
  let s := s.modPort p (fun x => { x with since := s.time.count, hidden := 0 })
  (s.setField (Reg.fabPortStat p) 0 4 v).setField Reg.fabStat (4 + p) 1 (b2n (v == 7))

/-- Whether a port lies in a dimension of size 1, where it stays DOWN (R201). -/
def State.unlinked (s : State) (p : Nat) : Bool := (s.own.dim (p % 6 / 2)).1 == 1

/-- A port starts training: no lane is locked, swapped or out of use (R211, R212, R239). -/
def State.startTraining (s : State) (p : Nat) : State :=
  if s.unlinked p then s.setLts p 0
  else
    let s := (s.setReg (Reg.fabPortLane p) 0).setField (Reg.fabPortStat p) 4 9 0
    (s.modPort p (fun x => { x with retry := false })).setLts p 1

/-- Packets partly received or partly sent on a port: those sent have a frame in the replay buffer. -/
def Port.partials (x : Port) : Nat :=
  b2n x.part.isSome + (x.sent.filter (fun n => x.replay.any (fun f => f.1 == n))).length

/-- A port as going DOWN leaves it: replay buffer, partial packets, credits and lane requests gone; what was received stays, and a
flood's copy of which nothing was sent waits again. -/
def Port.down (x : Port) : Port :=
  { Port.reset with rx := x.rx, headAt := x.headAt, linkq := [], since := x.since,
                    floods := (x.outq.filter (fun q => q.back.isNone && q.packet.flood == 1)).map (fun q => (q.packet, x.since)) ++ x.floods }

/-- A port goes DOWN and starts retraining while it is enabled and its tile is up (R208, R212): packets of which nothing was sent look
for another output. Causes: 0 replays, 1 loss of lock, 2 lane failure, 3 written, 4 tile reset. -/
def State.portDown (s : State) (p cause : Nat) : State :=
  let x := s.port p
  let s := s.countN (Reg.fabDropLinkdown p) x.partials
  let s := { s with fab := { s.fab with waiting := s.fab.waiting ++ x.outq.filterMap Queued.back } }
  let s := s.modPort p (fun x => Port.down { x with since := s.time.count })
  let s := s.count (Reg.fabLnkDown p)
  let s := s.raise 0x7002 (4, p) [(8, p), (8, cause)]
  let s := { s with time := { s.time with ports := Tab.erase s.time.ports p } }
  let s := s.setField (Reg.fabPortLane p) 0 17 0
  if s.flag (Reg.fabPortCtl p) 0 && s.tileUp (p / 6) then s.startTraining p else s.setLts p 0

/-! ### Lane sparing (R210, R211) -/

/-- A lane swap completes: LS takes the lane's symbols, with its skew where it takes L0's (R253). -/
def State.swapLane (s : State) (p lane : Nat) : State :=
  let k := Reg.fabPortStat p
  let tp := Tab.get s.time.ports TimePort.reset p
  let ports := if lane = 0 then Tab.put s.time.ports TimePort.reset p { tp with skew := tp.skewLs } else s.time.ports
  let s := { s with time := { s.time with ports := ports } }
  let s := ((s.setFlag k 8).setField k 9 4 lane).setFlag (Reg.fabPortLane p) (17 + lane)
  let s := s.modPort p (fun x => { x with failing := none, swapAt := none, want := none })
  (s.count (Reg.fabLnkSwap p)).raise 0x7004 (4, p) [(8, p), (8, lane)]

/-- Whether the spare lane of a port can take a lane's place: not in use, not on its way into use, and not out of use. -/
def State.spareFree (s : State) (p : Nat) : Bool :=
  !s.flag (Reg.fabPortStat p) 8 && !s.flag (Reg.fabPortLane p) 33 && (s.port p).failing.isNone

/-- A lane of a port fails: the shadow lane is replaced at once, any other is asked for first; without a free spare the port goes DOWN
(R210, R211). Lane 16 is LS itself; a lane already out of use fails no more. -/
def State.laneOut (s : State) (port lane : Nat) : State :=
  if !s.portUp port || s.flag (Reg.fabPortLane port) (17 + lane) then s
  else if lane = 16 then
    let s := s.setFlag (Reg.fabPortLane port) 33
    if s.flag (Reg.fabPortStat port) 8 || (s.port port).failing.isSome then s.portDown port 2 else s
  else if !s.spareFree port then (s.setFlag (Reg.fabPortLane port) (17 + lane)).portDown port 2
  else if s.field (Reg.fabPortStat port) 4 4 = lane then s.swapLane port lane
  else s.modPort port (fun x => { x with want := some lane, failing := some lane })

/-- LANE_FAIL: a lane lost lock (R210, R211). -/
def execLaneFail (port lane : Nat) (s : State) : Host.Outcome State Fault Refusal :=
  act (fun s => decide (port < 12 ∧ lane ≤ 16) && s.portUp port && !s.flag (Reg.fabPortLane port) (17 + lane))
    (fun s => (s.setField (Reg.fabPortLane port) lane 1 0).laneOut port lane) s

/-- The data lane with the highest count, ties to the lowest number. -/
def worstLane (counts : List Nat) : Nat :=
  (((List.range 16).map (fun l => (l, (counts[l]?).getD 0))).foldl
    (fun (b : Nat × Nat) e => if b.2 < e.2 then e else b) (0, (counts[0]?).getD 0)).1

/-- Lanes whose count in a window reaches SERTH (R209, R210). -/
def State.overSerth (s : State) (port : Nat) (counts : List Nat) : List Nat :=
  (List.range 17).filter (fun l => decide (s.field (Reg.fabPortCtl port) 8 12 ≤ (counts[l]?).getD 0) && decide (l < counts.length))

/-- SER_WINDOW_END: at the end of a 1 ms window of symbol errors per lane, a lane that reaches SERTH fails, and a receiver whose spare
is free names the lane with the highest count in SHADOW (R209, R210). -/
def execSerWindowEnd (port : Nat) (counts : List Nat) (s : State) : Host.Outcome State Fault Refusal :=
  act (fun s => decide (port < 12) && s.portUp port)
    (fun s =>
      let s := (s.overSerth port counts).foldl (fun (s : State) l => s.laneOut port l) s
      if s.portUp port && s.spareFree port then s.modPort port (fun x => { x with want := some (worstLane counts) }) else s) s

/-! ### Receiving frames (R204-R207) -/

/-- A NAK becomes due, and the replay it asks for is counted at the receiving port (R207, R241). -/
def State.nakNow (s : State) (p : Nat) : State :=
  (s.modPort p (fun x => { x with nakDue := true, nakSent := true, seen := none })).count (Reg.fabLnkReplay p)

/-- A frame is discarded: the first asks for a replay, and so does the first that shows a replay to have failed, which it does where a
frame comes no further on than the last one seen since (R207). `fseq` is its FSEQ where FCRC vouches for it. -/
def State.nak (s : State) (p : Nat) (fseq : Option Nat) : State :=
  let x := s.port p
  let far := fseq.map (fun n => (n + 256 - x.rxNext) % 256)
  if !x.nakSent then s.nakNow p
  else match far, x.seen with
    | some d, some e => if d ≤ e then s.nakNow p else s.setPort p { x with seen := some d }
    | some d, none => s.setPort p { x with seen := some d }
    | none, _ => s

/-- The transmitter resends the stored frames from a sequence, unchanged (R207). -/
def State.replay (s : State) (p from' : Nat) : State :=
  let fs := (s.port p).replay.dropWhile (fun f => f.1 != from')
  { s with out := s.out ++ fs.map (fun f => frameOut p f.1 f.2) }

/-- Frames up to and including a sequence leave the replay buffer. -/
def Port.acked (x : Port) (seq : Nat) : Port :=
  if x.replay.any (fun f => f.1 == seq) then
    let kept := (x.replay.dropWhile (fun f => f.1 != seq)).drop 1
    { x with replay := kept, sent := x.sent.filter (fun n => kept.any (fun f => f.1 == n)), replays := 0, lastNak := none }
  else x

/-- A link-control flit of an accepted frame acts (R206): acknowledgement, credits, shadow request, swap confirmation, and a replay, of
which the same FSEQ has 8 in succession before the port goes DOWN (R208). -/
def State.lcfReceive (s : State) (p fseq : Nat) (f : Flit) : State :=
  let w := f.toNat
  let s := if bit w 8 then s.modPort p (fun x => x.acked (bits w 0 8)) else s
  let s := s.modPort p (fun x =>
    { x with credits := x.credits.zipIdx.map (fun ci => ci.1 + bits w (32 + 12 * ci.2) 12) })
  let s := if bit w 22 then s.modPort p (fun x => { x with txShadow := some (bits w 18 4) }) else s
  let x := s.port p
  let s := if bit w 31 then
      match x.want with
      | some lane =>
        let s := (s.setField (Reg.fabPortStat p) 4 4 lane).modPort p (fun x => { x with want := none })
        if x.failing = some lane then
          if bits w 23 8 = fseq then s.swapLane p lane
          else s.modPort p (fun x => { x with swapAt := some (lane, bits w 23 8) })
        else s
      | none => s
    else s
  if bit w 17 then
    let x := s.port p
    let n := if x.lastNak = some (bits w 9 8) then x.replays + 1 else 1
    let s := s.setPort p { x with replays := n, lastNak := some (bits w 9 8) }
    if 8 < n then s.portDown p 0 else s.replay p (bits w 9 8)
  else s

/-- A whole packet has arrived: counted and put into its VC's buffer with the stamps of its header. -/
def State.packetIn (s : State) (p : Nat) (st : Nat × Nat) (q : Packet) : State :=
  (((s.count (Reg.fabPktRx p)).portEvent p 0x102 (flitsIn q)).receivedFlits p q.vc (flitsIn q)).deliverAt p st q

/-- Whether the tile of a port has stopped accepting headers: its withdrawal time is past (R233). -/
def State.closed (s : State) (f : Nat) : Bool :=
  s.flag Reg.fabStat (2 + f) && (Tab.get s.fab.wdT 0 (f + 2) == 1 || decide (Tab.get s.fab.wdT 0 f < s.nowA))

/-- A header that goes no further is dropped with its payload, whose flits the port owes as credits of the VC it names (R219). -/
def Port.refuseHeader (x : Port) (f : Flit) : Port :=
  let len := bits f.toNat 208 5
  { x with skip := len, owed := x.owed.modify (bits f.toNat 68 3) (fun n => n + len + 1) }

/-- A packet flit of an accepted frame: the next payload flit of the packet being received, a flit to skip, an idle flit, or a
header, which HCRC guards (R215). -/
def State.flitIn (s : State) (p phase : Nat) (f : Flit) : State :=
  let x := s.port p
  if x.skip ≠ 0 then s.setPort p { x with skip := x.skip - 1 }
  else match x.part with
    | some q =>
      let l := q.flits ++ [f]
      if l.length = bits q.header.toNat 208 5 then
        (s.setPort p { x with part := none }).packetIn p (q.stampA, q.stampB) { header := q.header, payload := l }
      else s.setPort p { x with part := some { q with flits := l } }
    | none =>
      let st := s.stampOf phase
      if !headerOk f then (s.setPort p (x.refuseHeader f)).integrity p (Reg.fabDropHcrc p)
      else if bits f.toNat 71 4 = 15 then s
      else if s.closed (p / 6) then (s.setPort p (x.refuseHeader f)).count Reg.fabDropWithdraw
      else if bits f.toNat 208 5 = 0 then s.packetIn p st { header := f, payload := [] }
      else s.setPort p { x with part := some { header := f, flits := [], stampA := st.1, stampB := st.2 } }

/-- The slots of an accepted frame in order. -/
def State.slotsIn (s : State) (p fseq phase : Nat) (slots : List Flit) : State :=
  if fseq % 4 = 0 then
    match slots with
    | c :: t => (t.foldl (fun s f => s.flitIn p phase f) s).lcfReceive p fseq c
    | [] => s
  else slots.foldl (fun s f => s.flitIn p phase f) s

/-- The transmitter of the port sends one frame for each codeword received: an idle frame or a link-control frame. -/
def State.answerFrame (s : State) (p : Nat) : State :=
  if 6 ≤ s.lts p ∧ s.lts p ≤ 7 ∧ (s.port p).room 1 then (s.sendFrame p []).2 else s

/-- Whether a packet at a hop is in transit: routed, and for another node (check 3 of R231). -/
def State.inTransit (s : State) (port : Nat) (p : Packet) : Bool :=
  port != loopback && p.flood == 0 && !p.linkLocal && !(s.fab.latch.isSome && p.dst == s.own.node)

/-- Whether a fabric tile holds a packet whose output port holds credits for it: one that waits for its link, or one at the head of a
VC that may leave (R336). -/
def State.tileHolds (s : State) (f : Nat) : Bool :=
  ((List.range 6).map (· + 6 * f)).any (fun p => !(s.port p).outq.isEmpty ||
    (List.range 8).any (fun v => match s.head p v with
      | some r => s.inTransit p r.packet && (match s.hop r.packet p with | .out _ _ => true | _ => false)
      | none => false))

/-- A tile that held no such packet and holds one now starts its watchdog anew (R336). -/
def State.tileWoken (s : State) (f : Nat) (held : Bool) : State :=
  if !held && s.tileHolds f then s.progress (0x2000 + f) else s

/-- FRAME_RECEIVE: a codeword arrives on a port: accepted in order, or discarded with a NAK for replay (R207). -/
def execFrameReceive (port : Nat) (frame : Frame) (s : State) : Host.Outcome State Fault Refusal :=
  act (fun s => decide (port < 12) && (s.lts port == 6 || s.lts port == 7))
    (fun s =>
      let x := s.port port
      let s := match x.swapAt with
        | some (lane, seq) => if seq = x.rxNext then s.swapLane port lane else s
        | none => s
      let fseq := frame.fseq.toNat
      let held := s.tileHolds (port / 6)
      let s :=
        if !frame.decodes then (s.count (Reg.fabLnkFecUncorr port)).nak port none
        else
          let s := if frame.corrected then s.count (Reg.fabLnkFecCorr port) else s
          if frame.fcrc.toNat ≠ frameCrc fseq frame.slots then (s.integrity port (Reg.fabLnkFcrc port)).nak port none
          else if fseq ≠ (s.port port).rxNext then s.nak port (some fseq)
          else
            let s := s.modPort port (fun x =>
              { x with rxNext := (fseq + 1) % 256, rxAny := true, nakDue := false, nakSent := false, seen := none })
            s.slotsIn port fseq frame.phase frame.slots
      (s.tileWoken (port / 6) held).answerFrame port) s

/-- LOSS_OF_LOCK: 16 codewords in a row without lock take the port DOWN (R208). -/
def execLossOfLock (port : Nat) (s : State) : Host.Outcome State Fault Refusal :=
  act (fun s => decide (port < 12) && s.portUp port) (fun s => s.portDown port 1) s

/-! ### Training (R201, R202, R211, R212, R475) -/

/-- The fused lane of a port (R473): 31 for none. -/
def State.fusedLane (s : State) (p : Nat) : Nat := s.field (Reg.fuseLane p) 0 5

/-- Lanes that trained and are not fused off. -/
def State.trained (s : State) (p lanes : Nat) : Nat := setBits (lanes % 2 ^ 17) (s.fusedLane p) 1 0 % 2 ^ 17

/-- A training attempt fails: counted, event 0x7005 with the state, what was partly received in LT5 is lost, and the next attempt starts
100 ms later; a port in MISWIRE stays there (R202, R212, R241). -/
def State.trainFail (s : State) (p st : Nat) : State :=
  let s := s.count (Reg.fabLnkTrainFail p)
  let s := s.raise 0x7005 (4, p) [(8, p), (8, st)]
  let s := if st = 6 then (s.countN (Reg.fabDropLinkdown p) (s.port p).partials).modPort p Port.down else s
  let v := if s.lts p = 8 then 8 else 0
  (s.modPort p (fun x => { x with retry := true })).setLts p v

/-- Too few lanes: FEWLANES, event 0x7006, and the attempt fails (R211). -/
def State.fewLanes (s : State) (p st lanes : Nat) : State :=
  let s := s.setFlag (Reg.fabPortStat p) 13
  (s.raise 0x7006 (4, p) [(8, p), (32, lanes)]).trainFail p st

/-- The lanes of a port as training found them: LOCK, FAILED, and LS in the place of the lowest-numbered failed lane. -/
def State.setLanes (s : State) (p lanes : Nat) (skew : List Nat) : State :=
  let bad := (List.range 16).filter (fun l => !bit lanes l)
  let failed := (2 ^ 17 - 1) - lanes
  let s := s.setReg (Reg.fabPortLane p) (lanes + failed * 2 ^ 17)
  let s := s.setField (Reg.fabPortStat p) 4 10 0
  let carrier := if bad.head? = some 0 then 16 else 0
  let tp := { Tab.get s.time.ports TimePort.reset p with skew := (skew[carrier]?).getD 0, skewLs := (skew[16]?).getD 0 }
  let s := { s with time := { s.time with ports := Tab.put s.time.ports TimePort.reset p tp } }
  match bad with
  | l :: _ => s.swapLane p l
  | [] => s

/-- The partner that R201 requires of a port. -/
def State.partnerOk (s : State) (p node port : Nat) : Bool :=
  let l := s.own
  decide (1 < (l.dim (p % 6 / 2)).1) && node == l.neighbour (p % 6) && port == p / 6 * 6 + (p % 6 ^^^ 1)

/-- A port enters UP: event 0x7003, and ABORTs that found no port UP are sent (R349). WDRAWN stays while its own tile withdraws. -/
def State.portUpNow (s : State) (p : Nat) : State :=
  let s := s.setLts p 7
  let s := s.setField (Reg.fabPortStat p) 14 1 (b2n (s.flag Reg.fabStat (2 + p / 6)))
  let s := s.raise 0x7003 (4, p) [(8, p), (8, 7)]
  let stuck := s.fab.stuck
  stuck.foldl (fun s q => s.floodOut q 12) { s with fab := { s.fab with stuck := [] } }

/-- The training state a port is in; that of a training in MISWIRE, where LTS stays 8 (R202). -/
def State.training (s : State) (p : Nat) : Nat := if s.lts p = 8 then (s.port p).hidden else s.lts p

/-- A port goes on to a training state; in MISWIRE LTS does not show it. -/
def State.trainTo (s : State) (p v : Nat) : State :=
  if s.lts p = 8 then s.modPort p (fun x => { x with hidden := v, since := s.time.count }) else s.setLts p v

/-- A training state finishes its action and the port moves on, to MISWIRE, or to UP (R212). -/
def State.trainDone (s : State) (port : Nat) (found : TrainResult) : State :=
      let st := s.training port
      if st ≤ 3 then
        let lanes := s.trained port found.lanes
        if popCount 17 lanes < 16 then s.fewLanes port st lanes
        else if st = 3 then ((s.setField (Reg.fabPortStat port) 13 1 0).setLanes port lanes found.skew).trainTo port 4
        else s.trainTo port (st + 1)
      else if st = 4 then
        let k := Reg.fabPortStat port
        let s := (s.setField k 15 15 found.node).setField k 30 4 found.port
        if s.partnerOk port found.node found.port then s.setLts port 5
        else
          (s.setLts port 8).raise 0x7001 (4, port)
            [(8, port), (16, s.own.node), (16, found.node), (8, found.port)]
      else if st = 5 then
        (s.modPort port (fun x => { x.down with owed := (List.range 8).map vcDepth })).setLts port 6
      else s.portUpNow port

/-- Whether ports may leave LT3: FAB_NODE.VALID is set, and the last write that set it was latched (R212, R236). -/
def State.identityReady (s : State) : Bool := s.fab.latch.isSome && s.flag Reg.fabNode 15 && !s.fab.refused

/-- The limit of a training state in ns: LT1 from the seeds where FULLEQ is 0 and calibration section 0 was loaded (R212, R477). -/
def State.trainLimit (s : State) (p st : Nat) : Nat :=
  if st = 1 then 10000000
  else if st = 2 then (if !s.flag (Reg.fabPortCtl p) 2 && s.flag Reg.calStat 0 then 20000000 else 250000000)
  else if st = 3 then 2000000
  else 1000000

/-- TRAINING_STATE_TIMEOUT: a state exceeds its limit; the attempt fails, is counted, and the next starts 100 ms later (R212). -/
def execTrainingStateTimeout (port : Nat) (s : State) : Host.Outcome State Fault Refusal :=
  act (fun s => decide (port < 12) && decide (1 ≤ s.training port ∧ s.training port ≤ 6) &&
      (s.training port != 4 || s.identityReady) &&
      decide ((s.port port).since + s.trainLimit port (s.training port) < s.time.count))
    (fun s => s.trainFail port (s.training port)) s

/-- TRAIN_RETRY: 100 ms after a failed attempt, or in MISWIRE, the port trains again (R202, R212). -/
def execTrainRetry (port : Nat) (s : State) : Host.Outcome State Fault Refusal :=
  act (fun s => decide (port < 12) && s.flag (Reg.fabPortCtl port) 0 && s.tileUp (port / 6) &&
      ((s.lts port == 0 && (s.port port).retry) || (s.lts port == 8 && (s.port port).hidden == 0)) &&
      decide ((s.port port).since + 100000000 ≤ s.time.count))
    (fun s => if s.lts port = 8 then s.trainTo port 1 else s.startTraining port) s

/-- A write of FAB_PORT_CTL (R239): EN 0 holds the port DOWN, EN 1 lets one that was held train, RETRAIN sends it to LT0, in MISWIRE
without leaving that state (R202). -/
def State.portCtlWrite (s : State) (port v : Nat) : State :=
  let k := Reg.fabPortCtl port
  let was := s.flag k 0
  let s := (((s.setField k 0 1 v).setField k 2 1 (v / 4)).setField k 8 12 (v / 256))
  let en := bit v 0 && s.tileUp (port / 6)
  if s.portUp port then (if en && !bit v 1 then s else s.portDown port 3)
  else if !en then
    if s.lts port = 0 then s.modPort port (fun x => { x with retry := false })
    else ((s.setField (Reg.fabPortLane port) 0 17 0).modPort port (fun x => { x with retry := false })).setLts port 0
  else if bit v 1 && s.lts port == 8 then s.trainTo port 1
  else if bit v 1 || !was then s.startTraining port
  else s

/-- RETRAIN: a write of FAB_PORT_CTL with RETRAIN = 1 (R239). -/
def execRetrain (pf port : Nat) (value : BitVec 64) (s : State) : Host.Outcome State Fault Refusal :=
  act (fun _ => decide (port < 12) && value.getLsbD 1)
    (fun s => match s.writeRefusal pf (Reg.fabPortCtl port) with
      | some k => s.refuse k pf false (Reg.fabPortCtl port)
      | none => s.portCtlWrite port value.toNat) s

/-- PORT_ENABLE_WRITE: a write of FAB_PORT_CTL without RETRAIN (R239). -/
def execPortEnableWrite (pf port : Nat) (value : BitVec 64) (s : State) : Host.Outcome State Fault Refusal :=
  act (fun _ => decide (port < 12) && !value.getLsbD 1)
    (fun s => match s.writeRefusal pf (Reg.fabPortCtl port) with
      | some k => s.refuse k pf false (Reg.fabPortCtl port)
      | none => s.portCtlWrite port value.toNat) s

/-! ### Transmission and transit (R219-R226) -/

/-- Whether a port may begin a header: UP, and not at or past the time of its partner's withdrawal (R233). -/
def State.maySend (s : State) (p : Nat) : Bool :=
  s.portUp p && (match (s.port p).wdT with | some t => decide (s.nowA < t) | none => true)

/-- Frames a packet takes at most. -/
def framesFor (q : Packet) : Nat := flitsIn q / 9 + 1

/-- A packet sent is kept in mind by its last frame until that is acknowledged (R208). -/
def State.noteSent (s : State) (p : Nat) : State := s.modPort p (fun x => { x with sent := x.sent ++ [(x.txSeq + 255) % 256] })

/-- PACKET_TRANSMIT: waiting packets are offered their outputs, and the packet that arbitration picks is sent whole (R205, R219,
R220); its tile has made progress (R336). -/
def execPacketTransmit (port : Nat) (s : State) : Host.Outcome State Fault Refusal :=
  actLive (fun s => decide (port < 12) && s.maySend port)
    (fun s =>
      let s := s.offerAll.modPort port (fun x => x.linkRetry 64)
      let s := s.floodRetry port
      match (s.port port).pick with
      | none => s
      | some (q, x) =>
        if x.room (framesFor q) then
          let s := ((s.setPort port x).sendFrames port (flitsIn q + 1) (q.header :: q.payload)).noteSent port
          let s := (s.timeSent port q).progress (0x2000 + port / 6)
          ((s.count (Reg.fabPktTx port)).portEvent port 0x101 (flitsIn q)).sentFlits port q.vc (flitsIn q)
        else s) s

/-- Whether a packet is none that a unit of the module receives: a reserved TYPE or SUB, a WITHDRAW that is not of the link, or a flood
of a type that is not flooded. -/
def Packet.homeless (p : Sys2Proof.Packet) : Bool :=
  decide (7 < p.type) ||
  (p.type == tyCtrl && !(p.sub == 1 || p.sub == 2 || (p.sub == 3 && p.plane == 0) || p.sub == 4 ||
    decide (0x10 ≤ p.sub ∧ p.sub ≤ 0x15))) ||
  (p.flood == 1 && !(p.type == tyAbort || p.type == tyTime || (p.type == tyCtrl && p.sub == 2)))

/-- The tile of a port, or the tile a bridge leads to. -/
def tileOf (port : Nat) : Nat := if port = 13 then 1 else if port = 14 then 0 else port / 6

/-- Whether a packet at the head of a VC must cross the bridge: the output it takes, or the escape port it waits for, is on the other
tile (R224). -/
def State.crosses (s : State) (port : Nat) (p : Packet) : Bool :=
  match s.hop p port with
  | .out o _ => o / 6 != tileOf port
  | .wait => match (s.own.escape p.dst).bind (s.dirPort (if p.plane = 2 then 1 else 0)) with
    | some o => o / 6 != tileOf port
    | none => false
  | .drop _ => false

/-- Whether the buffer of a bridge has room for a packet on its VC: the depths of R218. -/
def Port.hasRoom (x : Port) (p : Packet) : Bool :=
  decide (((x.rx[p.vc]?).getD []).foldl (fun n r => n + flitsIn r.packet) 0 + flitsIn p ≤ vcDepth p.vc)

/-- A packet crosses the bridge where its buffer has room: PLANE is rewritten and the crossing counted (R219, R224). -/
def State.cross (s : State) (port vc : Nat) (r : RxPacket) : State :=
  let f := tileOf port
  if !(s.port (13 + f)).hasRoom r.packet then s
  else
    let s := s.popHead port vc
    let p := (r.packet.setField 86 2 (2 - f)).seal
    let s := s.modPort (13 + f) (fun x => x.push p.vc s.time.count { r with packet := p })
    (s.count Reg.fabBridgeXing).portEvent port 0x106 (flitsIn p)

/-- TRANSIT_PACKET: the packet at the head of a VC that is for another node takes an output, crosses the bridge, waits, or is dropped
and counted (R222-R225); one at its destination that names no unit fails check 5, a flood of it behind check 4 (R231). Ports
13 and 14 are the bridges. -/
def execTransitPacket (port vc : Nat) (s : State) : Host.Outcome State Fault Refusal :=
  actLive (fun s => (match s.head port vc with
      | some r => s.inTransit port r.packet || Packet.homeless r.packet
      | none => false))
    (fun s => match s.head port vc with
      | none => s
      | some r =>
        if !s.inTransit port r.packet then
          if r.packet.flood = 1 then
            let q := (s.popHead port vc).floodSeen (Packet.floodKey r.packet)
            if q.1 then (q.2.floodOut r.packet port).count Reg.fabDiscType else q.2.count Reg.fabDiscFlooddup
          else (s.popHead port vc).count Reg.fabDiscType
        else if s.crosses port r.packet then s.cross port vc r
        else match s.hop r.packet port with
          | .out o p => (s.popHead port vc).take o port r.packet p
          | .drop k => (s.popHead port vc).count k
          | .wait => s) s

/-- FAB_ROUTE_CTL.STALL in ns, 0 taken as 1 us (R236). -/
def State.stallLimit (s : State) : Nat := 1000 * max 1 (s.field Reg.fabRoute 8 8)

/-- STALL_DROP: a packet has waited at the head of its VC for STALL microseconds and is dropped (R225); port 12 stands for the
oldest packet of the module's own that waits for an output. -/
def execStallDrop (port vc : Nat) (s : State) : Host.Outcome State Fault Refusal :=
  actLive (fun s =>
      if port = loopback then match s.fab.waiting with
        | w :: _ => decide (w.since + s.stallLimit ≤ s.time.count)
        | [] => false
      else match s.head port vc with
        | some r => s.inTransit port r.packet && (s.hop r.packet port == .wait || s.crosses port r.packet) &&
            decide (((s.port port).headAt[vc]?).getD 0 + s.stallLimit ≤ s.time.count)
        | none => false)
    (fun s =>
      if port = loopback then
        match s.fab.waiting with
        | w :: t => ({ s with fab := { s.fab with waiting := t } }).count (Reg.fabDropStall (s.dropPort w.packet w.origin))
        | [] => s
      else match s.head port vc with
        | some r => (s.popHead port vc).count (Reg.fabDropStall (s.dropPort r.packet port))
        | none => s) s

/-- FLOOD_CREDIT_TIMEOUT: a flood copy without an output credit for 1 us is dropped at its port (R226). -/
def execFloodCreditTimeout (port : Nat) (s : State) : Host.Outcome State Fault Refusal :=
  actLive (fun s => decide (port < 12) && (match (s.port port).floods with
      | (q, t) :: _ => decide (s.credit port q.vc < flitsIn q ∧ t + 1000 ≤ s.time.count)
      | [] => false))
    (fun s => (s.modPort port (fun x => { x with floods := x.floods.drop 1 })).count (Reg.fabDropFlood port)) s

/-- FLOOD_SEEN_EXPIRE: an entry of the flood-seen table expires 200 us after it was made (R226). -/
def execFloodSeenExpire (index : Nat) (s : State) : Host.Outcome State Fault Refusal :=
  act (fun s => match s.fab.flood[index]? with
      | some e => decide (e.made + 200000 ≤ s.time.count)
      | none => false)
    (fun s => { s with fab := { s.fab with flood := s.fab.flood.eraseIdx index } }) s

/-! ### Withdrawal (R233, R237) -/

/-- Announces the withdrawal of a fabric tile: T in 10 us, a WITHDRAW on each of its UP ports, no more routing to them. -/
def State.announce (s : State) (f : Nat) : State :=
  let t := s.nowA + 10000
  let s := s.setFlag Reg.fabStat (2 + f)
  let s := { s with fab := { s.fab with wdT := Tab.put (Tab.erase s.fab.wdT (f + 2)) 0 f t } }
  let p := Packet.make [(0, 15, s.own.node), (16, 15, s.own.node), (71, 4, tyCtrl), (128, 32, s.nowA), (216, 8, 3),
    (288, 64, t)] []
  let s := ((List.range 6).map (· + 6 * f)).foldl (fun s port =>
    let s := if s.portUp port then
        s.linkSend port ((p.setField 68 3 6).setField 80 6 1).finish
      else s
    s.setFlag (Reg.fabPortStat port) 14) s
  s.raise 0x7008 (5, f) [(8, f), (64, t)]

/-- A write of FAB_WITHDRAW: GO announces the withdrawal of TILE; while the other tile is withdrawing or in reset it is ignored
and recorded (R233, R237). -/
def State.fabWithdrawWrite (s : State) (v : Nat) : State :=
  let f := b2n (bit v 0)
  if !bit v 1 then s
  else if s.flag Reg.fabStat (3 - f) || !s.tileUp (1 - f) then s.raise 0x7009 (8, 0) [(8, f)]
  else if s.flag Reg.fabStat (2 + f) || !s.tileUp f then s
  else s.announce f

/-- FAB_WITHDRAW_GO: a write of FAB_WITHDRAW (R237). -/
def execFabWithdrawGo (pf : Nat) (value : BitVec 64) (s : State) : Host.Outcome State Fault Refusal :=
  hostWrite pf Reg.fabWithdraw (fun s => s.fabWithdrawWrite value.toNat) s

/-- WITHDRAW_RECEIVE: a neighbour's WITHDRAW stops routing to the facing port, and sending on it from T (R233). -/
def execWithdrawReceive (port vc : Nat) (s : State) : Host.Outcome State Fault Refusal :=
  actLive (fun s => decide (port < 12) && (match s.head port vc with
      | some r => r.packet.linkLocal && r.packet.sub == 3
      | none => false))
    (fun s => match s.head port vc with
      | none => s
      | some r =>
        let t := r.packet.ext 0 64
        let s := (s.popHead port vc).setFlag (Reg.fabPortStat port) 14
        let s := s.modPort port (fun x => { x with wdT := some t })
        s.raise 0x7008 (4, port) [(8, port), (64, t)]) s

/-- WITHDRAW_T_REACHED: once T is past the withdrawing tile accepts no new header and drains; one received exactly at T is accepted
(R233). -/
def execWithdrawTReached (tile : Nat) (s : State) : Host.Outcome State Fault Refusal :=
  actLive (fun s => decide (tile < 2) && s.flag Reg.fabStat (2 + tile) && decide (Tab.get s.fab.wdT 0 tile < s.nowA))
    (fun s => { s with fab := { s.fab with wdT := Tab.put s.fab.wdT 0 (tile + 2) 1 } }) s

/-! ### Identity (R236) -/

/-- Whether FAB_NODE and FAB_DIM hold an identity that can be latched. -/
def NodeLatch.valid (l : NodeLatch) : Bool :=
  [0, 1, 2].all (fun k => decide (1 ≤ (l.dim k).1 ∧ (l.dim k).1 ≤ 32 ∧ (l.dim k).2 < (l.dim k).1))

/-- A write of FAB_NODE: with VALID = 1 the node and the ring sizes are latched together, which starts the limit of LT3 and leaves the
ports of dimensions of size 1 DOWN (R201, R212), or refused where they are invalid, which holds the ports that train in LT3
until a valid latch (R236). -/
def State.fabNodeWrite (s : State) (v : Nat) : State :=
  let s := s.setReg Reg.fabNode (v % 2 ^ 16)
  if !bit v 15 then s
  else
    let l : NodeLatch :=
      { node := v % 2 ^ 15, xd := s.field Reg.fabDim 0 6, yd := s.field Reg.fabDim 8 6, zd := s.field Reg.fabDim 16 6 }
    if l.valid then
      let s := { s with fab := { s.fab with latch := some l, refused := false } }
      (List.range 12).foldl (fun (s : State) p =>
        if s.unlinked p && decide (1 ≤ s.lts p ∧ s.lts p ≤ 6) then s.setLts p 0
        else if s.training p = 4 then s.modPort p (fun x => { x with since := s.time.count })
        else s) s
    else State.raise { s with fab := { s.fab with refused := true } } 0x700A (8, 0) [(64, s.reg Reg.fabNode), (64, s.reg Reg.fabDim)]

/-- FAB_NODE_WRITE (R236). -/
def execFabNodeWrite (pf : Nat) (value : BitVec 64) (s : State) : Host.Outcome State Fault Refusal :=
  hostWrite pf Reg.fabNode (fun s => s.fabNodeWrite value.toNat) s

end Sys2Proof.Machine
end

