-- ==== Sys2Proof/Machine/Capture.lean ====
section
/-! DEFINITION. Captures (R338-R343, R352): the units a capture reads and in what order, what a debug port gives of each, what each
unit waits for, and the suspects found in them. -/

namespace Sys2Proof.Machine
open Sys2Proof

/-- Whether the work a FENCE mask names is complete: CTL bit 0 (its GARVs), MAT bit 1, DMA bit 3 (its queue, and the fabric queue up
to issue), and bit 4 every fabric instruction. CTL and VEC complete every other instruction as it issues. -/
def Core.fenceClear (k : Core) (mask : Nat) : Bool :=
  (!bit mask 0 || k.runs.all (fun r => r.op.fn != 5)) &&
  (!bit mask 1 || (k.mat.queue.isEmpty && k.mat.passes.isEmpty && k.mat.drains.isEmpty && k.mat.scan.isNone &&
    k.mat.plane0.phase != .waiting && k.mat.plane0.phase != .loading && k.mat.plane1.phase != .waiting &&
    k.mat.plane1.phase != .loading)) &&
  (!bit mask 3 || (k.dma.isEmpty && k.fab.isEmpty)) &&
  (!bit mask 4 || (k.fab.isEmpty && k.runs.isEmpty))

/-- The units a capture reads in order: kinds 0 a core in full, 1 an NME, 2 a fabric tile, 3 a core in brief, 4 ST. -/
def State.captureUnits (s : State) (d u : Nat) (nmes : List Nat) : List (Nat × Nat) :=
  let cores := s.domCores d u
  let tiles := if d = domFabric then [u] else if d = domDevice then [0, 1] else []
  cores.map (fun c => (0, c)) ++ (sortBy (fun i => i) (domNmes d u ++ nmes)).map (fun i => (1, i)) ++ tiles.map (fun f => (2, f)) ++
  ((List.range 192).filter (fun c => !cores.contains c)).map (fun c => (3, c)) ++ [(4, 0)]

/-- A node of the wait-for graph (R343): kind in the low byte, index above. -/
def waitNode (kind index : Nat) : Nat := kind + 256 * (index % 2 ^ 24)

/-- The nodes a unit of a capture stands for. -/
def unitNodes (x : Nat × Nat) : List Nat :=
  if x.1 = 0 ∨ x.1 = 3 then [0, 1, 2, 3].map (fun e => waitNode 1 (4 * x.2 + e))
  else if x.1 = 1 then [waitNode 4 x.2]
  else if x.1 = 2 then (List.range 48).map (fun k => waitNode 5 (48 * x.2 + k))
  else []

/-- TS32 of a TIME_COUNT. -/
def State.ts32At (s : State) (count : Nat) : Nat := s.time.a.value count % 2 ^ 32

/-- What CTL of a core waits for, as (tail, head, SINCE, KIND): the semaphore of a SWAIT, the engines and fabric records of a FENCE,
and the engine that holds a register or has no room for the instruction it would issue next (R343). -/
def State.ctlWaits (s : State) (c : Nat) : List (Nat × Nat × Nat × Nat) :=
  let k := s.core c
  let ctl := waitNode 1 (4 * c)
  (match Tab.find s.queues.stalls c with
   | some w => [(ctl, w.2.1, w.2.2, w.1)]
   | none => []) ++
  (match k.wait with
   | .sem x n _ start _ _ =>
     [(ctl, if bit x.im 12 then waitNode 3 (n % 4096) else waitNode 2 (256 * c + n % 256), start % 2 ^ 32, 1)]
   | .fence x start _ =>
     let on (e : Nat) : List (Nat × Nat × Nat × Nat) :=
       if bit x.im e && !k.fenceClear (2 ^ e) then [(ctl, waitNode 1 (4 * c + e), start % 2 ^ 32, 3)] else []
     on 1 ++ on 3 ++
     (if bit x.im 4 then k.runs.zipIdx.map (fun r => (ctl, waitNode 7 (64 * c + r.2), start % 2 ^ 32, 3)) else [])
   | _ => [])

/-- What the fabric records of a core wait for: the nodes their packets went to. -/
def State.recordWaits (s : State) (c : Nat) : List (Nat × Nat × Nat × Nat) :=
  (s.core c).runs.zipIdx.flatMap (fun (r : FabRun × Nat) =>
    (s.fab.recs.filter (fun e => e.owner == E2eOwner.core c r.1.op.id)).map (fun (e : E2e) =>
      (waitNode 7 (64 * c + r.2), waitNode 6 e.dst, s.ts32At e.sentAt, 5)))

/-- What the forwards of an NME wait for. -/
def State.nmeWaits (s : State) (i : Nat) : List (Nat × Nat × Nat × Nat) :=
  (s.fab.recs.filter (fun e => match e.owner with | .forward j _ => j == i | _ => false)).map (fun (e : E2e) =>
    (waitNode 4 i, waitNode 6 e.dst, s.ts32At e.sentAt, 5))

/-- What the packet at the head of a port's VC waits for: credits of its escape channel. -/
def State.portWaits (s : State) (p v : Nat) : List (Nat × Nat × Nat × Nat) :=
  match s.head p v with
  | some r =>
    if s.inTransit p r.packet && s.hop r.packet p == .wait then
      match s.own.escape r.packet.dst with
      | some d => match s.dirPort (p / 6) d with
        | some o => [(waitNode 5 (8 * p + v), waitNode 5 (8 * o + (s.own.escapeVc r.packet d).1), r.stampA / 16 % 2 ^ 32, 2)]
        | none => []
      | none => []
    else []
  | none => []

/-- A core as its debug port gives it (R339): vector registers, core store, accumulators and planes are not read, and the first four
entries of each queue are. -/
def Core.captured (k : Core) : Core :=
  let plane (p : Plane) : Plane := { p with elems := [], scales := [] }
  let mat := { k.mat with acc := [], plane0 := plane k.mat.plane0, plane1 := plane k.mat.plane1, queue := k.mat.queue.take 4 }
  { k with v := [], store := [], mat := mat, dma := k.dma.take 4, fab := k.fab.take 4 }

/-- Reads a unit through its debug port (R339): the time of the reading, and LCYC and CST of the unit's region. -/
def State.captureUnit (s : State) (x : Nat × Nat) : CaptureRec :=
  let region := if x.1 = 0 ∨ x.1 = 3 then 1 else if x.1 = 1 then 3 else if x.1 = 2 then 5 else 8
  let o := s.origin (region, x.2)
  let r (body : Captured) (waits : List (Nat × Nat × Nat × Nat)) : CaptureRec :=
    { kind := x.1, index := x.2, time := s.nowA, lcyc := o.1, cst := o.2, body := body, waits := waits }
  let ports := (List.range 6).map (· + 6 * x.2)
  if x.1 = 0 then
    r (.core (s.core x.2).captured (s.fab.recs.filter (fun e => e.coreOf == some x.2))) (s.ctlWaits x.2 ++ s.recordWaits x.2)
  else if x.1 = 1 then r (.nme (s.nme x.2)) (s.nmeWaits x.2)
  else if x.1 = 2 then
    r (.tile (ports.map s.port) (ports.map s.lts)) (ports.flatMap (fun p => (List.range 8).flatMap (s.portWaits p)))
  else if x.1 = 3 then r (.brief (s.core x.2).pc (s.core x.2).wait) (s.ctlWaits x.2)
  else
    let piste := (List.range 16).flatMap (fun e => [Reg.fabPisteA e])
    let recq := (List.range 8).flatMap (fun q => [Reg.rstRecqA q, Reg.rstRecqB q])
    r (.st s.devSems s.gate.slots ((piste ++ recq).map (fun k => (k, BitVec.ofNat 64 (s.reg k))))) []

/-- The records of the units of a capture: those an earlier one has taken stay (R344), the others are read. -/
def State.captureAll (s : State) (units : List (Nat × Nat)) (old : List CaptureRec) : List CaptureRec :=
  units.map (fun x => match old.find? (fun r => r.kind == x.1 && r.index == x.2) with
    | some r => r
    | none => s.captureUnit x)

/-- The records with one unit not captured: its record holds nothing but its header (R340). -/
def missingAt (l : List CaptureRec) (part : Nat) : List CaptureRec :=
  l.modify part (fun r => { r with body := .missing, waits := [] })

/-- Bytes of a unit's record (R339); of a unit not captured, its header alone: the reading's time, and LCYC, CST and NOTCAP (R340;
DESIGN CHOICE, log 98: no rule lays the header out). -/
def CaptureRec.size (r : CaptureRec) : Nat :=
  if r.body = .missing then 16
  else if r.kind = 0 then 4096 else if r.kind = 1 then 2048 else if r.kind = 2 then 8192 else if r.kind = 3 then 64 else 65536

end Sys2Proof.Machine
end

