-- ==== Sys2Proof/Machine/CkpBase.lean ====
section
/-! DEFINITION. When a checkpoint starts, waits or ends before its image is complete (R362, R365, R367, R369). -/

namespace Sys2Proof.Machine
open Sys2Proof

/-! ### What a checkpoint covers (R362) -/

/-- The slot that committed a step of a job: COMMITTED or DONE. -/
def State.committedSlot (s : State) (job step : Nat) : Option Nat :=
  (List.range 32).find? (fun k => (s.slotState k == 4 || s.slotState k == 5) && s.slotJob k == job && s.slotStep k == step)

/-- The latest committed step of the job served. -/
def State.latestStep (s : State) : Option Nat :=
  match Tab.get s.gate.lastStep 0 s.ckpJob with
  | 0 => none
  | n + 1 => some n

/-- A handle as a checkpoint latches it: its descriptor, its optimizer descriptor and the committed bank. -/
def State.latchHandle (s : State) (e : GateEntry) : CkHandle × State :=
  let a := s.memRead (s.handleAddr e.handle) 64
  let h := Handle.ofBytes e.handle 0 0 0 a.1
  let b := a.2.2.memRead e.optd 64
  let o := OptDesc.ofBytes b.1
  ({ handle := e.handle, alg := o.alg, nbase := e.nbase, ncnt := e.ncnt, lanes := h.lanes, chunks := h.chunks,
     banka := o.banka, bankb := o.bankb, optd := e.optd, bankB := o.cur }, b.2.2)

/-- The first 256 OPTEN handles of a slot. -/
def State.latchHandles (s : State) (k : Nat) : List CkHandle × State :=
  (((s.slot k).entries.filter (·.opten)).take 256).foldl (fun (a : List CkHandle × State) e =>
    let r := a.2.latchHandle e
    (a.1 ++ [r.1], r.2)) ([], s)

/-- Granules of a bank on one NME: 12P bytes, or 8P without v. -/
def CkHandle.bankGranules (h : CkHandle) : Nat := (if h.alg = 0 then 3 else 2) * h.chunks

/-- Where a bank of a handle begins on an NME (R185). -/
def CkHandle.bank (h : CkHandle) (nme : Nat) (b : Bool) : Nat :=
  nme / 4 * 2 ^ 39 + (if b then h.bankb else h.banka) + nme % 4 * 12 * (16384 * h.chunks)

/-- The handles of an NME, each with the granule at which what it takes begins, counted from `g` by a size. -/
def placed (size : CkHandle → Nat) (nme : Nat) : Nat → List CkHandle → List (CkHandle × Nat)
  | _, [] => []
  | g, h :: t => if h.uses nme then (h, g) :: placed size nme (g + size h) t else placed size nme g t

/-- Snapshot granules an NME needs. -/
def snapNeed (hs : List CkHandle) (nme : Nat) : Nat :=
  ((hs.filter (fun h => h.uses nme)).map CkHandle.bankGranules).foldl (· + ·) 0

/-- SNAPOFF and SNAPSZ. -/
def State.snapArea (s : State) (nme : Nat) : Nat :=
  nme / 4 * 2 ^ 39 + s.field Reg.ckpSnap 0 39 + nme % 4 * (s.field Reg.ckpSnap 39 25 * granule)

/-- The start conditions of R367. -/
def State.ckpConditions (s : State) (hs : List CkHandle) (mfmt : Bool) : Bool :=
  let isz := s.field Reg.ckpArea 39 25
  let snapsz := s.field Reg.ckpSnap 39 25
  (s.pisteActive s.ckpJob).isSome &&
  (List.range 32).all (fun j =>
    [0, 1, 2, 3].all (fun g => s.inTile (j / 4) (s.area g j) s.isz) &&
    s.inTile (j / 4) (s.snapArea j) (snapsz * granule) &&
    decide (1 + ngr hs mfmt j + digestGranules (ngr hs mfmt j) ≤ isz) && decide (snapNeed hs j ≤ snapsz)) &&
  hs.all (fun h => h.banka % granule == 0 && h.bankb % granule == 0)

/-- ASIDE of a generation. -/
def State.aside (s : State) (g : Nat) : Bool := s.flag (Reg.ckpGenA g) 3

/-- The own generation a checkpoint or a fetch takes (R367). -/
def State.ckpChoose (s : State) : Nat :=
  let unused (g : Nat) : Bool := s.genState g == 0 || s.genState g == 7 || s.aside g
  if unused 0 then 0 else if unused 1 then 1
  else if s.reg (Reg.ckpGenB 1) < s.reg (Reg.ckpGenB 0) then 1 else 0

/-- Takes a generation for a new image: a stream of it stops, and its fields are those of the image to come. -/
def State.takeGen (s : State) (g trig step tcommit : Nat) : State :=
  let s := match s.ckp.mirror with
    | some m => if m.gen = g then s.mirrorStop else s
    | none => s
  let s := if s.ckp.next = some g then { s with ckp := { s.ckp with next := none } } else s
  (s.setReg (Reg.ckpGenA g) (1 + trig % 4 * 2 ^ 4 + step % 2 ^ 48 * 2 ^ 16)).setReg (Reg.ckpGenB g) tcommit

/-- A generation becomes INVALID with a code and its event. -/
def State.genInvalid (s : State) (g job step code : Nat) : State :=
  ((s.setGenState g 7).setVcode g code).ckpEvent 0x004 job step g [(8, code)]

/-! ### Protection by the controller (R367) -/

/-- CBWARM on every latched handle of an NME. -/
def State.sweepArm (s : State) (hs : List CkHandle) (j : Nat) : State :=
  let m := s.nme j
  let mine := (placed CkHandle.bankGranules j 0 hs).map (fun x =>
    ({ handle := x.1.handle, bank := x.1.bankB, base := x.1.bank j x.1.bankB, size := x.1.bankGranules * granule,
       snap := s.snapArea j + x.2 * granule, marks := [] } : Cbw))
  s.setNme j { m with cbw := m.cbw.filter (fun c => !hs.any (fun h => h.handle == c.handle)) ++ mine }

/-- CBWEND on every latched handle. -/
def State.sweepEnd (s : State) (hs : List CkHandle) : State :=
  (List.range 32).foldl (fun s j =>
    let m := s.nme j
    s.setNme j { m with cbw := m.cbw.filter (fun c => !hs.any (fun h => h.handle == c.handle)) }) s

/-! ### Starting and ending (R365, R367, R369) -/

/-- A trigger makes its checkpoint (R365, R367): the step is the latest committed one; nothing starts where an own generation holds
it already; a failed condition makes the chosen generation INVALID. The Nat is 0x0F where a condition failed or nothing is committed, else 0. -/
def State.ckpBegin (s : State) (trig : Nat) : Nat × State :=
  match s.latestStep.bind (fun n => (s.committedSlot s.ckpJob n).map (fun k => (n, k))) with
  | none => (0x0F, s.count Reg.ckpFail)
  | some (step, k) =>
    if [0, 1].any (fun g => (s.genState g == 2 || s.genState g == 4) && s.genStep g == step) then
      (0, (s.count Reg.ckpPend).ckpEvent 0x00B s.ckpJob step 0 [(8, trig)])
    else
      let mfmt := s.flag Reg.ckpCtl 13
      let job := s.ckpJob
      let tc := (s.slot k).tdec
      let l := s.latchHandles k
      let hs := l.1
      let s := l.2
      let g := s.ckpChoose
      let s := s.takeGen g trig step tc
      if !s.ckpConditions hs mfmt then (0x0F, (s.genInvalid g job step 0x0F).count Reg.ckpFail)
      else
        let run : CkRun := { gen := g, job := job, epoch := s.slotEpoch k, step := step, trig := trig, tcommit := tc,
                             mfmt := mfmt, handles := hs, committed := false, signing := false, startAt := s.time.count }
        let s := { s with ckp := { s.ckp with run := some run } }
        let s := (List.range 32).foldl (fun s j => s.sweepArm hs j) s
        let s := if trig = 1 then
            { (s.count Reg.ckpEarly) with ckp := { s.ckp with lastEarly := some s.time.count } }
          else s
        (0, (s.ckpEvent 0x001 job step g [(8, trig)]).ckpRefresh)

/-- A trigger acts (R365): 0 schedule, 1 early warning, 2 requested time, 3 command. During a checkpoint one is kept pending and
the rest are counted; two of one cycle make one checkpoint under the lower code. -/
def State.ckpTrigger (s : State) (trig : Nat) : State :=
  if !s.flag Reg.ckpCtl 0 then s
  else match s.ckp.run with
    | none => (s.ckpBegin trig).2
    | some r =>
      if r.startAt = s.time.count then
        if trig < r.trig then
          { (s.setField (Reg.ckpGenA r.gen) 4 2 trig) with ckp := { s.ckp with run := some { r with trig := trig } } }
        else s
      else match s.ckp.pend with
        | none =>
          let s := { s with ckp := { s.ckp with pend := some (trig, s.time.count) } }
          (s.ckpEvent 0x00B r.job r.step r.gen [(8, trig)]).ckpRefresh
        | some p =>
          if p.2 = s.time.count then { s with ckp := { s.ckp with pend := some (min p.1 trig, p.2) } }
          else (s.count Reg.ckpPend).ckpEvent 0x00B r.job r.step r.gen [(8, trig)]

/-- The checkpoint in progress is over: its protection ends, and a pending trigger starts. -/
def State.ckpOver (s : State) : State :=
  match s.ckp.run with
  | none => s
  | some r =>
    let s := s.sweepEnd r.handles
    let pend := s.ckp.pend
    let s := { s with ckp := { s.ckp with run := none, pend := none } }
    (match pend with
     | some p => if s.flag Reg.ckpCtl 0 then (s.ckpBegin p.1).2 else s
     | none => s).ckpRefresh

/-- The checkpoint in progress fails with a code. -/
def State.ckpBreak (s : State) (code : Nat) : State :=
  match s.ckp.run with
  | none => s
  | some r => (s.genInvalid r.gen r.job r.step code).ckpOver

/-- An NME reset meets a sweep (R369): its NME arms again from the start, or, after a commit of the job since the start, the
generation is lost. -/
def State.ckpNmeReset (s : State) (j : Nat) : State :=
  match s.ckp.run with
  | none => s
  | some r =>
    if r.signing then s
    else if r.committed then s.ckpBreak 0x0E
    else ((s.sweepArm r.handles j).count Reg.ckpSweepRestart).ckpEvent 0x00C r.job r.step r.gen []

/-- A step of a job has committed (R365, R369): a sweep notes it, and the schedule triggers. -/
def State.ckpCommitted (s : State) (job step : Nat) : State :=
  if job ≠ s.ckpJob then s
  else
    let s := match s.ckp.run with
      | some r => if r.job = job then { s with ckp := { s.ckp with run := some { r with committed := true } } } else s
      | none => s
    let period := s.field Reg.ckpCtl 27 20
    if period ≠ 0 ∧ step % period = 0 then s.ckpTrigger 0 else s

/-- JOB written to TEARDOWN, or a warm device reset (R369): a WRITING generation is lost, a MIRRORING one returns to SIGNED. -/
def State.ckpInterrupt (s : State) : State :=
  let s := { s with ckp := { s.ckp with next := none } }
  (s.ckpBreak 0x0E).mirrorStop

/-! ### The fetch of a restore (R374) -/

/-- The GET of n bytes of a restore's source at an address, into an address of this module. -/
def State.restoreGet (s : State) (c : CkCmd) (src dst n : Nat) : State :=
  let job := s.ckpJob
  let epoch := match s.pisteOf job with | some e => s.pisteEpoch e | none => 0
  (cutAll [(src, n)] 0).foldl (fun (s : State) t =>
    s.newRecord { E2e.blank with
      type := tyGet, dst := c.srcnode, job := job, epoch := epoch, stepl := c.step % 2 ^ 16, addr := t.1,
      ext := (t.2.2 + 63) / 64 * 64, dest := some (none, dst + t.2.1, t.2.2), owner := .restore }) s

/-- Fetches n bytes from the start of a granule of an NME's area: the source hosts it at PMOFF. -/
def State.restoreBytes (s : State) (c : CkCmd) (nme gran n : Nat) : State :=
  s.restoreGet c (areaAt s.pmoff s.isz c.gen nme + gran * granule) (s.area c.into nme + gran * granule) n

/-- Whether packets of a fetch are unanswered. -/
def Fabric.restoring (f : Fabric) : Bool := f.recs.any (fun r => r.owner == E2eOwner.restore)

/-- Whether the images of all NMEs fit their areas, as the manifest of a generation counts them. -/
def State.manifestFits (s : State) (g : Nat) : Bool :=
  (List.range 32).all (fun j =>
    decide (1 + s.manifestNgr g j + digestGranules (s.manifestNgr g j) ≤ s.field Reg.ckpArea 39 25))

/-- A GET of the fetch has been answered: the manifest names the granules of the image, which follow one by one. -/
def State.restoreNext (s : State) : State :=
  match s.ckp.cmd with
  | none => s
  | some c =>
    if !c.fetching ∨ c.failed ∨ s.fab.restoring then s
    else
      let left := if c.manifest then c.left.drop 1
        else if s.manifestFits c.into then imageGranules (s.manifestNgr c.into) else []
      let c := { c with manifest := true, left := left }
      let s := { s with ckp := { s.ckp with cmd := some c } }
      match left with
      | (j, g) :: _ => s.restoreBytes c j g granule
      | [] => s

end Sys2Proof.Machine
end

