-- ==== Sys2Proof/Machine/Recovery.lean ====
section
/-! DEFINITION. Faults, ABORT and recovery (R305, R332-R348): what a reset of each domain does to its units, the sending and the
acceptance of an ABORT, the recovery queue, and the faults of cores and NMEs. -/

namespace Sys2Proof.Machine
open Sys2Proof

/-! ### Resets of units (R332, R334) -/

/-- Drops the fabric records of a core: its instructions never complete, and what still answers those sent is absorbed (R334). -/
def State.dropCoreRecords (s : State) (c : Nat) : State :=
  let gone := s.fab.recs.filter (fun r => r.coreOf == some c && decide (0 < r.sends))
  { s with fab := { s.fab with recs := s.fab.recs.filter (fun r => r.coreOf != some c), ghosts := s.fab.ghosts ++ gone } }

/-- ORs VSTS.FLAGS into the FLAGS of HIF_CSTAT, as at the end or stop of a program (R120, R151). -/
def State.foldFlags (s : State) (c : Nat) : State :=
  s.setField (Reg.hifCstat c) 3 5 (s.field (Reg.hifCstat c) 3 5 ||| (bits (s.core c).vsts.toNat 0 5))

/-- Resets one engine of a core: 0 CTL, 1 MAT, 2 VEC, 3 DMA. The mode word and the anchor slots are the core's own. -/
def State.engineReset (s : State) (c e : Nat) : State :=
  if e = 0 then s.modCore c (fun k => { k with wait := .none, region := none })
  else if e = 1 then s.modCore c (fun k => { k with mat := { Matrix.reset with mmw := k.mat.mmw } })
  else if e = 2 then s
  else (s.modCore c (fun k => { k with dma := [], fab := [], runs := [] })).dropCoreRecords c

/-- Resets the four engines of a core. -/
def State.enginesReset (s : State) (c : Nat) : State := [0, 1, 2, 3].foldl (fun s e => s.engineReset c e) s

/-- The cycle count of a region starts anew with its reset domain (R264). -/
def State.regionReset (s : State) (kind index : Nat) : State :=
  let r := s.region kind index
  s.setRegion kind index { r with cyc := 0, mark := s.time.count, startAt := none, stretchAt := none }

/-- Resets a core: engines, registers, core semaphores, anchor slots, MMW, its counters and their select registers (R411);
core store reads zero. -/
def State.coreReset (s : State) (c : Nat) : State :=
  let s := (s.enginesReset c).modCore c (fun k => { Core.reset with ctx := k.ctx })
  (s.resetRegs (Reg.pmcCore c) (Reg.pmcCore c + 0x148)).regionReset 1 c

/-- The NMEs an entry resets. -/
def State.recNmes (s : State) (q : Nat) : List Nat := domNmes (s.recDomain q) (s.recUnit q) ++ (s.recEntry q).nmes

/-- Stands in an event for an entry index or unit that does not apply. -/
def noIndex : Nat := 0xFFFF

/-- The entry whose reset takes an NME, with its cause. -/
def State.nmeEntry (s : State) (i : Nat) : Nat × Nat :=
  match s.recLive.find? (fun q => s.recState q == 2 && (s.recNmes q).contains i) with
  | some q => (q, s.recCause q)
  | none => (noIndex, 0)

/-- Resets an NME (R173, R334): additions in progress, windows and armed handles are discarded, its forwards and releases stop,
a ring command in progress waits to run again, and copy-before-write protection is lost with event 0x00E. -/
def State.nmeReset (s : State) (i : Nat) : State :=
  let handles := (s.nme i).armed.map (fun a => a.desc.handle)
  let s := handles.foldl (fun s h => s.disarmOn i h) s
  let m := s.nme i
  let s := { s with fab := { s.fab with recs := s.fab.recs.filter (fun r =>
    match r.owner with | .forward j _ => j != i | .marker j _ => j != i | _ => true) } }
  let found := match m.run with | some r => r.cmd :: m.found | none => m.found
  let s := s.setNme i { m with windows := [], spilled := [], found := found, run := none, cbw := [], running := false,
                               waiting := m.waiting.filter (fun h => !h.dedup) }
  let s := s.setField (Reg.nmeStat i) 0 1 0
  let q := s.nmeEntry i
  let s := m.cbw.foldl (fun s c => s.raise 0x300E (3, i) [(16, q.1), (8, domNme), (16, i), (8, q.2), (16, c.handle)]) s
  (s.regionReset 3 i).ckpNmeReset i

/-- Resets the counters of a tile and their select registers (R411). -/
def State.tileCountersReset (s : State) (t : Nat) : State := s.resetRegs (Reg.pmcTile t) (Reg.pmcTile t + 0x408)

/-- Packets a port holds whole: in its receive buffers, on their way out, and flood copies that wait for credits. -/
def Port.packets (x : Port) : List Packet :=
  x.rx.flatten.map (fun (r : RxPacket) => r.packet) ++ x.linkq ++ x.outq.map (fun q => q.packet) ++ x.floods.map (fun q => q.1)

/-- Packets a port holds, those partly received or partly sent among them. -/
def Port.held (x : Port) : Nat := x.packets.length + x.partials

/-- Resets a fabric tile (R233, R332): the packets in it and in the bridge to it are dropped and counted, its ports go DOWN, and its port registers and
counters take their Reset values. -/
def State.fabricReset (s : State) (f : Nat) : State :=
  let ports := (List.range 6).map (· + 6 * f)
  let s := ports.foldl (fun (s : State) p =>
    let s := s.countN Reg.fabDropWithdraw (s.port p).held
    let s := if s.portUp p then s.raise 0x7002 (4, p) [(8, p), (8, 4)] else s
    let s := s.setPort p Port.reset
    s.setField Reg.fabStat (4 + p) 1 0) s
  let b := 14 - f
  let s := (s.countN Reg.fabDropWithdraw (s.port b).held).setPort b Port.reset
  let s := s.resetRegs (Reg.fabPort (6 * f)) (Reg.fabPort (6 * f + 6))
  let s := ((s.setField Reg.fabStat f 1 0).setField Reg.fabStat (2 + f) 1 0).tileCountersReset (8 + f)
  let s := s.regionReset 5 f
  { s with fab := { s.fab with wdT := Tab.erase (Tab.erase s.fab.wdT f) (f + 2) },
           time := { s.time with ports := s.time.ports.filter (fun e => !(e.1 / 6 == f)) } }

/-! ### ABORT (R346-R348) -/

/-- The step an ABORT of a job names where no program faulted (R346). -/
def State.abortStep (s : State) (job : Nat) : Option Nat :=
  let steps := ((List.range 32).filter (fun k => (s.slotState k == 1 || s.slotState k == 2 || s.slotState k == 3 ||
    s.slotState k == 6) && s.slotJob k == job)).map s.slotStep
  match steps with
  | x :: t => some (t.foldl min x)
  | [] =>
    match Tab.find s.gate.lastStep job with
    | some n => some n
    | none => Tab.find s.rst.launched job

/-- Stops the program of a core: its four engines are reset and it ends IDLE (R348). -/
def State.stopProgram (s : State) (c : Nat) : State :=
  let s := ((s.stopRun c).foldFlags c).enginesReset c
  let s := s.setCoreState c 0
  (s.count Reg.rstAbortStop).coreLeft c

/-- Stops every running program of a job and epoch whose step is at or after one; one that its own exception has stopped already ends
STOPPED (R154, R157). -/
def State.stopPrograms (s : State) (job : Nat) (epoch : Option Nat) (step : Nat) : State :=
  (List.range 192).foldl (fun s c =>
    let x := (s.core c).ctx
    if s.coreState c = 2 ∧ (s.core c).wait ≠ .stopped ∧ x.job = job ∧ (epoch.isNone ∨ epoch = some x.epoch) ∧ step ≤ x.step then s.stopProgram c else s) s

/-- An accepted ABORT acts (R348): the slot of its step, later slots, running programs, record. `place` is the entry, domain and unit
its event carries: of the module's own, those of the fault; of another's, the DOMAIN it names (R347, R361). -/
def State.abortDeliver (s : State) (job epoch step tf cause arrived : Nat) (place : Nat × Nat × Nat) : State :=
  let mine := (List.range 32).filter (fun k => s.slotJob k == job && s.slotEpoch k == epoch)
  let hit (s : State) (k : Nat) : Bool :=
    let st := s.slotState k
    (st == 1 || st == 2 || (st == 3 && decide (arrived ≤ (s.slot k).tc + commitDelay)) || st == 6) &&
    (if s.slotStep k = step then decide (tf ≤ (s.slot k).tc) || st == 6 else decide (step < s.slotStep k))
  let ks := mine.filter (hit s)
  let first := (ks.map s.slotStep).foldl min (if ks.isEmpty then step else 2 ^ 48)
  let s := ks.foldl (fun s k => s.abandon k cause) s
  let s := s.stopPrograms job (some epoch) first
  (s.count Reg.rstAbortRx).raise 0x3007 (8, 0) [(16, place.1), (8, place.2.1), (16, place.2.2), (8, cause), (64, tf)]
    (some (job, epoch, step))

/-- An ABORT packet (R347). -/
def abortPacket (job epoch step tf cause dom seq : Nat) : Packet :=
  Packet.make [(32, 12, job), (44, 8, epoch), (52, 16, step), (68, 3, 6), (71, 4, tyAbort), (96, 32, seq),
    (288, 48, step), (336, 64, tf), (400, 8, cause), (408, 3, dom)] []

/-- Sends an ABORT for a job's step, once for each (job, epoch, step), and delivers it to the module itself; `place` is the entry,
domain and unit of the fault. The Bool tells whether one had been sent before. -/
def State.sendAbort (s : State) (job epoch step cause : Nat) (place : Nat × Nat × Nat) : Bool × State :=
  if s.rst.sent.contains (job, epoch, step) then (true, s)
  else
    let tf := s.nowA
    let s := { s with rst := { s.rst with sent := s.rst.sent ++ [(job, epoch, step)] } }
    let q := s.floodSeq
    let s := q.2.originateAt (abortPacket job epoch step tf cause place.2.1 q.1) tf
    let s := (s.count Reg.rstAbortTx).raise 0x3006 (8, 0) [(16, place.1), (8, place.2.1), (16, place.2.2), (8, cause), (64, tf)]
      (some (job, epoch, step))
    (false, s.abortDeliver job epoch step tf cause tf place)

/-- Jobs a fault of a domain touches (R346), with their epochs and the steps their ABORTs name: the faulting program's first. A job
that has neither committed nor launched here has no step to abort. -/
def State.touchedJobs (s : State) (dom : Option (Nat × Nat)) (ctx : Option (Nat × Nat × Nat)) :
    List (Nat × Nat × Option Nat) :=
  let jobs := match dom with
    | none => []
    | some (d, u) =>
      ((s.domCores d u).filter (fun c => s.coreState c == 2)).map (fun c => (s.core c).ctx.job) ++
      (domNmes d u).flatMap (fun (i : Nat) => (s.nme i).armed.map (fun (a : Armed) => a.desc.job)) ++
      (if d = domDevice then s.liveSlots.map s.slotJob else [])
  let own := (ctx.toList.filter (fun x => !s.stops x.1)).map (fun x => (x.1, x.2.1, some x.2.2))
  (jobs.filter (fun j => !s.stops j)).foldl (fun l j =>
    if l.any (fun e => e.1 == j) then l
    else match s.pisteOf j with
      | some e => l ++ [(j, s.pisteEpoch e, s.abortStep j)]
      | none => l) own

/-- The job, epoch and step each ABORT of a fault names. -/
def State.touched (s : State) (dom : Option (Nat × Nat)) (ctx : Option (Nat × Nat × Nat)) : List (Nat × Nat × Nat) :=
  (s.touchedJobs dom ctx).filterMap (fun t => t.2.2.map (fun st => (t.1, t.2.1, st)))

/-! ### The recovery queue (R344, R345, R359) -/

/-- BUSY and QDEPTH follow the queue (R357). -/
def State.rstRefresh (s : State) : State :=
  let n := s.recLive.length
  (s.setField Reg.rstStat 0 1 (b2n (decide (0 < n)))).setField Reg.rstStat 1 4 n

/-- The job, epoch and step an entry's events carry: those of RST_RECQ_A, with the step of the first job touched. -/
def State.recContext (s : State) (q : Nat) : Option (Nat × Nat × Nat) :=
  let job := s.field (Reg.rstRecqA q) 22 12
  let epoch := s.field (Reg.rstRecqA q) 34 8
  if job = 0 then none else some (job, epoch, (s.recEntry q).step)

/-- An event of the reset controller about an entry: its index, domain, unit and cause, and its job where it has one (R361). -/
def State.rstEvent (s : State) (sub q : Nat) (more : List (Nat × Nat)) : State :=
  s.raise (0x3000 + sub) (8, 0) ([(16, q), (8, s.recDomain q), (16, s.recUnit q), (8, s.recCause q)] ++ more) (s.recContext q)

/-- Whether an entry's reset is a planned one of a fabric tile (R354). -/
def State.planned (s : State) (q : Nat) : Bool := s.recDomain q == domFabric && (s.recEntry q).requested

/-- Whether a logical number is unavailable: its core is quarantined or fused off, or none holds it (R4, R321). -/
def State.unavailable (s : State) (c : Nat) : Bool :=
  match s.physOf c with
  | some p => decide (5 ≤ s.grmState p)
  | none => true

/-- A core that an exception was stopping, as its reset takes it. -/
def Core.unstopped (k : Core) : Core := if k.wait = .stopped then { k with wait := .none } else k

/-- A core enters RESET in the reset of a domain (engine e of it where that is an engine's): its program, if it runs one, ends, its
screen is cut, and its units are reset. A quarantined core keeps STATE 5; one that CORESET returned regains its number only in
a partition or device reset (R3, R321, R323, R332). -/
def State.coreEnterReset (s : State) (d c e : Nat) : State :=
  let s := if s.coreState c = 2 then s.foldFlags c else s
  let s := if d = domEngine then (s.engineReset c e).modCore c Core.unstopped else (s.dropRun c).coreReset c
  if s.coreState c = 5 ∧ (s.unavailable c ∨ ¬ (d = domPartition ∨ d = domDevice)) then s
  else
    let was := s.coreState c
    let s := s.setCoreState c 4
    if was = 2 then s.coreLeft c else s

/-- Whether a unit is in the domain of an entry whose reset runs. -/
def State.resetting (s : State) (p : Nat → Nat → Bool) : Bool :=
  (List.range 8).any (fun q => s.flag (Reg.rstRecqA q) 0 && s.recState q == 2 && p (s.recDomain q) (s.recUnit q))

/-- Whether main-domain power is gone until the next cold power-on: after a thermal trip, a removal prepared, or the loss of the 54 V
input (R391, R466, R468). -/
def State.powerGone (s : State) : Bool := s.flag Reg.iskStat 48 || s.flag Reg.hifStat 8 || (s.host.mainLost && !s.host.running)

/-- A warm device reset begins (R332, R369, R470): NME registers take their Reset values (R196), device semaphores read zero, what a
checkpoint or a CKP_CMD was doing is broken off, a global stop ends (R431), and bring-up starts at BS2 where main-domain power has
not been removed for good. -/
def State.warmStart (s : State) : State :=
  let s := s.ckpInterrupt
  let s := { s with devSems := [], gstop := { s.gstop with stopped := [], capturing := [], records := [] },
                    ckp := { s.ckp with cmd := s.ckp.cmd.map (fun (c : CkCmd) => { c with broken := true }) } }
  let s := s.resetRegs (Reg.nmeCtl 0) (Reg.nmeCtl 32)
  if s.powerGone then s
  else
    let s := (s.setReg Reg.hifBs (2 + 2 ^ 32)).setReg Reg.hifBstart s.time.count
    let s := s.resetRegs (Reg.hifBst 0) (Reg.hifBst 10)
    { s with host := { s.host with running := true, stage := 2, stageStart := s.time.count, warm := true, waiting := false } }

/-- A fabric tile at the start of a device reset: one in service announces its withdrawal, and enters reset when that has run
(R233, R334); one that withdraws already goes on, and one that is out of service is in reset. -/
def State.fabricLeave (s : State) (f : Nat) : State :=
  if !s.tileUp f then (s.fabricReset f).setFlag Reg.rstStat (18 + f)
  else if s.flag Reg.fabStat (2 + f) then s
  else s.announce f

/-- The reset of a domain begins: every unit of it is reset, and what is in flight drains for 2 us (R332, R335). A partition or
device reset brings pending spares in (R321); a cluster reset stops its clocks, which lock again by its end. -/
def State.domReset (s : State) (d u : Nat) : State :=
  let s := (domNmes d u).foldl State.nmeReset s
  let s :=
    if d = domEngine then s.coreEnterReset d (u / 4) (u % 4)
    else (s.domCores d u).foldl (fun s c => s.coreEnterReset d c 0) s
  if d = domCluster then (s.domCores d u).foldl (fun (s : State) c => s.cutClock 1 c) s
  else if d = domPartition then ((s.tileCountersReset u).setFlag Reg.rstStat (10 + u)).startSpare u
  else if d = domFabric then (s.fabricReset u).setFlag Reg.rstStat (18 + u)
  else if d = domDevice then
    let s := [0, 1].foldl State.fabricLeave s
    let s := (List.range 8).foldl (fun (s : State) n => (s.tileCountersReset n).setFlag Reg.rstStat (10 + n)) s
    (List.range 8).foldl State.startSpare s.warmStart
  else s

/-- The reset of an entry starts (event 0x004). -/
def State.startReset (s : State) (q : Nat) : State :=
  let s := s.setField (Reg.rstRecqA q) 42 3 2
  let s := s.setRecEntry q { s.recEntry q with drainOpen := true, captured := true, startedAt := s.time.count }
  let s := (s.recEntry q).nmes.foldl State.nmeReset s
  (s.rstEvent 0x004 q []).domReset (s.recDomain q) (s.recUnit q)

/-! ### Capture (R338-R341, R419, R423) -/

/-- PMC_SHADOW of a core takes a copy of its counters: 16 programmable, then 8 fixed (R419). -/
def State.shadowCore (s : State) (c : Nat) : State :=
  let b := Reg.pmcCore c
  (List.range 24).foldl (fun (s : State) j =>
    s.setReg (b + 0x200 + 8 * j) (s.reg (b + if j < 16 then 8 * j else 0x100 + 8 * (j - 16)))) s

/-- PMC_TSHADOW of a tile takes a copy of its counters (R419). -/
def State.shadowTile (s : State) (t : Nat) : State :=
  (List.range 64).foldl (fun (s : State) j => s.setReg (Reg.pmcTile t + 0x600 + 8 * j) (s.reg (Reg.pmcTile t + 8 * j))) s

/-- The trace writer of a core writes END and is held for the dump (R423): 1 at a capture, 2 at a global stop. -/
def State.holdTrace (s : State) (c why : Nat) : State :=
  if s.flag (Reg.trcStat c) 13 then s
  else
    let s := if s.flag (Reg.trcCtl c) 0 then s.tracePut c 12 0 0 (BitVec.ofNat 64 why) else s
    s.setFlag (Reg.trcStat c) 13

/-- The tiles of a domain, numbered as the counter windows number them (R410). -/
def domTiles (d u : Nat) : List Nat :=
  if d = domPartition then [u] else if d = domFabric then [8 + u] else if d = domDevice then List.range 10 else []

/-- Suspects a unit of a capture shows as (job, epoch, launch entry, step), the entry for programs only (R352): the program of a core
of the domain, the jobs with a handle armed on an NME and that of its ring command in progress, or the jobs of the packets a tile
holds, transit and flood copies included. -/
def State.unitSuspects (s : State) (x : Nat × Nat) : List (Nat × Nat × Nat × Nat) :=
  if x.1 = 0 then
    if s.coreState x.2 = 2 ∨ s.coreState x.2 = 3 then
      [((s.core x.2).ctx.job, (s.core x.2).ctx.epoch, s.field (Reg.hifCstat x.2) 32 10, (s.core x.2).ctx.step)]
    else []
  else if x.1 = 1 then
    let m := s.nme x.2
    m.armed.map (fun (a : Armed) => (a.desc.job, a.desc.epoch, 0, a.desc.step)) ++
    (match m.run with
     | some r => (match m.find ((r.cmd.opnds[0]?).getD 0 % 65536) with
       | some a => [(a.desc.job, a.desc.epoch, 0, a.desc.step)]
       | none => [])
     | none => [])
  else if x.1 = 2 then
    ((List.range 6).map (· + 6 * x.2)).flatMap (fun (p : Nat) => (s.port p).packets.map (fun (q : Sys2Proof.Packet) =>
      (q.job, q.epoch, 0, q.stepl)))
  else []

/-- The capture of an entry begins on the units of its domain that an earlier one has not taken (R339, R344): counters are shadowed,
trace writers held, each unit read, and its suspects noted. -/
def State.captureBegin (s : State) (q : Nat) : State :=
  let d := s.recDomain q
  let u := s.recUnit q
  let r := s.recEntry q
  let units := s.captureUnits d u r.nmes
  let fresh := units.filter (fun x => r.records.all (fun o => !(o.kind == x.1 && o.index == x.2)))
  let sus := (fresh.flatMap s.unitSuspects).foldl (fun l x => if l.contains x then l else l ++ [x]) r.suspects
  let s := s.setRecEntry q { r with records := s.captureAll units r.records, suspects := sus }
  let s := (fresh.filter (fun x => x.1 == 0)).foldl (fun (s : State) x => (s.shadowCore x.2).holdTrace x.2 1) s
  (domTiles d u).foldl State.shadowTile s

/-- Whether every enabled port of a fabric tile is UP. -/
def State.portsUp (s : State) (f : Nat) : Bool :=
  ((List.range 6).map (· + 6 * f)).all (fun p => !s.flag (Reg.fabPortCtl p) 0 || s.portUp p)

/-- Work on an entry begins: its capture, or its reset at once where nothing is captured (R339). A planned fabric-tile reset
announces its withdrawal, unless the other tile is in reset or withdrawing: it then waits until that tile's ports are UP
(R354). -/
def State.startEntry (s : State) (q : Nat) : State :=
  let d := s.recDomain q
  let u := s.recUnit q
  let capture := s.flag Reg.rstCtl 1
  if s.planned q then
    let blocked := s.flag Reg.fabStat (3 - u) || !s.flag Reg.fabStat (1 - u) || ((s.recEntry q).waits && !s.portsUp (1 - u))
    if blocked then s.setRecEntry q { s.recEntry q with waits := true }
    else
      let s := if s.flag Reg.fabStat (2 + u) then s else s.announce u
      let s := (s.setField (Reg.rstRecqA q) 42 3 1).setRecEntry q { s.recEntry q with captured := !capture }
      if capture then s.captureBegin q else s
  else if capture ∧ !(d = domDevice ∧ (s.recEntry q).requested) then
    (s.setField (Reg.rstRecqA q) 42 3 1).captureBegin q
  else s.startReset q

/-- The controller takes the oldest entry if it works on none (R344). -/
def State.startNext (s : State) : State :=
  let s := match s.recLive with
    | q :: t =>
      let halted := s.stops 0 && !(s.recDomain q == domDevice && (s.recEntry q).requested)
      if halted || (q :: t).any (fun q => s.recState q != 0) then s else s.startEntry q
    | [] => s
  s.rstRefresh

/-- Writes a new queue entry, and raises its interrupt (R465). -/
def State.newEntry (s : State) (q d u cause : Nat) (job : Nat × Nat × Nat) (requested : Bool) : State :=
  let s := s.setReg (Reg.rstRecqA q) (1 + d * 2 + u % 1024 * 16 + cause % 256 * 2 ^ 14 + job.1 % 4096 * 2 ^ 22 +
    job.2.1 % 256 * 2 ^ 34)
  let s := s.setReg (Reg.rstRecqB q) s.nowA
  let s := s.setRecEntry q { Recovery.fresh with order := s.rst.next, requested := requested, step := job.2.2 }
  State.irq { s with rst := { s.rst with next := s.rst.next + 1 } } 1 4

/-- The entry a new one uses: one never used, else the one done longest ago. -/
def State.freeEntry (s : State) : Option Nat :=
  match (List.range 8).find? (fun q => !s.flag (Reg.rstRecqA q) 0) with
  | some q => some q
  | none => (sortBy (fun q => (s.recEntry q).order) ((List.range 8).filter (fun q => decide (3 ≤ s.recState q)))).head?

/-- How a fault was placed in the recovery queue (R344): merged into an entry or widened with one, in an entry of its own, or in the
device entry that an overflow of the queue makes. -/
inductive Placed where
  | merged (q : Nat)
  | own (q : Nat)
  | escalated (q : Nat)
deriving DecidableEq, Repr

/-- The entry a fault was placed in. -/
def Placed.entry : Placed → Nat
  | .merged q => q
  | .own q => q
  | .escalated q => q

/-- Widens an entry to hold another unit's domain (R344): a reset of it that runs is cut, what is not yet captured is captured, and the
wider reset follows. An NME-domain entry that grows keeps its NME among those it resets. -/
def State.widen (s : State) (q d u : Nat) : State :=
  let j := s.domJoin 8 (s.recDomain q, s.recUnit q) (d, u)
  let s := if s.recDomain q = domNme ∧ j.1 ≠ domNme then
      s.setRecEntry q { s.recEntry q with nmes := (s.recEntry q).nmes ++ [s.recUnit q] }
    else s
  let s := (s.setField (Reg.rstRecqA q) 1 3 j.1).setField (Reg.rstRecqA q) 4 10 j.2
  if s.recState q = 0 then s
  else
    let s := s.setRecEntry q { s.recEntry q with drainOpen := false, captured := false }
    if s.flag Reg.rstCtl 1 then (s.setField (Reg.rstRecqA q) 42 3 1).captureBegin q else s.startReset q

/-- A fault that needs a reset enters the queue (R344): merged, widened, placed, or escalated to one device entry. -/
def State.enqueue (s : State) (d u cause : Nat) (job : Nat × Nat × Nat) (requested : Bool) : Placed × State :=
  let live := s.recLive
  match live.find? (fun q => s.domInside d u (s.recDomain q) (s.recUnit q)) with
  | some q => (.merged q, s.rstEvent 0x008 q [])
  | none =>
    match live.find? (fun q => (domTile d u).isSome && domTile (s.recDomain q) (s.recUnit q) == domTile d u) with
    | some q => (.merged q, (s.widen q d u).rstEvent 0x008 q [])
    | none =>
      match (if live.length = 8 then none else s.freeEntry) with
      | some q => (.own q, (s.newEntry q d u cause job requested).startNext)
      | none =>
        let q := (live.head?).getD 0
        let s := live.foldl (fun (s : State) q => s.setField (Reg.rstRecqA q) 42 3 4) s
        let s := (s.count Reg.rstEscalate).setFlag Reg.rstStat 5
        let s := s.newEntry q domDevice 0 0x39 job false
        (.escalated q, (s.rstEvent 0x009 q []).startNext)

/-- Whether the reset of a unit for a fault of a cause ended within the last second (R333). -/
def State.endedLately (s : State) (d u cause : Nat) : Bool :=
  s.rst.ended.any (fun e => e.1 == d && e.2.1 == u && e.2.2.1 == cause && decide (s.time.count ≤ e.2.2.2 + 1000000000))

/-- The domain a fault is reset in: the next larger one for as long as the reset of the same unit for the same cause ended within
the last second (R333). -/
def State.climb (s : State) (cause : Nat) : Nat → Nat × Nat → Nat × Nat
  | 0, x => x
  | n + 1, x => if x.1 ≠ domDevice ∧ s.endedLately x.1 x.2 cause = true then s.climb cause n (s.domUp x.1 x.2) else x

/-- The domain a fault of a unit is reset in (R333). -/
def State.faultDomain (s : State) (d u cause : Nat) : Nat × Nat := s.climb cause 5 (d, u)

/-- An isolation trial whose cause recurs on its unit: event 0x00C with the entry the fault was placed in (R353, R361). -/
def State.isolation (s : State) (q d u cause : Nat) : State :=
  let k := Reg.rstIsol
  if s.flag k 0 && s.field k 1 3 == d && s.field k 4 10 == u && s.field k 34 8 == cause then
    (s.setFlag k 42).raise 0x300C (8, 0) [(16, q), (8, d), (16, u), (8, cause)] (some (s.field k 14 12, s.field k 26 8, 0))
  else s

/-- Adds a fault, by its own domain and by the one it was placed with, to the live entry that covers it. -/
def State.addFault (s : State) (own placed : Nat × Nat) (cause : Nat) : State :=
  match s.recLive.find? (fun q => s.domInside placed.1 placed.2 (s.recDomain q) (s.recUnit q)) with
  | none => s
  | some q =>
    let r := s.recEntry q
    s.setRecEntry q { r with faults := [(own.1, own.2, cause), (placed.1, placed.2, cause)].foldl (fun l x => if l.contains x then l else l ++ [x]) r.faults }

/-- An NME whose fault a partition reset covers is captured, as far as the capture runs, and reset with it (R344). -/
def State.addNme (s : State) (i : Nat) : State :=
  match s.recLive.find? (fun q => s.recDomain q == domPartition && s.recUnit q == i / 4) with
  | none => s
  | some q =>
    let r := s.recEntry q
    if r.nmes.contains i then s
    else
      let s := s.setRecEntry q { r with nmes := r.nmes ++ [i] }
      if s.recState q = 2 then s.nmeReset i
      else if s.recState q = 1 ∧ !r.captured ∧ s.flag Reg.rstCtl 1 then s.captureBegin q
      else s

/-- Sends the ABORTs of the jobs named; the Bool tells whether one had been sent before. -/
def State.sendAborts (s : State) (jobs : List (Nat × Nat × Nat)) (cause : Nat) (place : Nat × Nat × Nat) : Bool × State :=
  jobs.foldl (fun (a : Bool × State) t =>
    let b := a.2.sendAbort t.1 t.2.1 t.2.2 cause place
    (a.1 || b.1, b.2)) (false, s)

/-- A fault (R333): its domain, if it has one, enters the recovery queue, whose capture reads the units as the fault found them, and
its ABORTs go out for the jobs it touches. During a stop of the whole module it makes no entry and sends no ABORT (R430). -/
def State.fault (s : State) (dom : Option (Nat × Nat)) (cause : Nat) (ctx : Option (Nat × Nat × Nat))
    (abort requested : Bool) : State :=
  if s.stops 0 && !requested then s
  else
    let placed := dom.map (fun x => if requested then x else s.faultDomain x.1 x.2 cause)
    let touched := s.touched placed ctx
    let job := match s.touchedJobs placed ctx with | t :: _ => (t.1, t.2.1, t.2.2.getD 0) | [] => (0, 0, 0)
    match dom, placed with
    | some own, some (d, u) =>
      let device := s.touched (some (domDevice, 0)) none
      let e := s.enqueue d u cause job requested
      let q := e.1.entry
      let t := if requested then e.2 else e.2.isolation q own.1 own.2 cause
      let t := t.addFault own (d, u) cause
      let t := if own.1 = domNme then t.addNme own.2 else t
      let r := if abort then t.sendAborts touched cause (q, d, u) else (false, t)
      let t := match e.1 with
        | .escalated _ => (r.2.sendAborts device 0x39 (q, domDevice, 0)).2
        | _ => r.2
      match e.1 with
      | .merged _ => t.count Reg.rstMerged
      | _ => if r.1 then t.count Reg.rstMerged else t
    | _, _ =>
      let r := if abort then s.sendAborts touched cause (noIndex, 7, noIndex) else (false, s)
      if r.1 then r.2.count Reg.rstMerged else r.2

/-- Whether a classification section runs on a physical core. -/
def State.classifying (s : State) (p : Nat) : Bool :=
  match Tab.find s.grm.runs p with
  | some r => r.why == .classify
  | none => false

/-- A fault of a core (R155, R304, R333): RESIDUE and CHECK reset the engine that raised it, PARITY the core, FABDELIV and HBMUE
nothing; RESIDUE, CHECK and PARITY are charged to the physical core, before its reset where a classification section runs, which
fails by it (R305). A section on a core that runs no program touches no job. -/
def State.coreFault (s : State) (c code engine sub : Nat) : State :=
  let k := (s.core c).ctx
  let program := !(s.core c).package || s.coreState c == 3
  let dom := if code = 0x20 ∨ code = 0x21 then some (domEngine, 4 * c + engine)
    else if code = 0x22 then some (domCore, c) else none
  let src := if code = 0x20 then 1 else if code = 0x21 then 2 else 7
  let charge (s : State) : State := match dom, s.physOf c with
    | some _, some p => s.charge p src engine sub
    | _, _ => s
  let early := match s.physOf c with
    | some p => s.classifying p
    | none => false
  let s := if early then charge s else s
  let s := s.fault dom code (if program then some (k.job, k.epoch, k.step) else none) program false
  if early then s else charge s

/-- An NME fault (R169, R184, R198): recorded in NME_FAULT and the recorder, the handle stops, the ABORT starts; an NME reset
follows but for a failed forward. -/
def State.nmeFault (s : State) (i code handle addr : Nat) : State :=
  let k := Reg.nmeFault i
  let s := if s.flag k 24 then s.setFlag k 25
    else s.setReg k (code + handle % 65536 * 2 ^ 8 + 2 ^ 24 + s.reg k / 2 ^ 25 % 2 * 2 ^ 25 +
      addr / 2 ^ 14 % 2 ^ 34 * 2 ^ 30)
  let s := s.setFlag (Reg.nmeStat i) 1
  let m := s.nme i
  let ctx := (m.find handle).map (fun a => (a.desc.job, a.desc.epoch, a.desc.step))
  let s := s.raise 0x6001 (3, i) [(16, i), (8, code), (16, handle), (64, addr)] ctx
  let s := s.setNme i { m with armed := m.armed.map (fun a =>
    if a.desc.handle = handle then { a with phase := .stopped } else a) }
  let own := ctx.bind (fun x => (s.abortStep x.1).map (fun st => (x.1, x.2.1, st)))
  s.fault (if code = 0x08 ∨ code = 0x23 then none else some (domNme, i)) code own true false

end Sys2Proof.Machine
end

