-- ==== Sys2Proof/Machine/CoreCtl.lean ====
section
/-! DEFINITION. Control of a core: when an instruction issues (R112, R114), how every exception is raised, recorded and stops
the core (R154-R156), and how a core retires an instruction. -/

namespace Sys2Proof.Machine
open Sys2Proof

/-! ### Exception codes (R155) -/

def excIllegal : Nat := 0x01
def excRsvField : Nat := 0x02
def excFormat : Nat := 0x03
def excMode : Nat := 0x04
def excPassLim : Nat := 0x05
def excAnchor : Nat := 0x06
def excAlign : Nat := 0x07
def excHbmAddr : Nat := 0x08
def excSemOvf : Nat := 0x09
def excWaitTo : Nat := 0x0A
def excTwaitFar : Nat := 0x0B
def excAnchSrc : Nat := 0x0C
def excPriv : Nat := 0x0D
def excResidue : Nat := 0x20
def excCheck : Nat := 0x21
def excParity : Nat := 0x22
def excFabDeliv : Nat := 0x23
def excHbmUe : Nat := 0x24

/-- An exception: code, engine (0 CTL, 1 MAT, 2 VEC, 3 DMA), address of the instruction, its number in the order of issue, whether it
is a DMAC, and the fields of HIF_CEXC1. -/
structure Exc where
  code : Nat
  engine : Nat
  pc : Nat
  id : Nat := 0
  dmac : Bool := false
  sub : Nat := 0
  array : Nat := 0
  eb : Nat := 0
  index : Nat := 0
  addr : Nat := 0
deriving DecidableEq, Repr

/-- HIF_CEXC0 of an exception, VALID set (R156). -/
def Exc.cexc0 (e : Exc) : Nat := e.code % 256 + e.engine % 4 * 2 ^ 8 + 2 ^ 10 + e.pc % 2 ^ 48 * 2 ^ 16

/-- HIF_CEXC1 of an exception: ADDR for ALIGN, HBMADDR, HBMUE and PARITY (R156). -/
def Exc.cexc1 (e : Exc) : Nat :=
  let a := if e.code = excAlign ∨ e.code = excHbmAddr ∨ e.code = excHbmUe ∨ e.code = excParity then e.addr else 0
  e.sub % 2 ^ 8 + e.array % 4 * 2 ^ 8 + e.eb % 2 ^ 8 * 2 ^ 10 + e.index % 2 ^ 12 * 2 ^ 18 + a / 2 ^ 14 % 2 ^ 34 * 2 ^ 30

/-- Records an exception: the first one in HIF_CEXC0 and HIF_CEXC1 with its interrupt, a later one as MULTI; of two in one cycle the
one of the lower ENGINE is the record, and a MULTI not yet cleared stays (R156). -/
def State.recordExc (s : State) (c : Nat) (e : Exc) : State :=
  let k := Reg.hifCexc0 c
  let now := (s.region 1 c).cycles s.time.count
  if s.flag k 10 then
    let s := s.setFlag k 11
    if (s.core c).excAt = some now ∧ e.engine < s.field k 8 2 then
      (s.setReg k (e.cexc0 + 2 ^ 11)).setReg (Reg.hifCexc1 c) e.cexc1
    else s
  else
    let s := s.setReg k (e.cexc0 + b2n (s.flag k 11) * 2 ^ 11)
    let s := (s.setReg (Reg.hifCexc1 c) e.cexc1).modCore c (fun k => { k with excAt := some now })
    s.irq 0 0

/-- Node and handle of an ACC or GARV. -/
def DmaOp.key (o : DmaOp) : Nat × Nat := (o.sB.toNat % 2 ^ 15, bits o.sB.toNat 16 16)

/-- Discards the GARVs that wait for ACCs which will never complete: their markers would declare what was not sent (R137). -/
def Core.dropHeld (k : Core) (lost : List DmaOp) : Core :=
  { k with runs := k.runs.filter (fun r =>
    !(r.held && lost.any (fun o => o.fn == 2 && decide (o.id < r.op.id) && r.key == some o.key))) }

/-- The matrix engine without the instructions issued behind one, which change no architectural state (R154): passes, drains and a
pre-scan in flight are discarded, and the plane of a weight load is no longer valid. -/
def Matrix.dropBehind (m : Matrix) (id : Nat) : Matrix :=
  let late (p : Plane) : Plane := if p.phase == .loading && decide (id < m.loadId) then { p with phase := .invalid } else p
  { m with passes := m.passes.filter (fun r => decide (r.op.id < id)), drains := m.drains.filter (fun o => decide (o.id < id)),
           scan := m.scan.filter (fun r => decide (r.id < id)), plane0 := late m.plane0, plane1 := late m.plane1 }

/-- A core as an exception leaves it: CTL issues nothing more; the engine that raised it discards what came behind the instruction;
every other engine completes what it executes; all discard their queues (R154). -/
def Core.stop (k : Core) (e : Exc) : Core :=
  let mat := if e.engine = 1 then k.mat.dropBehind e.id else k.mat
  { k.dropHeld k.fab with wait := .stopped, mat := { mat with queue := [] }, dma := if e.dmac then [] else k.dma.take 1, fab := [] }

/-- The job, epoch and step of the program of a core, for its events. -/
def Core.jobCtx (k : Core) : Option (Nat × Nat × Nat) := some (k.ctx.job, k.ctx.epoch, k.ctx.step)

/-- A core stopped by an exception enters STOPPED once every engine has completed what it executes (R154). -/
def State.stopDone (s : State) (c : Nat) : State :=
  if s.coreState c = 2 ∧ (s.core c).wait = .stopped ∧ (s.core c).fenceClear 0x1F = true then
    let s := (s.foldFlags c).modCore c (fun k => { k with wait := .none })
    (s.setCoreState c 3).coreLeft c
  else s

/-- An exception of a core (R154-R156): it is recorded, written to the event recorder and the trace, and the core stops; a fault
goes on to the recovery of chapter 10. -/
def State.except (s : State) (c : Nat) (e : Exc) : State :=
  let k := s.core c
  let s := s.recordExc c e
  let s := s.raise (0x1000 + e.code) (1, c) [] k.jobCtx
  let s := s.traceRec c 8 e.engine (k.ioff e.pc) (BitVec.ofNat 64 (e.code % 256 + e.sub % 256 * 256))
  let s := s.modCore c (fun k => k.stop e)
  let s := if 0x20 ≤ e.code then s.coreFault c e.code e.engine e.sub else s
  s.stopDone c

/-! ### Issue (R112, R114) -/

/-- Scalar registers an instruction of the MAT queue will write. -/
def Core.pendingS (k : Core) : List Nat :=
  (k.mat.queue.filter (fun o => o.kind == .mrdmode)).map (fun o => o.x.d.toNat)

/-- Descriptor registers whose anchor slot has a scan queued or in flight (R125). -/
def Core.pendingT (k : Core) : List Nat :=
  (match k.mat.scan with | some r => [r.slot] | none => []) ++
  (k.mat.queue.filter (fun o => o.kind == .manc)).map (fun o => o.x.d.toNat)

/-- Whether a stop of the module or of a job holds a core. -/
def State.coreHalted (s : State) (c : Nat) : Bool :=
  s.stops 0 || ((s.core c).ctx.job != 0 && s.stops (s.core c).ctx.job && s.coreState c == 2)

/-- Whether CTL of a core may issue an instruction that uses the registers named: the core is RUNNING or runs a section of the
Groomer, held by no wait, stop or pending register. -/
def State.issues (s : State) (c : Nat) (sUse tUse : List Nat) : Bool :=
  let k := s.core c
  decide (c < 192) && (s.coreState c == 2 || k.package) && k.wait == .none && !s.coreHalted c &&
  sUse.all (fun r => !k.pendingS.contains r) && tUse.all (fun r => !k.pendingT.contains r)

/-- A core with its PC at an address. -/
def Core.setPc (k : Core) (a : Nat) : Core := { k with pc := a }

/-- The address of the word after the one at the PC, a 48-bit address. -/
def Core.nextPc (k : Core) : Nat := (k.pc + 8) % 2 ^ 48

/-- Changes the core that executes an instruction, and moves its PC past it: CTL has made progress. -/
def State.retire (s : State) (c : Nat) (f : Core → Core) : State :=
  (s.modCore c (fun k => (f k).setPc k.nextPc)).ctlProgress c

/-- Whether an engine of a core has work its progress watchdog watches (R336): CTL but in SWAIT, TWAIT or FENCE, the queue and the runs
of MAT and DMA; a vector instruction is executed whole as it issues. -/
def Core.engineBusy (k : Core) (e : Nat) : Bool :=
  if e = 0 then k.wait == .none || k.wait == .ended
  else if e = 1 then !k.fenceClear 2
  else if e = 3 then !k.fenceClear 0x18
  else false

/-- An idle engine that takes an instruction starts its progress watchdog anew (R336). -/
def State.engineWoken (s : State) (c e : Nat) : State := if (s.core c).engineBusy e then s else s.progress (4 * c + e)

/-- The ISSUE record of an instruction that goes to an engine whose ENG bit is set (R421). -/
def State.traceIssue (s : State) (c engine cls fn : Nat) (x : Fki) : State :=
  let s := s.engineWoken c engine
  let s := if engine = 0 then s else s.enq (4 * c + (if cls = 6 then 0 else engine))
  if s.flag (Reg.trcCtl c) (3 + engine) then s.traceRec c 3 engine ((s.core c).ioff (s.core c).pc) (fkiWord cls fn x)
  else s

/-- A core one of whose engines has retired the instruction at an address. -/
def Core.retired (k : Core) (engine pc : Nat) : Core := { k with lastPc := Tab.put k.lastPc 0 engine pc }

/-- The RETIRE record of an engine (R421). -/
def State.traceRetired (s : State) (c engine pc : Nat) (status : Word) : State :=
  if s.flag (Reg.trcCtl c) (3 + engine) then s.traceRec c 4 engine ((s.core c).ioff pc) status else s

/-- An engine retires an instruction. -/
def State.traceRetire (s : State) (c engine pc : Nat) (status : Word) : State :=
  ((s.modCore c (fun k => k.retired engine pc)).progress (4 * c + engine)).traceRetired c engine pc status

/-- An exception of CTL at the instruction it executes. -/
def State.ctlExcept (s : State) (c code : Nat) (addr : Nat := 0) : State :=
  s.except c { code := code, engine := 0, pc := (s.core c).pc, addr := addr }

/-- The exception a hardware error raises where CTL or VEC executes an instruction: an uncorrectable line under its fetch, a parity
error of its word or operands, a failed residue check of the vector unit (R73, R155). MAT, DMA and the fabric meet theirs as they
begin the instruction. -/
def hwExc (x : Fki) (engine pc : Nat) : Option Exc :=
  match x.hw with
  | .fetch a => some { code := excHbmUe, engine := 0, pc := pc, addr := a }
  | .retry a => if engine = 0 ∨ engine = 2 then some { code := excHbmUe, engine := engine, pc := pc, addr := a } else none
  | .parity a => if engine = 0 ∨ engine = 2 then some { code := excParity, engine := engine, pc := pc, addr := a } else none
  | .residue stage _ lane =>
    if engine = 2 then some { code := excResidue, engine := 2, pc := pc, sub := stage, index := lane } else none
  | _ => none

/-- What holds CTL before an instruction it could else issue: a register that an instruction of MAT will write or scan for, or a full
queue (R112, R114); the KIND and the node of the wait (R343). -/
def State.stalled (s : State) (c engine : Nat) (sUse tUse : List Nat) (room : Core → Bool) : Option (Nat × Nat) :=
  if !s.issues c [] [] then none
  else if !s.issues c sUse tUse then some (4, waitNode 1 (4 * c + 1))
  else if !room (s.core c) then some (6, waitNode 1 (4 * c + engine))
  else none

/-- One instruction of class `cls` and function `fn` as CTL takes it from its core: while the core may not issue it or its queue
has no room nothing happens but that CTL is held before it; a hardware error raises its exception; a non-zero field that must be zero, or a bad register index
(`ok` false), raises RSVFIELD (R118, R155); otherwise it has its effect. -/
def fkiWhen (x : Fki) (engine cls fn : Nat) (sUse tUse : List Nat) (room : Core → Bool) (ok : Bool)
    (f : State → State) (s : State) : Host.Outcome State Fault Refusal :=
  match s.stalled x.core engine sUse tUse room with
  | some (kind, node) => .next (s.stallOn x.core kind node)
  | none => act (fun s => s.issues x.core sUse tUse && room (s.core x.core))
    (fun s => match hwExc x engine (s.core x.core).pc with
      | some e => (s.retryEvent x.hw).except x.core e
      | none =>
        if ok then f ((s.coreEvent x.core 0x001 1).traceIssue x.core engine cls fn x) else s.ctlExcept x.core excRsvField) s

/-- An instruction that needs no room in a queue. -/
def fki (x : Fki) (engine cls fn : Nat) (sUse tUse : List Nat) (ok : Bool) (f : State → State) (s : State) :
    Host.Outcome State Fault Refusal :=
  fkiWhen x engine cls fn sUse tUse (fun _ => true) ok f s

/-- Fields that must be zero: those of the register fields not used and of IMM. -/
def rsvOk (l : List Nat) : Bool := l.all (· == 0)

/-- A branch taken by CTL, with what it writes of the core besides the PC (R119). -/
def State.branchWith (s : State) (c target : Nat) (f : Core → Core) : State :=
  let k := s.core c
  let s := s.coreEvent c 0x006 1
  let s := s.traceRec c 2 0 (k.ioff k.pc) (BitVec.ofNat 64 (k.ioff target))
  (s.modCore c (fun k => (f k).setPc target)).ctlProgress c

/-- A branch taken by CTL (R119). -/
def State.branchTo (s : State) (c target : Nat) : State := s.branchWith c target id

end Sys2Proof.Machine
end

