-- ==== Sys2Proof/Machine/Sync.lean ====
section
/-! DEFINITION. Semaphores, waits and fences (R134-R137), fabric time in programs (R138, R139), and screening hooks other than
the screen itself (R141, R142). -/

namespace Sys2Proof.Machine
open Sys2Proof

/-! ### Semaphores (R134-R136) -/

/-- The largest semaphore value. -/
def semMax : Nat := 0xFFFFFFFF

/-- The value of the semaphore a 13-bit field names for a core: bit 12 selects a device semaphore. -/
def State.sem (s : State) (c f : Nat) : Nat :=
  if bit f 12 then Tab.get s.devSems 0 (f % 4096) else Tab.get (s.core c).sems 0 (f % 256)

/-- Stores a semaphore. -/
def State.setSem (s : State) (c f v : Nat) : State :=
  if bit f 12 then { s with devSems := Tab.put s.devSems 0 (f % 4096) v }
  else s.modCore c (fun k => { k with sems := Tab.put k.sems 0 (f % 256) v })

/-- DATA of a WAIT record (R421). -/
def waitData (f : Nat) (ended timedOut : Bool) (v : Nat) : Word :=
  BitVec.ofNat 64 (f % 2 ^ 13 + b2n ended * 2 ^ 13 + b2n timedOut * 2 ^ 14 + v % 2 ^ 32 * 2 ^ 32)

/-- A wait ends: sD takes a value and CTL goes on behind the instruction. -/
def State.endWait (s : State) (c d : Nat) (v : Word) (f : Nat) (timedOut : Bool) : State :=
  let k := s.core c
  let s := s.traceRec c 5 0 (k.ioff k.pc) (waitData f true timedOut (s.sem c f))
  (s.modCore c (fun k => { k.setS d v with wait := .none, pc := (k.pc + 8) % 2 ^ 48 })).ctlProgress c

/-- The waiters on a semaphore field of a core, oldest wait first and then by core index (R135). -/
def State.waiters (s : State) (c f : Nat) : List Nat :=
  let cs := if bit f 12 then List.range 192 else [c]
  let on := cs.filter (fun c => match (s.core c).wait with
    | .sem _ n _ _ _ _ => if bit f 12 then n == f % 8192 else n == f % 256 && !bit n 12
    | _ => false)
  sortBy (fun c => match (s.core c).wait with | .sem _ _ _ _ _ b => b | _ => 0) on

/-- A wait whose limit has come: sD = 1, or WAITTO where IMM[31] is set (R134). -/
def State.waitOver (s : State) (c : Nat) (x : Fki) (n : Nat) : State :=
  if bit x.im 31 then
    let k := s.core c
    let s := s.traceRec c 5 0 (k.ioff k.pc) (waitData n true true (s.sem c n))
    (s.modCore c (fun k => { k with wait := .none })).ctlExcept c excWaitTo
  else s.endWait c x.d.toNat 1 n true

/-- Serves one waiter: where the value has reached its threshold no later than its limit, the threshold is subtracted and sD = 0
(R134, R135). -/
def State.serve (s : State) (c : Nat) : State :=
  match (s.core c).wait with
  | .sem x n th start lim _ =>
    let v := s.sem c n
    if start + lim < s.nowA then s.waitOver c x n
    else if th ≤ v then (s.setSem c n (v - th)).endWait c x.d.toNat 0 n false
    else s
  | _ => s

/-- Serves the waiters of a semaphore in order. -/
def State.serveAll (s : State) (c f : Nat) : State := (s.waiters c f).foldl State.serve s

/-- Adds to a semaphore, saturating; the Bool tells of an overflow (R134). -/
def State.addSem (s : State) (c f n : Nat) : Bool × State :=
  let v := s.sem c f + n
  (decide (semMax < v), (s.setSem c f (min v semMax)).serveAll c f)

/-- An increment of a device semaphore by a unit of the module (R136). -/
def State.signalDev (s : State) (n : Nat) : State := (s.addSem 0 (4096 + n % 4096) 1).2

/-- The semaphore field of IMM[12:0]; IMM[11:8] must be zero for a core semaphore. -/
def semOk (x : Fki) : Bool := bit x.im 12 || x.immBits 8 4 == 0

/-- SSIG: adds sA; a sum beyond 32 bits stores the largest value and raises SEMOVF (R134). -/
def execSsig (x : Fki) (s : State) : Host.Outcome State Fault Refusal :=
  fki x 0 7 0 [x.a.toNat] [] (rsvOk [x.d.toNat, x.b.toNat, x.c.toNat, x.immBits 13 19] && semOk x)
    (fun s =>
      let s := if bit x.im 12 then s.coreEvent x.core 0x050 1 else s
      let r := s.addSem x.core (x.immBits 0 13) ((s.core x.core).sr x.a.toNat).toNat
      if r.1 then r.2.ctlExcept x.core excSemOvf else r.2.retire x.core id) s

/-- SSET: stores sA[31:0] (R134). -/
def execSset (x : Fki) (s : State) : Host.Outcome State Fault Refusal :=
  fki x 0 7 2 [x.a.toNat] [] (rsvOk [x.d.toNat, x.b.toNat, x.c.toNat, x.immBits 13 19] && semOk x)
    (fun s =>
      let s := if bit x.im 12 then s.coreEvent x.core 0x050 1 else s
      let s := s.setSem x.core (x.immBits 0 13) (((s.core x.core).sr x.a.toNat).toNat % 2 ^ 32)
      (s.serveAll x.core (x.immBits 0 13)).retire x.core id) s

/-- SRD: sD = the semaphore's value (R134). -/
def execSrd (x : Fki) (s : State) : Host.Outcome State Fault Refusal :=
  fki x 0 7 3 [x.d.toNat] [] (rsvOk [x.a.toNat, x.b.toNat, x.c.toNat, x.immBits 13 19] && semOk x)
    (fun s =>
      let s := if bit x.im 12 then s.coreEvent x.core 0x050 1 else s
      let v := s.sem x.core (x.immBits 0 13)
      s.retire x.core (fun k => k.setS x.d.toNat (BitVec.ofNat 64 v))) s

/-- SWAIT: waits until the semaphore reaches sA, then subtracts it and writes sD = 0; sA or sB of 0 or an sB above 40 bits raises
RSVFIELD (R134). So does an sA above 0xFFFFFFFF, outside the range the rule gives (DESIGN CHOICE, log 89: it names no exception for
one). -/
def execSwait (x : Fki) (s : State) : Host.Outcome State Fault Refusal :=
  fki x 0 7 1 [x.d.toNat, x.a.toNat, x.b.toNat] [] (rsvOk [x.c.toNat, x.immBits 13 18] && semOk x)
    (fun s =>
      let k := s.core x.core
      let th := (k.sr x.a.toNat).toNat
      let lim := (k.sr x.b.toNat).toNat
      if th = 0 ∨ lim = 0 ∨ semMax < th ∨ 2 ^ 40 ≤ lim then s.ctlExcept x.core excRsvField
      else
        let n := if bit x.im 12 then x.immBits 0 13 else x.immBits 0 8
        let s := if bit x.im 12 then (s.coreEvent x.core 0x050 1).enq (0x4000 + n % 4096) else s
        let s := s.traceRec x.core 5 0 (k.ioff k.pc) (waitData n false false 0)
        let s := s.modCore x.core (fun k => { k with wait := .sem x n th s.nowA lim s.time.count })
        let earlier := (s.waiters x.core n).any (fun c => c != x.core && (match (s.core c).wait with
          | .sem _ m t _ _ _ => m == n && decide (t ≤ s.sem c n)
          | _ => false))
        if earlier then s else s.serve x.core) s

/-- SWAIT_TIMEOUT: domain A reaches the wait's start plus sB first, and the core's clock runs (R262): sD = 1, or WAITTO; a value that reaches the threshold at that
very time still satisfies the wait (R134, R135). -/
def execSwaitTimeout (core : Nat) (s : State) : Host.Outcome State Fault Refusal :=
  act (fun s => !s.coreHalted core && (s.region 1 core).running && (match (s.core core).wait with
      | .sem _ _ _ start lim _ => decide (start + lim ≤ s.nowA)
      | _ => false))
    (fun s => match (s.core core).wait with
      | .sem x n th _ _ _ =>
        if th ≤ s.sem core n then s.serve core else s.waitOver core x n
      | _ => s) s

/-! ### Fences (R134) -/

/-- FENCE: waits for the earlier work its mask names (R134). -/
def execFence (x : Fki) (s : State) : Host.Outcome State Fault Refusal :=
  fki x 0 7 4 [] [] (rsvOk [x.d.toNat, x.a.toNat, x.b.toNat, x.c.toNat, x.immBits 5 27])
    (fun s =>
      let k := s.core x.core
      let s := s.traceRec x.core 5 0 (k.ioff k.pc) (waitData 0 false false 0)
      if k.fenceClear x.im then s.endWait x.core 0 0 0 false
      else s.modCore x.core (fun k => { k with wait := .fence x s.nowA s.time.count })) s

/-- FENCE_COMPLETE: all the work a FENCE waits for has completed and CTL resumes (R134). -/
def execFenceComplete (core : Nat) (s : State) : Host.Outcome State Fault Refusal :=
  act (fun s => !s.coreHalted core && (match (s.core core).wait with
      | .fence x _ _ => (s.core core).fenceClear x.im
      | _ => false))
    (fun s => s.endWait core 0 0 0 false) s

/-! ### Time (R138, R139) -/

/-- The domain a time instruction reads. -/
def State.nowOf (s : State) (b : Bool) : Nat := if b then s.nowB else s.nowA

/-- TRD: sD = fabric time of domain A or B (R138). -/
def execTrd (x : Fki) (s : State) : Host.Outcome State Fault Refusal :=
  fki x 0 8 0 [x.d.toNat] [] (rsvOk [x.a.toNat, x.b.toNat, x.c.toNat, x.immBits 1 31])
    (fun s =>
      let t := s.nowOf (bit x.im 0)
      s.retire x.core (fun k => k.setS x.d.toNat (BitVec.ofNat 64 t))) s

/-- TWAIT: holds CTL until fabric time reaches sA; a target past completes at once, one more than 2^36 ns ahead raises TWAITFAR
(R139). -/
def execTwait (x : Fki) (s : State) : Host.Outcome State Fault Refusal :=
  fki x 0 8 1 [x.d.toNat, x.a.toNat] [] (rsvOk [x.b.toNat, x.c.toNat, x.immBits 1 31])
    (fun s =>
      let k := s.core x.core
      let b := bit x.im 0
      let t := (k.sr x.a.toNat).toNat
      let now := s.nowOf b
      if now + 2 ^ 36 < t then s.ctlExcept x.core excTwaitFar
      else
        let s := s.traceRec x.core 5 0 (k.ioff k.pc) (waitData 0 false false 0)
        if t ≤ now then s.endWait x.core x.d.toNat (BitVec.ofNat 64 now) 0 false
        else s.modCore x.core (fun k => { k with wait := .time x b t })) s

/-- TWAIT_EXPIRE: fabric time has reached the target and the core's clock runs (R262); CTL resumes and sD takes the time read (R139). -/
def execTwaitExpire (core : Nat) (s : State) : Host.Outcome State Fault Refusal :=
  act (fun s => !s.coreHalted core && (s.region 1 core).running && (match (s.core core).wait with
      | .time _ b t => decide (t ≤ s.nowOf b)
      | _ => false))
    (fun s => match (s.core core).wait with
      | .time x b _ => s.endWait core x.d.toNat (BitVec.ofNat 64 (s.nowOf b)) 0 false
      | _ => s) s

/-! ### Screening hooks (R141, R142, R313) -/

/-- The fold of R313. -/
def misrFold (m x : Word) : Word :=
  ((m <<< 1) ^^^ (if m.getLsbD 63 then 0x1B#64 else 0#64)) ^^^ x

/-- SMISR: folds sA into the MISR; PRIV outside a screening package (R142). -/
def execSmisr (x : Fki) (s : State) : Host.Outcome State Fault Refusal :=
  fki x 0 9 2 [x.a.toNat] [] (rsvOk [x.d.toNat, x.b.toNat, x.c.toNat, x.im])
    (fun s =>
      if (s.core x.core).package then
        s.retire x.core (fun k => { k with misr := misrFold k.misr (k.sr x.a.toNat) })
      else s.ctlExcept x.core excPriv) s

/-- SRDM: sD = the MISR; PRIV outside a screening package (R142). -/
def execSrdm (x : Fki) (s : State) : Host.Outcome State Fault Refusal :=
  fki x 0 9 3 [x.d.toNat] [] (rsvOk [x.a.toNat, x.b.toNat, x.c.toNat, x.im])
    (fun s =>
      if (s.core x.core).package then s.retire x.core (fun k => k.setS x.d.toNat k.misr)
      else s.ctlExcept x.core excPriv) s

/-- A slot of a tile that holds no capture. -/
def State.freeSlot (s : State) (n : Nat) : Option Nat :=
  (List.range 16).find? (fun q => (Tab.find s.grm.samples (16 * n + q)).isNone)

/-- Counts a sample region opened on the core; the Groomer selects one in 2^SRATE, or every one on a PROBATION core; one selected
while all 16 slots of the tile are in use is skipped and counted (R316, R324). -/
def State.openRegion (s : State) (c : Nat) : State :=
  match s.physOf c with
  | none => s
  | some p =>
    let n := Tab.get s.grm.opened 0 p
    let rate := if s.flag Reg.grmProb 0 then s.field Reg.grmProb 1 5 else s.field Reg.grmCtl 1 5
    let sel := s.flag Reg.grmCtl 0 && ((s.grmState p == 4) || (rate != 31 && n % 2 ^ rate == 0))
    let room := (s.freeSlot (p / 25)).isSome
    let s := { s with grm := { s.grm with opened := Tab.put s.grm.opened 0 p (n + 1), sampling := Tab.put s.grm.sampling 0 p (b2n (sel && room)) } }
    if sel && !room then s.count Reg.grmSampleSkip else s

/-- SMARK: opens or closes a sample region; opening an open one or closing none raises RSVFIELD (R141). -/
def execSmark (x : Fki) (s : State) : Host.Outcome State Fault Refusal :=
  fki x 0 9 1 [] [] (rsvOk [x.d.toNat, x.a.toNat, x.b.toNat, x.c.toNat, x.immBits 1 15])
    (fun s =>
      let k := s.core x.core
      let opens := bit x.im 0
      if opens = k.region.isSome then s.ctlExcept x.core excRsvField
      else
        let s := s.traceRec x.core 7 0 (k.ioff k.pc) (BitVec.ofNat 64 (x.immBits 16 16 + b2n opens * 2 ^ 16))
        let s := if opens then s.openRegion x.core
          else match s.physOf x.core with
            | some p => { s with grm := { s.grm with sampling := Tab.erase s.grm.sampling p } }
            | none => s
        s.retire x.core (fun k => { k with region := if opens then some (x.immBits 16 16) else none })) s

end Sys2Proof.Machine
end

