-- ==== Sys2Proof/Machine/Segs.lean ====
section
/-! DEFINITION. Blocks of DMA and fabric instructions (R116, R130, R131, R217): the byte ranges of a descriptor, where they may
lie, and how a transfer is cut into packets. -/

namespace Sys2Proof.Machine
open Sys2Proof

/-- The byte ranges of a block: its rows, then its scale array for an MX format (R116, R130). -/
def dSegs (d : BitVec 256) (f : Fmt) : List (Nat × Nat) :=
  (List.range (dD1 d)).map (fun r => (dRow d r, rowBytes f (dD0 d))) ++
  (if f.isMx then [(dScale d, dD1 d * ((dD0 d + 31) / 32))] else [])

/-- Joins ranges that touch. -/
def joinSegs : List (Nat × Nat) → List (Nat × Nat)
  | [] => []
  | (a, n) :: t =>
    match joinSegs t with
    | (b, m) :: r => if a + n = b then (a, n + m) :: r else (a, n) :: (b, m) :: r
    | [] => [(a, n)]

/-- The part of some ranges that lies at byte o and the n bytes from it, counting through the ranges in order. -/
def cutSegs : List (Nat × Nat) → Nat → Nat → List (Nat × Nat)
  | [], _, _ => []
  | (a, m) :: t, o, n =>
    if n = 0 then []
    else if m ≤ o then cutSegs t (o - m) n
    else
      let k := min n (m - o)
      (a + o, k) :: cutSegs t 0 (n - k)

/-- Packets of a transfer to a block. -/
def packetsTo (d : BitVec 256) (f : Fmt) : List (Nat × Nat × Nat) := cutAll (joinSegs (dSegs d f)) 0

/-- Where a block lies: the issuing core's store, or HBM. -/
def dPlace (d : BitVec 256) (c : Nat) : Option Nat := if dSpace d = 1 then some c else none

/-- Why a local block cannot be used: FORMAT without a format or an extent, ALIGN off a multiple of 64 or outside core store,
HBMADDR outside the address map; with the address. -/
def State.blockCheck (s : State) (d : BitVec 256) : Option (Nat × Nat) :=
  match dFmt d with
  | none => some (excFormat, 0)
  | some f =>
    if dD0 d = 0 ∨ dD1 d = 0 then some (excFormat, 0)
    else if dBase d % 64 ≠ 0 then some (excAlign, dBase d)
    else if dStride d % 64 ≠ 0 then some (excAlign, dStride d)
    else
      match (dSegs d f).find? (fun e =>
          if dSpace d = 1 then decide (coreStoreSize < e.1 + e.2) else !s.backed e.1 e.2) with
      | some e => some (if dSpace d = 1 then excAlign else excHbmAddr, e.1)
      | none => none

/-- Whether two blocks have equal FMT, D0 and D1 (R130, R131). -/
def dSame (d e : BitVec 256) : Bool := dFmtCode d == dFmtCode e && dD0 d == dD0 e && dD1 d == dD1 e

/-- Why a remote block cannot be used: FORMAT, or ALIGN of its base. -/
def remoteCheck (d : BitVec 256) : Option (Nat × Nat) :=
  if (dFmt d).isNone ∨ dSpace d = 1 ∨ dD0 d = 0 ∨ dD1 d = 0 then some (excFormat, 0)
  else if dBase d % 64 ≠ 0 then some (excAlign, dBase d)
  else if dStride d % 64 ≠ 0 then some (excAlign, dStride d)
  else none

/-- The first 16 bytes of an ACC payload (R174). -/
def accSub (handle loff nlanes bk mark aval stage : Nat) : List Byte :=
  toBytes 16 (handle % 2 ^ 16 + loff % 2 ^ 32 * 2 ^ 16 + nlanes % 64 * 2 ^ 48 + bk % 2 * 2 ^ 54 + mark % 2 * 2 ^ 55 +
    aval % 2 ^ 11 * 2 ^ 56 + stage % 4 * 2 ^ 67)

/-- Cuts lanes into ACC packets (R174, R175): at most 42 lanes, none across a chunk of 16,384. The answers are (lane offset,
first lane of the block, lanes). -/
def cutLanes : Nat → Nat → Nat → Nat → List (Nat × Nat × Nat)
  | 0, _, _, _ => []
  | fuel + 1, loff, o, n =>
    if n = 0 then []
    else
      let k := min n (min 42 (16384 - loff % 16384))
      (loff, o, k) :: cutLanes fuel ((loff + k) % 2 ^ 32) (o + k) (n - k)

/-- Flits of an ACC payload with n lanes. -/
def accFlits (n : Nat) : Nat := (16 + 24 * n + 63) / 64

end Sys2Proof.Machine
end

