-- ==== Sys2Proof/Machine/BcastBase.lean ====
section
/-! DEFINITION. Broadcast trees (R293-R298): the children of a node, the records of broadcasts, tree table entries, and the
sending of a root's packets. -/

namespace Sys2Proof.Machine
open Sys2Proof

/-- The children of node n in the tree of root r (R293): z, then y, then x, descending in each ring. -/
def NodeLatch.children (l : NodeLatch) (n r : Nat) : List Nat :=
  let c (k : Nat) : Nat := coord n k
  let root (k : Nat) : Nat := coord r k
  let size (k : Nat) : Nat := (l.dim k).1
  let down (k : Nat) : Nat := (c k + size k - 1) % size k
  let to' (k : Nat) : Nat := n - c k * 32 ^ k + down k * 32 ^ k
  let inner (k : Nat) : List Nat := if 1 < size k ∧ down k ≠ root k then [to' k] else []
  let outer (k : Nat) : List Nat := if 1 < size k then [to' k] else []
  if c 0 = root 0 ∧ c 1 = root 1 then inner 2 ++ outer 1 ++ outer 0
  else if c 0 = root 0 then inner 1 ++ outer 0
  else inner 0

/-- A child that has been sent its last packet at a count. -/
def Child.fresh (node now : Nat) : Child := { node := node, received := false, done := false, failed := false, since := now }

/-- Replaces the broadcast at a place of the list. -/
def State.setBcast (s : State) (i : Nat) (b : Bcast) : State :=
  { s with gate := { s.gate with bcasts := s.gate.bcasts.set i b } }

/-- Adds a broadcast. -/
def State.addBcast (s : State) (b : Bcast) : State := { s with gate := { s.gate with bcasts := s.gate.bcasts ++ [b] } }

/-- Whether a broadcast of this module has not ended. -/
def State.ownBcast (s : State) (f : Bcast → Bool) : Bool := s.gate.bcasts.any (fun b => b.isRoot && !b.ended && f b)

/-! ### Tree entries (R298) -/

/-- An entry of the broadcast tree table: VALID, JOB, SEM, SEMEN, MAP and MAPSTR. -/
structure TreeEntry where
  valid : Bool
  job : Nat
  sem : Nat
  semen : Bool
  map : Nat
  stride : Nat
deriving DecidableEq, Repr

/-- The address of tree entry h. -/
def State.treeAddr (s : State) (h : Nat) : Nat := s.field Reg.gateBctBase 0 48 + 32 * h

/-- Tree entry h. -/
def State.treeEntry (s : State) (h : Nat) : TreeEntry × State :=
  let a := s.treeAddr h
  let w0 := s.hbmWord a
  let w1 := w0.2.hbmWord (a + 8)
  let w2 := w1.2.hbmWord (a + 16)
  ({ valid := bit w0.1 0, job := bits w0.1 1 12, sem := bits w0.1 13 12, semen := bit w0.1 25, map := bits w1.1 0 48,
     stride := bits w2.1 0 32 }, w2.2)

/-- The next broadcast sequence of tree entry h, written back as LASTTAG. -/
def State.nextTreeTag (s : State) (h : Nat) : Nat × State :=
  let a := s.treeAddr h + 0x18
  let w := s.hbmWord a
  let t := (bits w.1 0 16 + 1) % 65536
  (t, w.2.memWrite64 a (setBits w.1 0 16 t))

/-! ### Packets (R217, R294) -/

/-- The header fields of packet `seq` of a broadcast to a node. -/
def Bcast.fields (b : Bcast) (dst seq addr : Nat) : List (Nat × Nat × Nat) :=
  [(0, 15, dst), (32, 12, b.job), (44, 8, b.epoch), (52, 16, b.stepl), (71, 4, tyBcast), (86, 2, seq % 2 + 1),
   (96, 32, seq), (160, 48, addr), (224, 16, b.tag), (288, 12, b.tree), (300, 15, b.root), (315, 1, b2n b.gateb),
   (316, 32, b.npkt)]

/-- The core a broadcast is sent for. -/
def Bcast.core (b : Bcast) : Option Nat := b.owner.map Prod.fst

/-- Sends the packets of a root's broadcast in order, each to every node of a list. A Gate packet whose source cannot be read is
left out; for an instruction the first such source ends the sending and its address is answered. -/
def State.bcastPackets (s : State) (b : Bcast) (nodes : List Nat) : Nat → List (Nat × Source × Nat) → Option Nat × State
  | _, [] => (none, s)
  | seq, (addr, src, len) :: t =>
    let r := s.readSource src len
    match r.2.1 with
    | some e =>
      if b.gateb then r.2.2.bcastPackets b nodes (seq + 1) t
      else (some (match e with | .unbacked a => a | .uncorrectable a => a), r.2.2)
    | none =>
      let s := nodes.foldl (fun (s : State) n =>
        let s := match b.core with
          | some c => s.coreEvent c 0x040 1
          | none => s
        s.inject (Packet.make (b.fields n seq addr) r.1)) r.2.2
      s.bcastPackets b nodes (seq + 1) t

/-- Sends the whole broadcast to some nodes. -/
def State.bcastSend (s : State) (b : Bcast) (nodes : List Nat) : Option Nat × State :=
  if nodes.isEmpty then (none, s) else s.bcastPackets b nodes 0 b.ranges

/-- A broadcast of this module as its root begins it: its region has arrived, its children have been sent everything. -/
def State.rootBcast (s : State) (job epoch stepl tag tree : Nat) (slot : Option Nat) (owner : Option (Nat × Nat))
    (ranges : List (Nat × Source × Nat)) : Bcast :=
  let node := s.own.node
  { job := job, epoch := epoch, stepl := stepl, gateb := slot.isSome, tree := tree, root := node, tag := tag,
    npkt := ranges.length, slot := slot, got := ranges.length, arrived := true, parents := [],
    children := (s.own.children node node).map (fun n => Child.fresh n s.time.count), orphans := [], ovf := false,
    isRoot := true, ranges := ranges, round := 0, handled := [], ended := false, owner := owner }

end Sys2Proof.Machine
end

