-- ==== Sys2Proof/Machine/MatrixArith.lean ====
section
/-! DEFINITION. The arithmetic of a matrix pass (R49, R57, R105-R111): the contribution of every dot product, check entries in
their rounded form, and the three kinds of check with their tolerances. -/

namespace Sys2Proof.Machine
open Sys2Proof

/-- The contribution of one dot product (R49-R57): its exact sum of rounded terms, and its counts. -/
structure Contrib where
  sum : Int
  terms : Nat
  rnd : Nat
  tsat : Nat
  pinf : Nat
  ninf : Nat
  nan : Nat
deriving DecidableEq, Repr

/-- Nothing contributed. -/
def Contrib.zero : Contrib := { sum := 0, terms := 0, rnd := 0, tsat := 0, pinf := 0, ninf := 0, nan := 0 }

/-- Adds one finite term: rounded to the window and saturated (R50, R51). -/
def Contrib.addTerm (c : Contrib) (anchor v exp : Int) : Contrib :=
  let t := termOf anchor v exp
  let sat := decide (termMax < t.1 ∨ t.1 < -termMax)
  { c with sum := c.sum + max (-termMax) (min termMax t.1), terms := c.terms + 1, rnd := c.rnd + b2n t.2,
           tsat := c.tsat + b2n sat }

/-- Counts n non-finite products (R57). -/
def Contrib.addSide (c : Contrib) (x : Num) (n : Nat) : Contrib :=
  match x with
  | .nan => { c with nan := c.nan + n }
  | .inf false => { c with pinf := c.pinf + n }
  | .inf true => { c with ninf := c.ninf + n }
  | .fin _ _ _ => c

/-- Adds a product as one term, or counts it. -/
def Contrib.addProduct (c : Contrib) (anchor : Int) (x : Num) : Contrib :=
  match x with
  | .fin s m e => if m = 0 then { c with terms := c.terms + 1 } else c.addTerm anchor (if s then -(m : Int) else m) e
  | y => c.addSide y 1

/-- The sum of two contributions. -/
def Contrib.add (a b : Contrib) : Contrib :=
  { sum := a.sum + b.sum, terms := a.terms + b.terms, rnd := a.rnd + b.rnd, tsat := a.tsat + b.tsat,
    pinf := a.pinf + b.pinf, ninf := a.ninf + b.ninf, nan := a.nan + b.nan }

/-- The lane a contribution makes of a cleared entry: window and wrap count of the exact sum, counts saturated (R52, R53). -/
def Contrib.lane (c : Contrib) : Lane :=
  let w := BitVec.ofInt 96 c.sum
  { w := w, wrap := BitVec.ofInt 32 ((c.sum - w.toInt) / (2 : Int) ^ 96), rnd := min 65535 c.rnd,
    tsat := min 4095 c.tsat, pinf := min 4095 c.pinf, ninf := min 4095 c.ninf, nan := min 4095 c.nan }

/-- Whether a contribution keeps a check from being compared (R111). -/
def Contrib.tainted (c : Contrib) : Bool := c.tsat != 0 || c.pinf != 0 || c.ninf != 0 || c.nan != 0

/-- Cuts a list into runs of n. -/
def runsOf {α : Type} : Nat → Nat → List α → List (List α)
  | 0, _, _ => []
  | fuel + 1, n, l => if l.isEmpty then [] else l.take n :: runsOf fuel n (l.drop n)

/-- One MX block pair: 32 element products summed exactly and scaled, as one term; non-finite products counted; 32 NAN counts
where either scale is 0xFF (R49, R57). -/
def Contrib.addBlock (c : Contrib) (anchor : Int) (fa fb : Fmt) (as bs : List Nat) (xa xb : Nat) : Contrib :=
  if xa = 0xFF ∨ xb = 0xFF then c.addSide .nan 32
  else
    let ps := (as.zip bs).map (fun ab => (fa.decode ab.1).mul (fb.decode ab.2))
    let c := (ps.filter Num.nonfinite).foldl (fun c p => c.addSide p 1) c
    let sum := sumExact (ps.filter (fun p => !p.nonfinite))
    if sum.1 = 0 then { c with terms := c.terms + 1 } else c.addTerm anchor sum.1 (sum.2 + (xa : Int) - 127 + (xb : Int) - 127)

/-- The dot product of two operand vectors of codes with their block scales (R49). -/
def dot (anchor : Int) (fa fb : Fmt) (as bs : List Nat) (sa sb : List Nat) : Contrib :=
  if fa.isMx then
    let n := as.length
    ((runsOf n 32 as).zip (runsOf n 32 bs)).zipIdx.foldl
      (fun c p => c.addBlock anchor fa fb p.1.1 p.1.2 (sa.getD p.2 127) (sb.getD p.2 127)) Contrib.zero
  else (as.zip bs).foldl (fun c ab => c.addProduct anchor ((fa.decode ab.1).mul (fb.decode ab.2))) Contrib.zero

/-- The exact value of an operand element, scale applied. -/
def elemValue (f : Fmt) (codes scales : List Nat) (k : Nat) : Num :=
  if f.isMx then f.decodeMx (codes.getD k 0) (scales.getD (k / 32) 127) else f.decode (codes.getD k 0)

/-! ### Check entries (R105) -/

/-- A check entry: significand C and exponent E with value C x 2^E, whether it was rounded, and whether it is non-finite. -/
structure CheckEntry where
  c : Int
  e : Int
  rounded : Bool
  bad : Bool
deriving DecidableEq, Repr

/-- The check form of an exact sum of values: rounded to nearest even to 31 magnitude bits with the smallest exponent that fits;
a zero sum is C = 0, E = 0; a non-finite input marks the entry (R105). -/
def checkEntry (l : List Num) : CheckEntry :=
  if l.any Num.nonfinite then { c := 0, e := 0, rounded := false, bad := true }
  else
    let s := sumExact l
    if s.1 = 0 then { c := 0, e := 0, rounded := false, bad := false }
    else
      let q := (topBit s.1.natAbs : Int) + s.2 - 30
      let n := roundMag .rne (decide (s.1 < 0)) s.1.natAbs s.2 q
      let r : Nat × Int := if n.1 = 2 ^ 31 then (2 ^ 30, q + 1) else (n.1, q)
      { c := if s.1 < 0 then -(r.1 : Int) else r.1, e := r.2, rounded := n.2, bad := false }

/-- The value of a check entry. -/
def CheckEntry.value (x : CheckEntry) : Num := if x.bad then .nan else Num.ofInt x.c x.e

/-- The bound a rounded entry adds for an operand (R108): |operand| x ulp(entry) / 2 / ulp_w, rounded up. -/
def CheckEntry.bound (x : CheckEntry) (anchor : Int) (op : Num) : Nat :=
  match op with
  | .fin _ m e =>
    if !x.rounded || m = 0 then 0
    else
      let k := e + x.e - 1 - ulpExp anchor
      if 0 ≤ k then m * 2 ^ k.toNat else (m + 2 ^ (-k).toNat - 1) / 2 ^ (-k).toNat
  | _ => 0

/-- The check side of a check: the sum of products with check entries, each one term (R106), and the bound term (R108). -/
def checkSide (anchor : Int) (ops : List Num) (entries : List CheckEntry) : Contrib × Nat :=
  (ops.zip entries).foldl (fun a oe =>
    (a.1.addProduct anchor (oe.1.mul oe.2.value), a.2 + oe.2.bound anchor oe.1)) (Contrib.zero, 0)

/-- The outcome of one check: skipped (R111), or compared with its tolerance doubled, and whether it passed (R107). -/
structure CheckOutcome where
  kind : Nat
  array : Nat
  index : Nat
  skipped : Bool
  exact : Bool
  passed : Bool
deriving DecidableEq, Repr

/-- Compares the two sides of a check. -/
def compareSides (kind array index : Nat) (data check : Contrib) (bound : Nat) : CheckOutcome :=
  let skipped := data.tainted || check.tainted || decide (2 ^ 64 - 1 ≤ bound)
  let tol2 := data.rnd + check.rnd + 2 * bound
  { kind := kind, array := array, index := index, skipped := skipped, exact := !skipped && tol2 == 0,
    passed := skipped || decide (2 * (data.sum - check.sum).natAbs ≤ tol2) }

/-- The total of a list of contributions. -/
def sumContribs (l : List Contrib) : Contrib := l.foldl Contrib.add Contrib.zero

end Sys2Proof.Machine
end

