-- ==== Sys2Proof/Machine/SampleHook.lean ====
section
/-! DEFINITION. Sampled re-execution on the sampled core (R316): the capture of the first CLR pass of a selected region, and its
digest. -/

namespace Sys2Proof.Machine
open Sys2Proof

/-- SAMPQ counts the captures awaiting re-execution (R327). -/
def State.sampleRefresh (s : State) : State :=
  s.setField Reg.grmStat 20 8 (s.grm.samples.filter (fun e => e.2.phase != .onX)).length

/-- Writes a capture. -/
def State.setSample (s : State) (k : Nat) (x : Sample) : State :=
  { s with grm := { s.grm with samples := Tab.insert s.grm.samples k x } }

/-- Frees a slot. -/
def State.freeSample (s : State) (k : Nat) : State :=
  let t : State := { s with grm := { s.grm with samples := Tab.erase s.grm.samples k } }
  t.sampleRefresh

/-- A pass is issued: in a selected region, the first with CLR = 1 is captured into a free slot of the tile, or skipped and counted
where other cores of the tile have taken the last one since the region was selected (R316; DESIGN CHOICE, log 87). How a capture is laid out in its slot is not stated: its bytes are free. -/
def State.sampleHook (s : State) (c : Nat) (r : PassRun) : State :=
  match s.physOf c with
  | none => s
  | some p =>
    if Tab.get s.grm.sampling 0 p = 0 ∨ (s.core c).region.isNone ∨ (s.core c).package ∨ r.op.x.immBits 18 1 ≠ 1 then s
    else
      let n := p / 25
      let s : State := { s with grm := { s.grm with sampling := Tab.erase s.grm.sampling p } }
      match s.freeSlot n with
      | none => s.count Reg.grmSampleSkip
      | some q =>
        let x : Sample := { x := p, y := 0, z := 0, w := 0, digestX := 0, digestY := 0, digestZ := 0, phase := .onX, run := r,
                            takenAt := s.time.count }
        let s := (s.setSample (16 * n + q) x).count Reg.grmSamples
        s.memFree (n * 2 ^ 39 + s.field Reg.grmCap 0 39 + q * 2 ^ 20) (2 ^ 20)

/-- The digest of lanes in order (R313, R316): W[63:0], then W[95:64] with LSW[31:0], then LSW[95:32] of each. -/
def laneDigest (l : List Lane) : Word :=
  l.foldl (fun d x =>
    let v := x.toNat
    let low := misrFold d (BitVec.ofNat 64 v)
    misrFold (misrFold low (BitVec.ofNat 64 (v >>> 64))) (BitVec.ofNat 64 (v >>> 128))) 0

/-- A sampled pass has written its entries: its digest is formed and the capture awaits re-execution (R316, R317). -/
def State.sampleDone (s : State) (c : Nat) (r : PassRun) (lanes : List Lane) : State :=
  match s.physOf c with
  | none => s
  | some p =>
    match s.grm.samples.find? (fun e => e.2.phase == .onX && e.2.x == p && e.2.run.op.id == r.op.id) with
    | none => s
    | some e =>
      let x : Sample := { e.2 with digestX := (laneDigest lanes).toNat, phase := .onY, run := r }
      (s.setSample e.1 x).sampleRefresh

end Sys2Proof.Machine
end

