-- ==== Sys2Proof/Machine/Matrix.lean ====
section
/-! DEFINITION. Matrix instructions and the matrix engine (class 0x04 of R119, R75-R111, R124-R129): the MAT queue in program
order, weight planes, anchors and pre-scans, passes in the four modes, drains, and the checks of every pass. -/

namespace Sys2Proof.Machine
open Sys2Proof

/-! ### The mode word and the fields of an instruction -/

/-- MODE of MMW (R77): 0 native, 1 shift-reuse, 2 Schuss, 3 skewed-feed. -/
def mmwMode (w : Word) : Nat := bits w.toNat 0 2

/-- SH of MMW. -/
def mmwSh (w : Word) : Nat := bits w.toNat 2 4

/-- SCHM of MMW. -/
def mmwSchm (w : Word) : Nat := bits w.toNat 6 6

/-- The plane an instruction names (R124). -/
def MatOp.plane (o : MatOp) : Nat := if o.kind = .mwld then o.x.immBits 0 1 else o.x.immBits 17 1

/-- EB. -/
def MatOp.eb (o : MatOp) : Nat := o.x.immBits 0 8

/-- M, Np or the drain count. -/
def MatOp.count (o : MatOp) : Nat := o.x.immBits 8 9

/-- CLR of a pass. -/
def MatOp.clr (o : MatOp) : Bool := o.x.immBits 18 1 == 1

/-- DOC of a pass. -/
def MatOp.doc (o : MatOp) : Bool := o.x.immBits 19 1 == 1

/-- SR, OVS and OSC of a pass or drain (R124). -/
def MatOp.conv (o : MatOp) : Bool × Bool × Int :=
  if o.kind = .mpass then (o.x.immBits 20 1 == 1, o.x.immBits 21 1 == 1, signed (o.x.immBits 22 8) 8)
  else (o.x.immBits 21 1 == 1, o.x.immBits 22 1 == 1, signed (o.x.immBits 23 8) 8)

/-- The arrays an instruction drains: those of the mask, all four for a DOC pass (R127). -/
def MatOp.arrays (o : MatOp) : List Nat := if o.kind = .mdrn then bitList 4 (o.x.immBits 17 4) else [0, 1, 2, 3]

/-- A plane by number. -/
def Matrix.plane (m : Matrix) (p : Nat) : Plane := if p = 0 then m.plane0 else m.plane1

/-- Writes a plane. -/
def Matrix.setPlane (m : Matrix) (p : Nat) (x : Plane) : Matrix :=
  if p = 0 then { m with plane0 := x } else { m with plane1 := x }

/-- Changes the matrix engine of a core. -/
def State.modMat (s : State) (c : Nat) (f : Matrix → Matrix) : State :=
  s.modCore c (fun k => { k with mat := f k.mat })

/-- An exception of the matrix engine for an instruction; EB is that of a pass or drain (R156). -/
def State.matExcept (s : State) (c : Nat) (o : MatOp) (code : Nat) (sub array index addr : Nat) : State :=
  let eb := if o.kind = .mpass ∨ o.kind = .mdrn then o.eb else 0
  s.except c { code := code, engine := 1, pc := o.pc, id := o.id, sub := sub, array := array, eb := eb, index := index, addr := addr }

/-- Key of an accumulator entry: array, column (64 the checksum column), entry (R81). -/
def accKey (a col e : Nat) : Nat := (a * 65 + col) * 256 + e

/-- An accumulator entry. -/
def Matrix.entry (m : Matrix) (a col e : Nat) : AccEntry := Tab.get m.acc AccEntry.zero (accKey a col e)

/-- Writes an accumulator entry. -/
def Matrix.setEntry (m : Matrix) (a col e : Nat) (x : AccEntry) : Matrix :=
  { m with acc := Tab.put m.acc AccEntry.zero (accKey a col e) x }

/-- Even parity of a number below 2^32. -/
def evenParity (n : Nat) : Nat :=
  let n := n ^^^ (n >>> 16)
  let n := n ^^^ (n >>> 8)
  let n := n ^^^ (n >>> 4)
  let n := n ^^^ (n >>> 2)
  (n ^^^ (n >>> 1)) % 2

/-- The parity of each field of the LSW, WRAP in bit 0 and NAN in bit 5 (R53). -/
def Lane.parity (l : Lane) : Nat :=
  [l.wrap.toNat, l.rnd, l.tsat, l.pinf, l.ninf, l.nan].foldr (fun x a => evenParity x + 2 * a) 0

/-- An entry as it is written: with the residue of its window and the parities of its LSW (R53, R72, R81). -/
def AccEntry.of (l : Lane) (tag : BitVec 11) (terms : Nat) : AccEntry :=
  { lane := l, tag := tag, res := l.w.toNat % 15, par := l.parity, terms := terms }

/-- Whether an entry reads without a residue or parity failure; the residue 0b1111 always fails (R53, R72-R74). -/
def AccEntry.sound (e : AccEntry) : Bool := e.res == e.lane.w.toNat % 15 && e.par == e.lane.parity

/-- The columns of an array a pass names entries of: all 65, or the token columns of a Schuss pass (R82, R99). -/
def passCols (mmw : Word) : Nat := if mmwMode mmw = 2 then mmwSchm mmw else 65

/-- Array and column of the first entry that does not read soundly, by rows, then arrays, then columns. -/
def Matrix.badEntry (m : Matrix) (arrays : List Nat) (cols eb n : Nat) : Option (Nat × Nat) :=
  (((List.range n).flatMap (fun i => arrays.flatMap (fun a => (List.range cols).map (fun col => (i, a, col))))).find?
    (fun x => !(m.entry x.2.1 x.2.2 (eb + x.1)).sound)).map Prod.snd

/-! ### Weight loads (R76, R79, R98, R124) -/

/-- K-rows of a weight block: 256 for formats of four bits, else 128; a Schuss block spans 256 positions, or 512 (R76, R98). -/
def blockExtent (schuss : Bool) (f : Fmt) : Nat := if schuss then (if f.four then 512 else 256) else if f.four then 256 else 128

/-- The block a load writes into its plane: codes and scales of columns c < D1 (token rows below SCHM in Schuss mode) from D0
index sB. Elements beyond D0 and columns beyond D1 are zero elements (DESIGN CHOICE, log 94: R76 does not say what they are). -/
def loadBlock (k : Core) (o : MatOp) (f : Fmt) : Plane :=
  let schuss := mmwMode k.mat.mmw == 2
  let ext := blockExtent schuss f
  let d := o.dA
  let cols := if schuss then min (dD1 d) (mmwSchm k.mat.mmw) else min (dD1 d) 256
  let off := o.sB.toNat
  let n := min ext (dD0 d - off)
  let elems := (List.range cols).flatMap (fun c => (List.range n).map (fun i =>
    (512 * c + i, k.codeAt f (dRow d c) (off + i))))
  let scales := if f.isMx then (List.range cols).flatMap (fun c => (List.range ((n + 31) / 32)).map (fun b =>
    (16 * c + b, k.scaleAt d c (off + 32 * b)))) else []
  { phase := .loading, schuss := schuss, fmt := dFmtCode d, elems := elems.filter (fun e => e.2 != 0),
    scales := scales.filter (fun e => e.2 != 127), desc := d }

/-- Why a weight load cannot run (R129, R155): FORMAT, or ALIGN with its address. -/
def mwldCheck (o : MatOp) : Option (Nat × Nat) :=
  match dFmt o.dA with
  | none => some (excFormat, 0)
  | some f =>
    if !f.matrixOperand then some (excFormat, 0)
    else match dAlign o.dA f 0 (dD1 o.dA - 1) (dD0 o.dA) with
      | some a => some (excAlign, a)
      | none => none

/-- Whether the load engine is free and no pass in flight reads the plane (R80). -/
def Matrix.loadFree (m : Matrix) (p : Nat) : Bool :=
  m.plane0.phase != .loading && m.plane1.phase != .loading && m.passes.all (fun r => r.op.plane != p)

/-- Starts the load at the head of the queue. -/
def State.startLoad (s : State) (c : Nat) (o : MatOp) : State :=
  let k := s.core c
  let f := (dFmt o.dA).getD .fp32
  let s := s.coreEvent c 0x012 1
  s.modMat c (fun m => { m.setPlane o.plane (loadBlock k o f) with queue := m.queue.tail, loadId := o.id })

/-! ### Anchors and pre-scans (R46-R48, R86, R125) -/

/-- The largest exponent of the examined elements of an operand, 0 where there is none (R47). All rows and columns of the descriptor
are examined, also those a pass or a load would not take (DESIGN CHOICE, log 94). -/
def maxExponent (k : Core) (d : BitVec 256) : Int :=
  match dFmt d with
  | none => 0
  | some f =>
    let es := (List.range (dD1 d)).flatMap (fun i => (List.range (dD0 d)).filterMap (fun j =>
      let x := k.elemAt d f i j
      if x.nonzero then some x.floorLog else none))
    match es with
    | [] => 0
    | e :: t => t.foldl max e

/-- The anchor a pre-scan derives (R47). -/
def scanAnchor (k : Core) (r : ScanRun) : Int :=
  max (-1024) (min 1023 (maxExponent k r.dA + maxExponent k r.dB + 1 + r.aval))

/-- Why a pre-scan cannot run; ASEL of an integer pair is ignored (R48). -/
def scanCheck (dD dA dB : BitVec 256) : Option (Nat × Nat) :=
  match dFmt dA, dFmt dB with
  | some fa, some fb =>
    if !fa.matrixOperand || !fb.matrixOperand || fa.group != fb.group then some (excFormat, 0)
    else if 2 ≤ dAsel dD ∧ !fa.isInt then some (excAnchor, 0)
    else match dAlign dA fa 0 (dD1 dA - 1) (dD0 dA), dAlign dB fb 0 (dD1 dB - 1) (dD0 dB) with
      | some a, _ => some (excAlign, a)
      | none, some b => some (excAlign, b)
      | none, none => none
  | _, _ => some (excFormat, 0)

/-- Starts the pre-scan of a MANC at the head of the queue. -/
def State.startScan (s : State) (c : Nat) (o : MatOp) : State :=
  s.modMat c (fun m => { m with queue := m.queue.tail, scan := some { slot := o.x.d.toNat, dA := o.dA, dB := o.dB, aval := dAval o.dD, forPass := false, id := o.id } })

/-! ### Passes -/

/-- What a pass finds about its formats: activation and weight, or FORMAT (R43, R44). -/
def passFormats (o : MatOp) (p : Plane) : Option (Fmt × Fmt) :=
  match dFmt o.dA, Fmt.ofCode p.fmt with
  | some fa, some fb => if fa.matrixOperand && fb.matrixOperand && fa.group == fb.group then some (fa, fb) else none
  | _, _ => none

/-- K-elements of a row under the pair rate: 256 where both formats have four bits (R76), doubled in Schuss mode (R98). -/
def passExtent (mode : Nat) (fa fb : Fmt) : Nat := (if fa.four && fb.four then 256 else 128) * (if mode = 2 then 2 else 1)

/-- Whether the destination descriptor of a drain or DOC pass is large enough (R127). -/
def drainFits (d : BitVec 256) (arrays : List Nat) (count : Nat) : Bool :=
  let top := arrays.foldl (fun a b => max a (b + 1)) 0
  decide (64 * top ≤ dD0 d) && decide (count ≤ dD1 d)

/-- Why the destination of a drain or DOC pass cannot take it: FORMAT, PASSLIM or ALIGN. -/
def destCheck (o : MatOp) : Option (Nat × Nat) :=
  match dFmt o.dD with
  | none => some (excFormat, 0)
  | some f =>
    if !f.drainOutput then some (excFormat, 0)
    else if !drainFits o.dD o.arrays o.count then some (excPassLim, 0)
    else match dAlign o.dD f 0 (o.count - 1) (dD0 o.dD) with
      | some a => some (excAlign, a)
      | none => none

/-- MODE violations of a pass (R77, R78, R94): SH or SCHM out of range, an invalid plane, a shift-reuse operand that may not
shift. A 4-bit weight block spans 256 K whatever the activation, so that an INT4 weight under an INT8 activation may not shift
either (DESIGN CHOICE, log 94). -/
def passModeBad (mmw : Word) (p : Plane) (fa fb : Fmt) : Bool :=
  let mode := mmwMode mmw
  p.phase == .invalid || (p.schuss != (mode == 2)) ||
  (mode == 1 && (!(1 ≤ mmwSh mmw && mmwSh mmw ≤ 8) || fa.isMx || fa == .int4 || fb.four)) ||
  (mode == 2 && !(1 ≤ mmwSchm mmw && mmwSchm mmw ≤ 32))

/-- The anchor a pass runs under: 80 for integers, AVAL, or its slot (R48, R125); none where its slot is empty. The slot is read when
the pass starts, so that an LDT or TSET of the register issued meanwhile empties it (DESIGN CHOICE, log 93). -/
def passAnchor (k : Core) (o : MatOp) (fa : Fmt) : Option Int :=
  if fa.isInt then some 80
  else if dAsel o.dD = 0 then some (dAval o.dD)
  else Tab.find k.anchors o.x.d.toNat

/-- The tag an entry will have once the passes in flight have written (R82, R83, R99). -/
def Matrix.tagAfter (m : Matrix) (a col e : Nat) : BitVec 11 :=
  m.passes.foldl (fun t r =>
    if r.op.eb ≤ e && e < r.op.eb + r.op.count && col < passCols r.mmw then BitVec.ofInt 11 r.anchor else t) (m.entry a col e).tag

/-- Whether every entry a pass names has the tag of its anchor (R82). -/
def Matrix.tagsMatch (m : Matrix) (o : MatOp) (anchor : Int) : Bool :=
  (List.range o.count).all (fun i => (List.range 4).all (fun a => (List.range (passCols m.mmw)).all (fun col =>
    m.tagAfter a col (o.eb + i) == BitVec.ofInt 11 anchor)))

/-- Why a pass cannot start, beside its anchor: in the order FORMAT, MODE, PASSLIM, ANCHOR (R129), then ALIGN. -/
def passCheck (k : Core) (o : MatOp) : Option (Nat × Nat) :=
  let p := k.mat.plane o.plane
  if p.phase = .invalid then some (excMode, 0)
  else match passFormats o p with
  | none => some (excFormat, 0)
  | some (fa, fb) =>
    if passModeBad k.mat.mmw p fa fb then some (excMode, 0)
    else if o.count = 0 ∨ 256 < o.count ∨ 256 < o.eb + o.count then some (excPassLim, 0)
    else if 2 ≤ dAsel o.dD ∧ !fa.isInt then some (excAnchor, 0)
    else match dAlign o.dA fa 0 (dD1 o.dA - 1) (dD0 o.dA) with
      | some a => some (excAlign, a)
      | none => if o.doc then destCheck o else none

/-- One row, or one stream column, of the streamed operand at element (d1, d0 + k): codes, zero beyond the operand. -/
def rowCodes (k : Core) (d : BitVec 256) (f : Fmt) (d1 d0 n : Nat) : List Nat :=
  (List.range n).map (fun i => if d1 < dD1 d ∧ d0 + i < dD0 d then k.codeAt f (dRow d d1) (d0 + i) else 0)

/-- The scales of one row: each run of 32 elements from the origin takes the scale of its first element, also where the origin is no
multiple of 32 (DESIGN CHOICE, log 94: R76 does not say). -/
def rowScales (k : Core) (d : BitVec 256) (f : Fmt) (d1 d0 n : Nat) : List Nat :=
  if f.isMx then (List.range (n / 32)).map (fun b =>
    if d1 < dD1 d ∧ d0 + 32 * b < dD0 d then k.scaleAt d d1 (d0 + 32 * b) else 127) else []

/-- The streamed operand of a pass but a Schuss one, row by row (R126): native and skewed rows; the shift-reuse stream, whose row m
carries elements m SH + p of the D1-major stream (R93). -/
def streamRows (k : Core) (o : MatOp) (fa fb : Fmt) : List (List Nat) × List (List Nat) :=
  let mode := mmwMode k.mat.mmw
  let d := o.dA
  let n := passExtent mode fa fb
  let b := o.sB.toNat
  if mode = 1 then
    ((List.range o.count).map (fun m => (List.range n).map (fun p =>
      let e := b + m * mmwSh k.mat.mmw + p
      let d1 := if dD0 d = 0 then 0 else e / dD0 d
      let d0 := if dD0 d = 0 then e else e % dD0 d
      if d1 < dD1 d then k.codeAt fa (dRow d d1) d0 else 0)), [])
  else
    let r0 := b % 65536
    let k0 := b / 65536 % 2 ^ 32
    ((List.range o.count).map (fun m => rowCodes k d fa (r0 + m) k0 n),
     (List.range o.count).map (fun m => rowScales k d fa (r0 + m) k0 n))

/-- Column i of the stream of a Schuss pass as a column of its ring (R126). -/
def MatOp.ringColumn (o : MatOp) (i : Nat) : Nat := if dD1 o.dA = 0 then 0 else (o.sB.toNat % 65536 + i) % dD1 o.dA

/-- Whether two byte ranges meet. -/
def rangesMeet (a n b m : Nat) : Bool := decide (a < b + m) && decide (b < a + n) && decide (0 < n) && decide (0 < m)

/-- Whether a DMAC writes elements or scales of a ring column of n elements in core store (R100). -/
def DmaOp.fillsColumn (o : DmaOp) (d : BitVec 256) (f : Fmt) (n c : Nat) : Bool :=
  let m := min n (dD0 d)
  dSpace o.dD == 1 && (match dFmt o.dD with
    | none => false
    | some g => (dSegs o.dD g).any (fun x => rangesMeet x.1 x.2 (dRow d c) (rowBytes f m) ||
        (f.isMx && rangesMeet x.1 x.2 (dScaleAddr d c 0) ((m + 31) / 32))))

/-- Activation format of a pass. -/
def PassRun.format (r : PassRun) : Fmt × Nat :=
  match passFormats r.op r.plane with
  | some (fa, fb) => (fa, passExtent (mmwMode r.mmw) fa fb)
  | none => (.fp32, 0)

/-- Whether the feeder has delivered all of a pass. -/
def PassRun.fed (r : PassRun) : Bool := mmwMode r.mmw != 2 || r.rows.length == 4 * r.op.count

/-- The feeder of a Schuss pass reads its ring columns in order as far as they have arrived (R88, R100): one that a DMAC of the core
still writes is waited for, unless DMA has filled it since the pass last read it. -/
def PassRun.feedN (k : Core) : Nat → PassRun → PassRun
  | 0, r => r
  | n + 1, r =>
    if r.fed then r
    else
      let f := r.format
      let c := r.op.ringColumn r.rows.length
      if k.dma.any (fun o => o.fillsColumn r.op.dA f.1 f.2 c) && !r.filled.contains c then r
      else PassRun.feedN k n { r with
        rows := r.rows ++ [rowCodes k r.op.dA f.1 c 0 f.2], scales := r.scales ++ [rowScales k r.op.dA f.1 c 0 f.2], filled := r.filled.erase c }

/-- A pass with everything its feeder can read by now. -/
def PassRun.feed (k : Core) (r : PassRun) : PassRun := PassRun.feedN k (4 * r.op.count) r

/-- A pass as it starts: native, shift-reuse and skewed rows at once, Schuss columns as they arrive. -/
def passRun (k : Core) (o : MatOp) (anchor : Int) (fa fb : Fmt) : PassRun :=
  let r : PassRun := { op := o, anchor := anchor, mmw := k.mat.mmw, plane := k.mat.plane o.plane, rows := [], scales := [], filled := [] }
  if mmwMode k.mat.mmw = 2 then r.feed k
  else
    let st := streamRows k o fa fb
    { r with rows := st.1, scales := st.2 }

/-- DMA has written core store: the Schuss passes in flight find the ring columns it filled, and read on (R100). -/
def State.feedFrom (s : State) (c : Nat) (o : DmaOp) : State :=
  let k := s.core c
  if k.mat.passes.isEmpty then s
  else s.modMat c (fun m => { m with passes := m.passes.map (fun r =>
    if mmwMode r.mmw = 2 then
      let f := r.format
      let used := (List.range (min (dD1 r.op.dA) (4 * r.op.count))).map r.op.ringColumn
      PassRun.feed k { r with filled := r.filled ++ used.filter (fun q => !r.filled.contains q && o.fillsColumn r.op.dA f.1 f.2 q) }
    else r) })

/-- Whether a pass may start now: its plane valid, its anchor known, no scan in flight for it, no drain in flight over its entries
(R79, R83, R86). -/
def Matrix.passReady (m : Matrix) (o : MatOp) : Bool :=
  (m.plane o.plane).phase == .valid && !m.halted &&
  m.drains.all (fun d => decide (d.eb + d.count ≤ o.eb) || decide (o.eb + o.count ≤ d.eb))

/-- Whether nothing of the engine is in flight. -/
def Matrix.idle (m : Matrix) : Bool :=
  m.passes.isEmpty && m.drains.isEmpty && m.scan.isNone && m.plane0.phase != .loading && m.plane1.phase != .loading

/-- The instruction at the head of the queue raises its exception, once every earlier one has completed (R154). -/
def State.raiseHead (s : State) (c : Nat) (o : MatOp) (code a : Nat) : State :=
  if (s.core c).mat.idle then (s.modMat c (fun m => { m with queue := m.queue.tail })).matExcept c o code 0 0 0 a else s

/-- Starts the pass at the head of the queue, or its pre-scan where its slot is empty, or raises ANCHOR. -/
def State.startPass (s : State) (c : Nat) (o : MatOp) : State :=
  let k := s.core c
  let p := k.mat.plane o.plane
  match passFormats o p with
  | none => s
  | some (fa, fb) =>
    match passAnchor k o fa with
    | none =>
      if k.mat.scan.isSome then s
      else s.modMat c (fun m =>
        { m with scan := some { slot := o.x.d.toNat, dA := o.dA, dB := p.desc, aval := dAval o.dD, forPass := true, id := o.id } })
    | some anchor =>
      if !k.mat.passReady o then s
      else if !o.clr && !k.mat.tagsMatch o anchor then s.raiseHead c o excAnchor 0
      else
        let run := passRun k o anchor fa fb
        let s := s.modMat c (fun m => { m with queue := m.queue.tail, passes := m.passes ++ [run] })
        s.sampleHook c run

/-! ### Drains (R84, R127, R128) -/

/-- Why a drain cannot start: FORMAT, PASSLIM, ANCHOR, ALIGN (R129). -/
def drainCheck (k : Core) (o : MatOp) : Option (Nat × Nat) :=
  if o.count = 0 ∨ 256 < o.count ∨ 256 < o.eb + o.count then some (excPassLim, 0)
  else match destCheck o with
    | some e => some e
    | none =>
      if dFmt o.dD = some .anch then
        if dAsel o.dD ≠ 0 then some (excAnchor, 0)
        else if o.arrays.any (fun a => (List.range o.count).any (fun i => (List.range 64).any (fun col =>
            (k.mat.entry a col (o.eb + i)).tag != BitVec.ofInt 11 (dAval o.dD)))) then some (excAnchor, 0)
        else none
      else none

/-- Whether a drain may start: no pass in flight over its entries (R83). -/
def Matrix.drainReady (m : Matrix) (o : MatOp) : Bool :=
  m.passes.all (fun r => decide (r.op.eb + r.op.count ≤ o.eb) || decide (o.eb + o.count ≤ r.op.eb))

/-- Starts the drain at the head of the queue. -/
def State.startDrain (s : State) (c : Nat) (o : MatOp) : State :=
  s.modMat c (fun m => { m with queue := m.queue.tail, drains := m.drains ++ [o] })

/-- Why the instruction at the head of the queue cannot run: a parity error of what it reads, or its own exception (R129, R155). -/
def MatOp.why (o : MatOp) (k : Core) : Option (Nat × Nat) :=
  match o.x.hw with
  | .parity a => some (excParity, a)
  | _ =>
    match o.kind with
    | .mwld => mwldCheck o
    | .manc => scanCheck o.dD o.dA o.dB
    | .mpass => passCheck k o
    | .mdrn => drainCheck k o
    | .mmode => none
    | .mrdmode => none

/-- The rounding of element (row, col) of a destination (R60, R117). -/
def drainRounding (k : Core) (o : MatOp) (row col : Nat) : Rounding :=
  if o.conv.1 then .sr (srBits k.ctx.job k.ctx.step (dTensor o.dD) (dIndex o.dD row col)) else .rne

/-- Converts and stores row i of a drain or DOC pass: entry EB + i of every column of its arrays to columns 64 a + c of row i of
the destination (R127); MX destinations in blocks of 32 columns (R84). -/
def drainRow (k : Core) (o : MatOp) (f : Fmt) (i : Nat) (out : Core × ConvCount) : Core × ConvCount :=
  let d := o.dD
  let row := dRow d i
  let ent := fun (a col : Nat) => k.mat.entry a col (o.eb + i)
  if f = .anch then
    o.arrays.foldl (fun out a => (List.range 64).foldl (fun out col =>
      (out.1.putCode f row (64 * a + col) (ent a col).lane.toNat, out.2)) out) out
  else if f.isMx then
    o.arrays.foldl (fun out a => [0, 32].foldl (fun out c0 =>
      let vals := (List.range 32).map (fun j =>
        let r := (ent a (c0 + j)).lane.readout (ent a (c0 + j)).tag.toInt
        (r.1.scale o.conv.2.2, r.2))
      let b := f.convertMx (fun j => drainRounding k o i (64 * a + c0 + j)) vals
      let core := b.2.1.zipIdx.foldl (fun x ci => x.putCode f row (64 * a + c0 + ci.2) ci.1) out.1
      (core.putBytes (dScaleAddr d i (64 * a + c0)) [BitVec.ofNat 8 b.1], out.2.add b.2.2)) out) out
  else
    o.arrays.foldl (fun out a => (List.range 64).foldl (fun out col =>
      let e := ent a col
      let r := e.lane.convert f e.tag.toInt (drainRounding k o i (64 * a + col)) o.conv.2.2 o.conv.2.1
      (out.1.putCode f row (64 * a + col) r.1, out.2.add r.2)) out) out

/-- The first rows of a drain, or of the conversion of a DOC pass. -/
def drainRows (k : Core) (o : MatOp) (rows : Nat) : Core × ConvCount :=
  match dFmt o.dD with
  | none => (k, ConvCount.zero)
  | some f => (List.range rows).foldl (fun out i => drainRow k o f i out) (k, ConvCount.zero)

/-- The whole of it. -/
def drainAll (k : Core) (o : MatOp) : Core × ConvCount := drainRows k o o.count

/-- MSTS with the conversion counts of a drain or DOC pass (R120). -/
def mstsCounts (w : Word) (c : ConvCount) : Word := vstsLike w c
where
  /-- The two 16-bit counts, saturating. -/
  vstsLike (w : Word) (c : ConvCount) : Word :=
    BitVec.ofNat 64 (setBits (setBits w.toNat 16 16 (min 65535 c.ovf)) 32 16 (min 65535 c.inv))

/-! ### The queue -/

/-- Executes the mode instruction at the head of the queue: MMW takes sA's fields; a change into or out of Schuss mode invalidates
both planes (R77, R78). -/
def State.runMode (s : State) (c : Nat) (o : MatOp) : State :=
  s.modMat c (fun m =>
    let w : Word := o.sB &&& 0xFFF#64
    let change := (mmwMode m.mmw == 2) != (mmwMode w == 2)
    let m := { m with mmw := w, queue := m.queue.tail }
    if change then
      { m with plane0 := { m.plane0 with phase := .invalid }, plane1 := { m.plane1 with phase := .invalid } }
    else m)

/-- Executes the MRDMODE at the head of the queue. -/
def State.runReadMode (s : State) (c : Nat) (o : MatOp) : State :=
  s.modCore c (fun k => { k.setS o.x.d.toNat k.mat.mmw with mat := { k.mat with queue := k.mat.queue.tail } })

/-- Takes instructions from the head of the MAT queue, in program order, as far as they need not wait (R112, R113). With `all`
false, a pass at the head is left for its MATRIX_PASS_START. -/
def State.matAdvance (s : State) (c : Nat) (all : Bool) : Nat → State
  | 0 => s
  | fuel + 1 =>
    let k := s.core c
    match k.mat.queue with
    | [] => s
    | o :: _ =>
      let s' := match o.why k with
        | some (code, a) => if all || o.kind != .mpass then s.raiseHead c o code a else s
        | none => match o.kind with
          | .mwld => if k.mat.loadFree o.plane then s.startLoad c o else s
          | .manc => if k.mat.scan.isSome then s else s.startScan c o
          | .mpass => if all then s.startPass c o else s
          | .mdrn => if k.mat.drainReady o then s.startDrain c o else s
          | .mmode => if k.mat.passes.isEmpty then s.runMode c o else s
          | .mrdmode => s.runReadMode c o
      if (s'.core c).mat.queue.length < k.mat.queue.length then (s'.progress (4 * c + 1)).matAdvance c all fuel else s'

/-- Puts a matrix instruction in the queue and lets the engine take what it can. -/
def State.matEnqueue (s : State) (c : Nat) (o : MatOp) : State :=
  let s := s.modCore c (fun k =>
    { k with pc := (k.pc + 8) % 2 ^ 48, mat := { k.mat with queue := k.mat.queue ++ [o] }, nextOp := k.nextOp + 1 })
  s.matAdvance c true 17

/-- A matrix instruction as CTL issues it: its queue must have room (R112). -/
def matIssue (x : Fki) (fn : Nat) (kind : MatKind) (sUse tUse : List Nat) (ok : Bool) (s : State) :
    Host.Outcome State Fault Refusal :=
  fkiWhen x 1 4 fn sUse tUse (fun k => decide (k.mat.queue.length < 16)) ok
    (fun s =>
      let k := s.core x.core
      s.matEnqueue x.core
        { kind := kind, pc := k.pc, x := x, dD := k.tr x.d.toNat, dA := k.tr x.a.toNat, dB := k.tr x.b.toNat,
          sB := if kind == .mmode then k.sr x.a.toNat else k.sr x.b.toNat, id := k.nextOp }) s

/-- MWLD: loads a weight block, or in Schuss mode the activation block, into the plane IMM[0] (R124). -/
def execMwld (x : Fki) (s : State) : Host.Outcome State Fault Refusal :=
  matIssue x 0 .mwld [x.b.toNat] [x.a.toNat]
    (rsvOk [x.d.toNat, x.c.toNat, x.immBits 1 31] && decide (x.a.toNat < 16)) s

/-- MANC: a pre-scan over tA and tB with the AVAL of tD into tD's anchor slot (R125). -/
def execManc (x : Fki) (s : State) : Host.Outcome State Fault Refusal :=
  matIssue x 1 .manc [] [x.d.toNat, x.a.toNat, x.b.toNat]
    (rsvOk [x.c.toNat, x.im] && decide (x.d.toNat < 16) && decide (x.a.toNat < 16) && decide (x.b.toNat < 16)) s

/-- MPASS: a pass of M rows or Np columns (R124, R126). -/
def execMpass (x : Fki) (s : State) : Host.Outcome State Fault Refusal :=
  matIssue x 2 .mpass [x.b.toNat] [x.d.toNat, x.a.toNat]
    (rsvOk [x.c.toNat, x.immBits 30 2] && decide (x.d.toNat < 16) && decide (x.a.toNat < 16)) s

/-- MDRN: drains accumulator entries into tD (R124, R127). -/
def execMdrn (x : Fki) (s : State) : Host.Outcome State Fault Refusal :=
  matIssue x 3 .mdrn [] [x.d.toNat]
    (rsvOk [x.a.toNat, x.b.toNat, x.c.toNat, x.immBits 31 1] && decide (x.d.toNat < 16)) s

/-- MMODE: MMW = sA, behind any pass in flight (R77, R124). -/
def execMmode (x : Fki) (s : State) : Host.Outcome State Fault Refusal :=
  matIssue x 4 .mmode [x.a.toNat] [] (rsvOk [x.d.toNat, x.b.toNat, x.c.toNat, x.im]) s

/-- MRDMODE: sD = MMW (R77, R124). -/
def execMrdmode (x : Fki) (s : State) : Host.Outcome State Fault Refusal :=
  matIssue x 5 .mrdmode [x.d.toNat] [] (rsvOk [x.a.toNat, x.b.toNat, x.c.toNat, x.im]) s

/-! ### Events of the engine -/

/-- Whether the engine's clock and core allow an event: the core is RUNNING or finishing what it executes, and not held by a
global stop. -/
def State.matRuns (s : State) (c : Nat) : Bool :=
  decide (c < 192) && (s.coreState c == 2 || s.coreState c == 3 || (s.core c).package) && !s.coreHalted c

/-- WEIGHT_LOAD_START: the load at the head of the queue, held by a pass that read its plane, starts (R80). -/
def execWeightLoadStart (core plane : Nat) (s : State) : Host.Outcome State Fault Refusal :=
  act (fun s => s.matRuns core && (match (s.core core).mat.queue with
      | o :: _ => o.kind == .mwld && o.plane == plane && (s.core core).mat.plane0.phase != .loading &&
          (s.core core).mat.plane1.phase != .loading
      | [] => false))
    (fun s => match (s.core core).mat.queue with
      | o :: _ => (if (o.why (s.core core)).isNone then s.startLoad core o else s).matAdvance core true 17
      | [] => s) s

/-- WEIGHT_LOAD_COMPLETE: the plane is valid for broadcast (R79). -/
def execWeightLoadComplete (core plane : Nat) (s : State) : Host.Outcome State Fault Refusal :=
  act (fun s => s.matRuns core && ((s.core core).mat.plane plane).phase == .loading)
    (fun s =>
      (((s.modMat core (fun m => m.setPlane plane { m.plane plane with phase := .valid })).progress (4 * core + 1)).matAdvance core false
        17).stopDone core) s

/-- PRESCAN_COMPLETE: the anchor is written into the slot of the output descriptor (R86, R125). -/
def execPrescanComplete (core : Nat) (s : State) : Host.Outcome State Fault Refusal :=
  act (fun s => s.matRuns core && (s.core core).mat.scan.isSome)
    (fun s => match (s.core core).mat.scan with
      | none => s
      | some r =>
        let s := s.modCore core (fun k =>
          { k with anchors := Tab.insert k.anchors r.slot (scanAnchor k r), mat := { k.mat with scan := none } })
        ((s.progress (4 * core + 1)).matAdvance core false 17).stopDone core) s

/-- MATRIX_PASS_START: the pass at the head of the queue, held for its plane, its anchor scan or the scoreboard, starts; the cycles
it waited for its plane are counted (R79, R83, R86). -/
def execMatrixPassStart (core waited : Nat) (s : State) : Host.Outcome State Fault Refusal :=
  act (fun s => s.matRuns core && (match (s.core core).mat.queue with
      | o :: _ => o.kind == .mpass && ((s.core core).mat.passReady o || (o.why (s.core core)).isSome)
      | [] => false))
    (fun s => match (s.core core).mat.queue with
      | _ :: _ => (s.countN (Reg.pmcMat core 4) waited).matAdvance core true 17
      | [] => s) s

/-! ### Completion of a pass -/

/-- The weight operand of a plane as columns of codes and scales. -/
def planeCol (p : Plane) (n c : Nat) : List Nat × List Nat :=
  ((List.range n).map (fun i => Tab.get p.elems 0 (512 * c + i)),
   (List.range (n / 32)).map (fun b => Tab.get p.scales 127 (16 * c + b)))

/-- The results of a pass: for each array, rows of column contributions (row m of array a at index m), the checksum lanes, and
the outcomes of its checks in the order they are compared (R107). -/
structure PassResult where
  data : List (List (List Contrib))
  checks : List (List Contrib)
  outcomes : List CheckOutcome
deriving DecidableEq, Repr

/-- One array of a native, shift-reuse or skewed pass (R75, R107): contributions, checksum lanes, row checks, column checks. -/
def arrayPass (r : PassRun) (fa fb : Fmt) (n a : Nat) :
    List (List Contrib) × List Contrib × List CheckOutcome × List CheckOutcome :=
  let cols := (List.range 64).map (fun c => planeCol r.plane n (64 * a + c))
  let rows := r.rows.zipIdx.map (fun ri => (ri.1, r.scales.getD ri.2 []))
  let data := rows.map (fun row => cols.map (fun col => dot r.anchor fa fb row.1 col.1 row.2 col.2))
  let wcheck := (List.range n).map (fun k => checkEntry (cols.map (fun col => elemValue fb col.1 col.2 k)))
  let q := rows.map (fun row => checkSide r.anchor ((List.range n).map (elemValue fa row.1 row.2)) wcheck)
  let acheck := (List.range n).map (fun k => checkEntry (rows.map (fun row => elemValue fa row.1 row.2 k)))
  let s := cols.map (fun col => checkSide r.anchor ((List.range n).map (elemValue fb col.1 col.2)) acheck)
  let rowOut := (data.zip q).zipIdx.map (fun x => compareSides 0 a x.2 (sumContribs x.1.1) x.1.2.1 x.1.2.2)
  let colOut := s.zipIdx.map (fun x =>
    compareSides 1 a x.2 (sumContribs (data.map (fun row => row.getD x.2 Contrib.zero))) x.1.1 x.1.2)
  (data, q.map Prod.fst, rowOut, colOut)

/-- One array of a Schuss pass (R97, R99, R107): column i' of the array's stream against the token rows below SCHM; entry EB + i'
of accumulator column i. -/
def arraySchuss (r : PassRun) (fa fb : Fmt) (n a : Nat) : List (List Contrib) × List CheckOutcome :=
  let np := r.op.count
  let tokens := (List.range (mmwSchm r.mmw)).map (fun i => planeCol r.plane n i)
  let cols := (List.range np).map (fun i => (r.rows.getD (a * np + i) [], r.scales.getD (a * np + i) []))
  let data := cols.map (fun col => tokens.map (fun t => dot r.anchor fb fa t.1 col.1 t.2 col.2))
  let wcheck := (List.range n).map (fun k => checkEntry (cols.map (fun col => elemValue fa col.1 col.2 k)))
  let outs := tokens.zipIdx.map (fun t =>
    let q := checkSide r.anchor ((List.range n).map (elemValue fb t.1.1 t.1.2)) wcheck
    compareSides 2 a t.2 (sumContribs (data.map (fun row => row.getD t.2 Contrib.zero))) q.1 q.2)
  (data, outs)

/-- The contributions and checks of a whole pass. -/
def passResult (r : PassRun) : PassResult :=
  match passFormats r.op r.plane with
  | none => { data := [], checks := [], outcomes := [] }
  | some (fa, fb) =>
    let n := passExtent (mmwMode r.mmw) fa fb
    if mmwMode r.mmw = 2 then
      let x := [0, 1, 2, 3].map (arraySchuss r fa fb n)
      { data := x.map Prod.fst, checks := [], outcomes := x.flatMap Prod.snd }
    else
      let x := [0, 1, 2, 3].map (arrayPass r fa fb n)
      let rows := (List.range r.rows.length).flatMap (fun m => x.filterMap (fun y => y.2.2.1[m]?))
      { data := x.map (fun y => y.1), checks := x.map (fun y => y.2.1), outcomes := rows ++ x.flatMap (fun y => y.2.2.2) }

/-- An entry after a contribution: its own under CLR, else added (R82); beyond 2^31 terms window and wrap count are free (R54). -/
def AccEntry.take (e : AccEntry) (clr : Bool) (anchor : Int) (c : Contrib) (free : Nat) : AccEntry :=
  let l := if clr then c.lane else e.lane.add c.lane
  let n := if clr then c.terms else e.terms + c.terms
  let l := if 2 ^ 31 < n then { l with w := BitVec.ofNat 96 free, wrap := BitVec.ofNat 32 (free >>> 96) } else l
  .of l (BitVec.ofInt 11 anchor) n

/-- Writes the contributions of a pass into the entries (R82, R99); in the checksum column, the checksum lanes. -/
def writeEntries (m : Matrix) (r : PassRun) (x : PassResult) (free : Nat) : Matrix :=
  let put := fun (m : Matrix) (a col i : Nat) (c : Contrib) =>
    m.setEntry a col (r.op.eb + i) ((m.entry a col (r.op.eb + i)).take r.op.clr r.anchor c free)
  let m := x.data.zipIdx.foldl (fun m arr => arr.1.zipIdx.foldl (fun m row => row.1.zipIdx.foldl (fun m c =>
    put m arr.2 c.2 row.2 c.1) m) m) m
  x.checks.zipIdx.foldl (fun m arr => arr.1.zipIdx.foldl (fun m c => put m arr.2 64 c.2 c.1) m) m

/-- The entries of a failed pass, all it names, hold undefined values (R110): free lanes and tags. -/
def undefineEntries (m : Matrix) (r : PassRun) (base : Nat) : Matrix :=
  (List.range 4).foldl (fun m a => (List.range (passCols r.mmw)).foldl (fun m col => (List.range r.op.count).foldl (fun m i =>
    let f := Config.freeValue (base + accKey a col i)
    m.setEntry a col (r.op.eb + i) (.of (Lane.ofNat f) (BitVec.ofNat 11 (f >>> 192)) 0)) m) m) m

/-- The engine stops on an arithmetic error of its oldest pass; the checks it had skipped are counted (R74, R110, R111). -/
def State.matFail (s : State) (c : Nat) (r : PassRun) (skips code sub array index addr : Nat) : State :=
  let base := s.freeIndex
  let s := { s with freeIndex := base + 4 * 65 * 256 }
  let s := s.modMat c (fun m => { undefineEntries m r base with passes := m.passes.tail, halted := true })
  (s.countN (Reg.pmcMat c 7) skips).matExcept c r.op code sub array index addr

/-- MSTS after a completed pass (R109, R120): EXACT and SKIPPED of this pass, ANYBOUND sticky. -/
def mstsAfter (w : Word) (exact skipped : Bool) : Word :=
  BitVec.ofNat 64 (setBits (setBits (setBits w.toNat 0 1 (b2n exact)) 1 1 (b2n skipped)) 2 1
    (bits w.toNat 2 1 ||| b2n (!exact)))

/-- The lanes a pass has written, in the order of array, column and entry (R99, R316). -/
def writtenLanes (m : Matrix) (r : PassRun) : List Lane :=
  (List.range 4).flatMap (fun a => (List.range (min 64 (passCols r.mmw))).flatMap (fun col =>
    (List.range r.op.count).map (fun i => (m.entry a col (r.op.eb + i)).lane)))

/-- Wrong bits of the first window a pass writes, which its residue follows: no check meets them (R304). -/
def Matrix.flip (m : Matrix) (r : PassRun) (hw : HwError) : Matrix :=
  match hw with
  | .silent bits =>
    let e := m.entry 0 0 r.op.eb
    m.setEntry 0 0 r.op.eb (.of { e.lane with w := e.lane.w ^^^ bits } e.tag e.terms)
  | _ => m

/-- What a pass that passed every check does at its completion. -/
def State.passDone (s : State) (c : Nat) (r : PassRun) (x : PassResult) (hw : HwError) : State :=
  let exact := x.outcomes.all (fun o => o.exact)
  let skips := (x.outcomes.filter (fun o => o.skipped)).length
  let f := s.fresh
  let s := f.2.modMat c (fun m => { (writeEntries m r x f.1).flip r hw with passes := m.passes.tail })
  let s := s.sampleDone c r (writtenLanes (s.core c).mat r)
  let s := s.modCore c (fun k =>
    let k := { k with msts := mstsAfter k.msts exact (skips != 0) }
    if r.op.doc then
      let d := drainAll k r.op
      { d.1 with msts := mstsCounts k.msts d.2 }
    else k)
  let s := s.count (Reg.pmcMat c 0)
  let s := s.count (Reg.pmcMat c (if exact then 5 else 6))
  let s := s.countN (Reg.pmcMat c 7) skips
  let s := s.coreEvent c 0x010 r.rows.length
  let s := s.coreEvent c 0x011 ((x.data.map (fun a => (a.map List.length).sum)).sum * (r.rows.headD []).length / 1024)
  s.traceRetire c 1 r.op.pc (s.core c).msts

/-- What reading the entries of a pass finds: an accumulating pass whose entry fails its residue or parity is a failure of stage 5,
with array and column (R73, R74). -/
def PassRun.readFault (r : PassRun) (m : Matrix) : Option (Nat × Nat) :=
  if r.op.clr then none else m.badEntry [0, 1, 2, 3] (passCols r.mmw) r.op.eb r.op.count

/-- Checks a pass has skipped before one at which it failed. -/
def skippedBefore (l : List CheckOutcome) (failed : CheckOutcome → Bool) : Nat :=
  ((l.takeWhile (fun o => !failed o)).filter (fun o => o.skipped)).length

/-- The oldest pass in flight ends: a failure reported of its datapath, one met reading its entries, or a check that does not hold
stops the engine; else it has its effect (R73, R74, R107-R111). -/
def State.passEnd (s : State) (c : Nat) (r : PassRun) (hw : HwError) : State :=
  let x := passResult r
  match hw with
  | .residue stage array index => s.matFail c r 0 excResidue stage array index 0
  | .parity a => s.matFail c r 0 excParity 0 0 0 a
  | .check kind array index =>
    s.matFail c r (skippedBefore x.outcomes (fun o => o.kind == kind && o.array == array && o.index == index)) excCheck kind array index 0
  | _ =>
    match r.readFault (s.core c).mat with
    | some (array, col) => s.matFail c r 0 excResidue 5 array col 0
    | none =>
      match x.outcomes.find? (fun o => !o.passed) with
      | some o => s.matFail c r (skippedBefore x.outcomes (fun o => !o.passed)) excCheck o.kind o.array o.index 0
      | none => ((s.passDone c r x hw).matAdvance c false 17).stopDone c

/-- MATRIX_PASS_COMPLETE: the oldest pass in flight, all of whose operand has arrived, has written its last entry; its checks are
compared, MSTS and the counters set, its frozen cycles counted by cause (R85, R88, R90, R100, R101, R104, R107-R111). -/
def execMatrixPassComplete (core frzFeed frzDrain frzBoth : Nat) (hw : HwError) (s : State) :
    Host.Outcome State Fault Refusal :=
  act (fun s => s.matRuns core && (match (s.core core).mat.passes with
      | r :: _ => (PassRun.feed (s.core core) r).fed
      | [] => false))
    (fun s => match (s.core core).mat.passes with
      | [] => s
      | r :: _ =>
        let r := PassRun.feed (s.core core) r
        let s := s.countN (Reg.pmcMat core 1) (frzFeed + frzDrain + frzBoth)
        let s := s.countN (Reg.pmcMat core 2) (frzFeed + frzBoth)
        let s := s.countN (Reg.pmcMat core 3) (frzDrain + frzBoth)
        s.passEnd core r hw) s

/-- The oldest drain in flight ends: it has converted and stored its rows, unless its datapath, or reading an entry, fails. -/
def State.drainEnd (s : State) (c : Nat) (o : MatOp) (hw : HwError) : State :=
  match hw with
  | .residue stage array index => s.matExcept c o excResidue stage array index 0
  | .parity a => s.matExcept c o excParity 0 0 0 a
  | _ =>
    match (s.core c).mat.badEntry o.arrays 64 o.eb o.count with
    | some (array, col) => s.matExcept c o excResidue 5 array col 0
    | none =>
      let s := s.modCore c (fun k =>
        let d := drainAll k o
        { d.1 with msts := mstsCounts k.msts d.2 })
      let s := s.coreEvent c 0x013 (64 * o.arrays.length * o.count)
      let s := s.traceRetire c 1 o.pc (s.core c).msts
      (s.matAdvance c false 17).stopDone c

/-- MATRIX_DRAIN_COMPLETE: the oldest drain in flight has written its last converted row; its counts go to MSTS (R84, R120). -/
def execMatrixDrainComplete (core : Nat) (hw : HwError) (s : State) : Host.Outcome State Fault Refusal :=
  act (fun s => s.matRuns core && !(s.core core).mat.drains.isEmpty)
    (fun s => match (s.core core).mat.drains with
      | [] => s
      | o :: _ => (s.modMat core (fun m => { m with drains := m.drains.tail })).drainEnd core o hw) s

end Sys2Proof.Machine
end

