-- ==== Sys2Proof/Machine/FabOps.lean ====
section
/-! DEFINITION. DMA and fabric instructions (R130-R133, R137, R217, R298): DMAC, PUT, GET, ACC, BCAST and GARV, and what becomes
of their packets. -/

namespace Sys2Proof.Machine
open Sys2Proof

/-! ### Completion -/

/-- An exception of the DMA engine at an instruction of its queue (`dmac`) or of the fabric queue; a GARV is CTL's (R112, R137). -/
def State.dmaExcept (s : State) (c : Nat) (op : DmaOp) (dmac : Bool) (code addr : Nat) : State :=
  let engine := if op.fn = 5 then 0 else 3
  (s.retryEvent op.x.hw).except c { code := code, engine := engine, pc := op.pc, id := op.id, dmac := dmac, addr := addr }

/-- Increments the core semaphore an instruction of the DMA engine names; an overflow raises SEMOVF at it (R130, R136). -/
def State.opSignal (s : State) (c : Nat) (en : Bool) (sem : Nat) (op : DmaOp) (dmac : Bool) : State :=
  if !en then s
  else
    let r := s.addSem c sem 1
    if r.1 then r.2.dmaExcept c op dmac excSemOvf 0 else r.2

/-- The run of an operation. -/
def Core.runOf (k : Core) (op : Nat) : Option FabRun := k.runs.find? (fun r => r.op.id == op)

/-- Replaces the run of an operation. -/
def Core.setRun (k : Core) (r : FabRun) : Core :=
  { k with runs := k.runs.map (fun q => if q.op.id = r.op.id then r else q) }

/-- Removes the run of an operation. -/
def Core.dropRun (k : Core) (op : Nat) : Core := { k with runs := k.runs.filter (fun q => q.op.id != op) }

/-- TYPE of the packets of a fabric function: PUT, GET, ACC, BCAST; a GARV sends an ACC. -/
def fnType (fn : Nat) : Nat := if fn = 5 then tyAcc else fn

/-- DATA of a FAB record (R421): node, handle, TYPE, FABDELIV. -/
def fabData (r : FabRun) (failed : Bool) : Word :=
  let node := if r.op.fn = 3 then 0 else r.op.sB.toNat % 2 ^ 15
  let handle := match r.key with | some k => k.2 | none => 0
  BitVec.ofNat 64 (node + handle % 2 ^ 16 * 2 ^ 15 + fnType r.op.fn * 2 ^ 31 + b2n failed * 2 ^ 35)

/-- The record header fields every packet of a program carries (R131). -/
def Core.record (k : Core) (type dst : Nat) (owner : E2eOwner) : E2e :=
  { E2e.blank with type := type, dst := dst, job := k.ctx.job, epoch := k.ctx.epoch, stepl := k.ctx.step % 2 ^ 16,
                   owner := owner }

/-- The marker of a GARV (R137). -/
def State.sendMarker (s : State) (c : Nat) (r : FabRun) : State :=
  let k := s.core c
  let b := r.op.sB.toNat
  let sub := accSub (bits b 16 16) 0 0 (bits b 15 1) 1 0 (r.op.x.immBits 0 2)
  s.newRecord { k.record tyAcc (b % 2 ^ 15) (.core c r.op.id) with
    len := 1, source := { pre := sub, core := none, segs := [] } }

/-- Whether a GARV's marker must wait: an earlier ACC of the core to the same node and handle has not completed (R137). -/
def Core.garvHeld (k : Core) (op : DmaOp) (key : Nat × Nat) : Bool :=
  k.fab.any (fun o => o.fn == 2 && decide (o.id < op.id) && o.key == key) ||
  k.runs.any (fun r => r.op.fn == 2 && decide (r.op.id < op.id) && r.key == some key)

/-- Markers whose earlier ACCs have completed go out. -/
def State.releaseGarvs (s : State) (c : Nat) : State :=
  (s.core c).runs.foldl (fun s r =>
    match r.key with
    | some key =>
      if r.held ∧ !(s.core c).garvHeld r.op key then
        let s := s.modCore c (fun k => k.setRun { r with held := false, left := 1 })
        s.sendMarker c r
      else s
    | none => s) s

/-- The failed instruction whose exception is due: every earlier one of its engine, GARVs being CTL's, has completed (R154). -/
def Core.failedRun (k : Core) : Option FabRun :=
  k.runs.find? (fun r => r.failed.isSome &&
    k.runs.all (fun q => decide (r.op.id ≤ q.op.id) || ((q.op.fn == 5) != (r.op.fn == 5))))

/-- Failed fabric instructions raise their exceptions in order, and the markers that waited for them are discarded. -/
def State.raiseFailed (s : State) (c : Nat) : Nat → State
  | 0 => s
  | n + 1 => match (s.core c).failedRun with
    | none => s
    | some r =>
      let f := r.failed.getD (0, 0)
      let s := s.modCore c (fun k => (k.dropRun r.op.id).dropHeld [r.op])
      (s.dmaExcept c r.op false f.1 f.2).raiseFailed c n

/-- A fabric instruction has completed: its FAB record, its semaphore, and the markers that waited for it. -/
def State.opDone (s : State) (c : Nat) (r : FabRun) : State :=
  let k := s.core c
  let s := s.modCore c (fun k => k.dropRun r.op.id)
  let s := s.traceRec c 6 3 (k.ioff r.op.pc) (fabData r false)
  let s := if r.op.fn = 5 then s.opSignal c (bit r.op.x.im 16) (r.op.x.immBits 8 8) r.op false
    else s.opSignal c (bit r.op.x.im 8) (r.op.x.immBits 0 8) r.op false
  (s.releaseGarvs c).raiseFailed c 64

/-- A fabric instruction has failed: its packets are forgotten, and it raises its exception once the earlier ones have completed. -/
def State.opFail (s : State) (c : Nat) (r : FabRun) (code addr : Nat) : State :=
  let k := s.core c
  let s := s.modCore c (fun k => k.setRun { r with failed := some (code, addr) })
  let s := { s with fab := { s.fab with recs := s.fab.recs.filter (fun q => q.owner != E2eOwner.core c r.op.id) } }
  let s := s.traceRec c 6 3 (k.ioff r.op.pc) (fabData r (code == excFabDeliv))
  s.raiseFailed c 64

/-- A fabric instruction that cannot start: it takes its place behind those outstanding until its exception is due. -/
def State.opRefuse (s : State) (c : Nat) (op : DmaOp) (code addr : Nat) : State :=
  let run : FabRun := { op := op, left := 0, key := none, held := false, semPut := none, tree := none, failed := some (code, addr) }
  (s.modCore c (fun k => { k with runs := k.runs ++ [run] })).raiseFailed c 64

/-- The PUT with SEMEN that follows the data of a PUT instruction (R217). -/
def State.sendSemPut (s : State) (c : Nat) (r : FabRun) (t : Nat × Nat × Nat) : State :=
  let k := s.core c
  s.newRecord { k.record tyPut t.1 (.core c r.op.id) with ext := 1 + t.2.1 * 2, addr := t.2.2 }

/-- What becomes of one packet of a core's instruction. -/
def State.opEvent (s : State) (c op code addr : Nat) : State :=
  match (s.core c).runOf op with
  | none => s
  | some r =>
    if r.failed.isSome then s
    else if code ≠ 0 then s.opFail c r code addr
    else if 1 < r.left then s.modCore c (fun k => k.setRun { r with left := r.left - 1 })
    else match r.semPut with
      | some t =>
        let s := s.modCore c (fun k => k.setRun { r with left := 1, semPut := none })
        s.sendSemPut c r t
      | none => s.opDone c r

/-- What becomes of a packet of an NME's forward or marker: a delivered one needs nothing here, a failed one of a forward is an
NME fault (R184). -/
def State.forwardEvent (s : State) (i handle code addr : Nat) : State :=
  if code = 0 then s
  else
    let s := { s with fab := { s.fab with recs := s.fab.recs.filter (fun q => q.owner != E2eOwner.forward i handle) } }
    s.nmeFault i code handle addr

/-- Hands an event to its owner. -/
def State.ownerEvent (s : State) (e : E2eEvent) : State :=
  match e.owner with
  | .core c op => ((s.progress (4 * c + 3)).opEvent c op e.code e.addr).stopDone c
  | .forward i h => s.forwardEvent i h e.code e.addr
  | .marker _ _ => s
  | .mirror _ _ => s.mirrorEvent e.code
  | .restore => if e.code = 0 then s.restoreNext else s.restoreFail
  | .none => s

/-! ### Starting instructions (R131, R132) -/

/-- The packets of a PUT. -/
def putRecords (k : Core) (op : DmaOp) (c : Nat) (f : Fmt) : List E2e :=
  (packetsTo op.dD f).map (fun t =>
    { k.record tyPut (op.sB.toNat % 2 ^ 15) (.core c op.id) with
      addr := t.1, len := (t.2.2 + 63) / 64,
      source := { pre := [], core := dPlace op.dA c, segs := cutSegs (dSegs op.dA f) t.2.1 t.2.2 } })

/-- The requests of a GET, each with the local ranges its response goes to: RLEN is a multiple of 64 (R216). -/
def getRecords (k : Core) (op : DmaOp) (c : Nat) (f : Fmt) : List E2e :=
  (packetsTo op.dA f).map (fun t =>
    { k.record tyGet (op.sB.toNat % 2 ^ 15) (.core c op.id) with
      addr := t.1, ext := (t.2.2 + 63) / 64 * 64,
      source := { pre := [], core := dPlace op.dD c, segs := cutSegs (dSegs op.dD f) t.2.1 t.2.2 },
      dest := some (dPlace op.dD c, t.1, t.2.2) })

/-- The packets of an ACC. -/
def accRecords (k : Core) (op : DmaOp) (c : Nat) : List E2e :=
  let b := op.sB.toNat
  let n := dD0 op.dA * dD1 op.dA
  (cutLanes (n / 42 + n / 16384 + 2) (bits b 32 32) 0 n).map (fun t =>
    { k.record tyAcc (b % 2 ^ 15) (.core c op.id) with
      len := accFlits t.2.2,
      source := { pre := accSub (bits b 16 16) t.1 t.2.2 (bits b 15 1) 0 (dAnchor op.dA % 2 ^ 11) 0,
                  core := dPlace op.dA c, segs := cutSegs (dSegs op.dA .anch) (24 * t.2.1) (24 * t.2.2) } })

/-- What a parity error of what an instruction of the DMA engine reads, or of its accesses of HBM, raises before anything else
(R155, R159). -/
def DmaOp.orParity (op : DmaOp) (other : Option (Nat × Nat)) : Option (Nat × Nat) :=
  match op.x.hw with
  | .parity a => some (excParity, a)
  | .retry a => some (excHbmUe, a)
  | _ => other

/-- Why a PUT, GET or ACC cannot start, with the failing address (R131). -/
def State.fabCheck (s : State) (op : DmaOp) : Option (Nat × Nat) :=
  op.orParity <|
  if op.fn = 2 then
    if dFmt op.dA ≠ some .anch then some (excAnchSrc, 0)
    else if dAsel op.dA ≠ 0 then some (excAnchor, 0)
    else s.blockCheck op.dA
  else if !dSame op.dD op.dA then some (excFormat, 0)
  else
    let l := if op.fn = 0 then op.dA else op.dD
    let r := if op.fn = 0 then op.dD else op.dA
    (remoteCheck r).orElse (fun _ => s.blockCheck l)

/-- The records of a PUT, GET or ACC. -/
def fabRecords (k : Core) (op : DmaOp) (c : Nat) : List E2e :=
  match (if op.fn = 1 then dFmt op.dD else dFmt op.dA) with
  | none => []
  | some f => if op.fn = 0 then putRecords k op c f else if op.fn = 1 then getRecords k op c f else accRecords k op c

/-- Starts a PUT, GET or ACC: its packets are made and numbered, or it raises its exception. -/
def State.fabBegin (s : State) (c : Nat) (op : DmaOp) : State :=
  match s.fabCheck op with
  | some (code, a) => s.opRefuse c op code a
  | none =>
    let rs := fabRecords (s.core c) op c
    let b := op.sB.toNat
    let last := match rs.getLast? with | some r => r.addr | none => 0
    let run : FabRun := {
      op := op, left := rs.length, held := false, tree := none, failed := none,
      key := if op.fn = 2 then some (b % 2 ^ 15, bits b 16 16) else none,
      semPut := if op.fn = 0 ∧ bit b 15 then some (b % 2 ^ 15, bits b 16 12, last) else none }
    let s := s.modCore c (fun k => { k with runs := k.runs ++ [run] })
    let s := if op.fn = 2 then s.coreEvent c 0x043 (dD0 op.dA * dD1 op.dA) else s
    rs.foldl State.newRecord s

/-- Fabric instructions of a core that await completion, GARVs apart (R132). -/
def Core.outstanding (k : Core) : Nat := (k.runs.filter (fun r => r.op.fn != 5)).length

/-- Whether a BCAST must wait: another one of this module on its tree handle has not completed (R298). -/
def State.treeBusy (s : State) (op : DmaOp) : Bool := s.ownBcast (fun b => !b.gateb && b.tree == op.sB.toNat % 4096)

/-- Why a BCAST cannot start (R131, R298). -/
def State.bcastCheck (s : State) (op : DmaOp) (e : TreeEntry) (job : Nat) : Option (Nat × Nat) :=
  op.orParity <|
  if !dSame op.dD op.dA || !e.valid || e.job != job then some (excFormat, 0)
  else (remoteCheck op.dD).orElse (fun _ => s.blockCheck op.dA)

/-- The packets of a BCAST: destination address, source, flits. -/
def bcastRanges (op : DmaOp) (c : Nat) (f : Fmt) : List (Nat × Source × Nat) :=
  (packetsTo op.dD f).map (fun t =>
    (t.1, { pre := [], core := dPlace op.dA c, segs := cutSegs (dSegs op.dA f) t.2.1 t.2.2 }, (t.2.2 + 63) / 64))

/-- Starts a BCAST: its packets go to the children of the root, or it raises its exception; a torus of one node completes it. -/
def State.bcastBegin (s : State) (c : Nat) (op : DmaOp) : State :=
  let k := s.core c
  let h := op.sB.toNat % 4096
  let q := s.treeEntry h
  let s := q.2
  match s.bcastCheck op q.1 k.ctx.job, dFmt op.dA with
  | some (code, a), _ => s.opRefuse c op code a
  | none, none => s.opRefuse c op excFormat 0
  | none, some f =>
    let t := s.nextTreeTag h
    let s := t.2
    let b := s.rootBcast k.ctx.job k.ctx.epoch (k.ctx.step % 2 ^ 16) t.1 h none (some (c, op.id)) (bcastRanges op c f)
    let run : FabRun := { op := op, left := 1, key := none, held := false, semPut := none, tree := some h, failed := none }
    let s := s.modCore c (fun k => { k with runs := k.runs ++ [run] })
    let r := s.bcastSend b (b.children.map (·.node))
    match r.1 with
    | some a => r.2.opFail c run excHbmUe a
    | none => if b.children.isEmpty then r.2.opDone c run else r.2.addBcast b

/-- Starts the instructions at the head of the fabric queue while fewer than 64 are outstanding (R132) and none has failed; a BCAST
waits for another on its handle (R298). -/
def State.fabStart (s : State) (c : Nat) : Nat → State
  | 0 => s
  | fuel + 1 =>
    match (s.core c).fab with
    | op :: t =>
      if 64 ≤ (s.core c).outstanding ∨ (s.core c).runs.any (fun r => r.failed.isSome && r.op.fn != 5) ∨ (op.fn = 3 ∧ s.treeBusy op) then s
      else
        let s := s.modCore c (fun k => { k with fab := t })
        (if op.fn = 3 then s.bcastBegin c op else s.fabBegin c op).fabStart c fuel
    | [] => s

/-- Sends what may be sent and settles what follows: events go to their owners, queues go on (R131, R178). -/
def State.settle (s : State) : Nat → State
  | 0 => s
  | fuel + 1 =>
    let r := s.pump
    if r.1.isEmpty then r.2
    else (r.1.foldl (fun s e =>
      let s := s.ownerEvent e
      match e.owner with | .core c _ => s.fabStart c 16 | _ => s) r.2).settle fuel

/-- Hands events over and sends what follows from them. -/
def State.settleWith (s : State) (es : List E2eEvent) : State :=
  (es.foldl (fun s e =>
    let s := s.ownerEvent e
    match e.owner with | .core c _ => s.fabStart c 16 | _ => s) s).settle 64

/-! ### Instructions -/

/-- A DMA or fabric instruction as its queue takes it. -/
def Core.dmaOp (k : Core) (x : Fki) (fn : Nat) : DmaOp :=
  { fn := fn, pc := k.pc, x := x, dD := k.tr x.d.toNat, dA := k.tr x.a.toNat, sB := k.sr x.b.toNat, id := k.nextOp }

/-- Queues a fabric instruction and starts what can start. -/
def State.fabIssue (s : State) (x : Fki) (fn : Nat) : State :=
  let op := (s.core x.core).dmaOp x fn
  let s := s.retire x.core (fun k => { k with fab := k.fab ++ [op], nextOp := k.nextOp + 1 })
  (s.fabStart x.core 16).settle 64

/-- A fabric instruction: its queue holds 16 (R112); registers and IMM as R131 packs them. -/
def fabInstr (x : Fki) (fn : Nat) (tUse : List Nat) (ok : Bool) (s : State) : Host.Outcome State Fault Refusal :=
  fkiWhen x 3 6 fn [x.b.toNat] tUse (fun k => decide (k.fab.length < 16)) ok (fun s => s.fabIssue x fn) s

/-- PUT: the block of tA to tD on a node; a remote semaphore if enabled (R131). Bits of sB the packing leaves unused must be zero, for
PUT, GET and BCAST alike (DESIGN CHOICE, log 91: the rule does not say). -/
def execPut (x : Fki) (s : State) : Host.Outcome State Fault Refusal :=
  fabInstr x 0 [x.d.toNat, x.a.toNat]
    (rsvOk [x.c.toNat, x.immBits 9 23] && decide (x.d.toNat < 16 ∧ x.a.toNat < 16) &&
      rsvOk [bits ((s.core x.core).sr x.b.toNat).toNat 28 36]) s

/-- GET: the block of tA on a node into tD (R131). -/
def execGet (x : Fki) (s : State) : Host.Outcome State Fault Refusal :=
  fabInstr x 1 [x.d.toNat, x.a.toNat]
    (rsvOk [x.c.toNat, x.immBits 9 23] && decide (x.d.toNat < 16 ∧ x.a.toNat < 16) &&
      rsvOk [bits ((s.core x.core).sr x.b.toNat).toNat 15 49]) s

/-- ACC: the ANCH lanes of tA to a reduction handle (R131). -/
def execAcc (x : Fki) (s : State) : Host.Outcome State Fault Refusal :=
  fabInstr x 2 [x.a.toNat]
    (rsvOk [x.d.toNat, x.c.toNat, x.immBits 9 23] && decide (x.a.toNat < 16)) s

/-- BCAST: the block of tA to tD of every member along the tree of a handle (R131, R298). -/
def execBcast (x : Fki) (s : State) : Host.Outcome State Fault Refusal :=
  fabInstr x 3 [x.d.toNat, x.a.toNat]
    (rsvOk [x.c.toNat, x.immBits 9 23] && decide (x.d.toNat < 16 ∧ x.a.toNat < 16) &&
      rsvOk [bits ((s.core x.core).sr x.b.toNat).toNat 12 52]) s

/-- GARV: declares the core's last ACC for a handle and stage; its marker waits for the core's earlier ACCs (R137). -/
def execGarv (x : Fki) (s : State) : Host.Outcome State Fault Refusal :=
  fki x 0 7 5 [x.b.toNat] []
    (rsvOk [x.d.toNat, x.a.toNat, x.c.toNat, x.immBits 2 6, x.immBits 17 15] && x.immBits 0 2 != 3 &&
      rsvOk [bits ((s.core x.core).sr x.b.toNat).toNat 32 32])
    (fun s =>
      let k := s.core x.core
      let op := k.dmaOp x 5
      let key := op.key
      let held := k.garvHeld op key
      let run : FabRun := { op := op, left := 1, key := some key, held := held, semPut := none, tree := none, failed := none }
      let s := s.retire x.core (fun k => { k with runs := k.runs ++ [run], nextOp := k.nextOp + 1 })
      (if held then s else s.sendMarker x.core run).settle 64) s

/-! ### DMAC (R130) -/

/-- Why a DMAC cannot run. -/
def State.dmacCheck (s : State) (op : DmaOp) : Option (Nat × Nat) :=
  op.orParity <|
  if !dSame op.dD op.dA then some (excFormat, 0)
  else (s.blockCheck op.dA).orElse (fun _ => s.blockCheck op.dD)

/-- The DMAC at the head of the queue raises its exception before it moves anything. -/
def State.dmaHead (s : State) (c : Nat) : State :=
  match (s.core c).dma with
  | op :: _ =>
    match s.dmacCheck op with
    | some (code, a) => s.dmaExcept c op true code a
    | none => s
  | [] => s

/-- DMAC: queued for the DMA engine, which holds 16 (R112, R130). -/
def execDmac (x : Fki) (s : State) : Host.Outcome State Fault Refusal :=
  fkiWhen x 3 5 0 [] [x.d.toNat, x.a.toNat] (fun k => decide (k.dma.length < 16))
    (rsvOk [x.b.toNat, x.c.toNat, x.immBits 9 23] && decide (x.d.toNat < 16 ∧ x.a.toNat < 16))
    (fun s =>
      let op := (s.core x.core).dmaOp x 0
      let s := s.retire x.core (fun k => { k with dma := k.dma ++ [op], nextOp := k.nextOp + 1 })
      if (s.core x.core).dma.length = 1 then s.dmaHead x.core else s) s

/-- Writes bytes to a range of core store or HBM. -/
def State.putRange (s : State) (place : Option Nat) (a : Nat) (l : List Byte) : State :=
  match place with
  | some c => s.modCore c (fun k => k.putBytes a l)
  | none => s.memWrite a l

/-- Copies ranges one after another until a read fails: the failing address, and the state after. -/
def State.copySegs (s : State) (src dst : Option Nat) : List ((Nat × Nat) × (Nat × Nat)) → Option Nat × State
  | [] => (none, s)
  | (a, b) :: t =>
    let r := s.readSegs src [a]
    match r.2.1 with
    | some (.unbacked x) => (some x, r.2.2)
    | some (.uncorrectable x) => (some x, r.2.2)
    | none => (r.2.2.putRange dst b.1 r.1).copySegs src dst t

/-- DMAC_COMPLETE: the DMAC in execution finishes its copy: the last write signals its semaphore; an uncorrectable read raises
HBMUE, a parity error PARITY (R130, R155). -/
def execDmacComplete (core : Nat) (hw : HwError) (s : State) : Host.Outcome State Fault Refusal :=
  act (fun s => decide (core < 192) && !s.coreHalted core && !(s.core core).dma.isEmpty && s.coreState core != 4)
    (fun s => match (s.core core).dma with
      | [] => s
      | op :: t =>
        let s := s.modCore core (fun k => { k with dma := t })
        match hw with
        | .parity a => s.dmaExcept core op true excParity a
        | .retry a => (s.retryEvent hw).dmaExcept core op true excHbmUe a
        | _ =>
          match dFmt op.dA with
          | none => s
          | some f =>
            let r := s.copySegs (dPlace op.dA core) (dPlace op.dD core) ((dSegs op.dA f).zip (dSegs op.dD f))
            match r.1 with
            | some a => r.2.dmaExcept core op true excHbmUe a
            | none =>
              let n := ((dSegs op.dA f).map Prod.snd).foldl (· + ·) 0
              let s := if dSpace op.dA = 0 then r.2.coreEvent core 0x030 (n / 64) else r.2
              let s := if dSpace op.dD = 0 then s.coreEvent core 0x031 (n / 64) else s
              let s := (s.feedFrom core op).traceRetire core 3 op.pc 0
              ((s.opSignal core (bit op.x.im 8) (op.x.immBits 0 8) op true).dmaHead core).stopDone core) s

end Sys2Proof.Machine
end

