-- ==== Sys2Proof/Machine/Near.lean ====
section
/-! DEFINITION. Near-memory engines as packets meet them (R172-R184, R228): handle descriptors and their areas, deduplication
windows, and the processing of ACC, marker, PUT and MIRROR packets. -/

namespace Sys2Proof.Machine
open Sys2Proof

/-! ### Checks of an ARM (R195) -/

/-- Whether a handle is armed on an NME. -/
def State.armedOn (s : State) (i handle : Nat) : Bool := ((s.nme i).find handle).isSome

/-- Orders 6-8 of R195 for an ARM on an NME. -/
def State.armErr (s : State) (f : Found2) (i : Nat) : Nat :=
  if f.err ≠ 0 then f.err
  else if !f.desc.uses i then 0x07
  else if s.armedOn i f.desc.handle then 0x03
  else if !s.areasFit f i || s.nospill i then 0x04
  else 0

/-! ### Arming (R177) -/

/-- Arms a handle on one NME: its descriptor is latched, ARMED, STEP, JOB and EPOCH are written, the fabric tiles take its NBASE
and NCNT, and zeroing begins. -/
def State.armOn (s : State) (i : Nat) (h : Handle) : State :=
  let m := s.nme i
  let a : Armed := { desc := h, zeroed := 0, phase := .unreleased, ownHeld := false, ownAdded := false, bkHeld := false,
                     upAdded := false, ownNf := false, ownOv := false, upset := .none }
  let s := s.setNme i { m with armed := m.armed ++ [a] }
  let s := { s with routes := Tab.insert s.routes h.handle (h.nbase, h.ncnt) }
  let s := s.memWrite64 (s.handleAddr h.handle + 0x30) (h.step % 2 ^ 48 + 2 ^ 48)
  s.memWrite64 (s.handleAddr h.handle + 0x38) (h.job % 4096 + h.epoch % 256 * 4096)

/-- Areas of a handle: the partial and, held, two buffers. -/
def Handle.areas (h : Handle) : Nat := if h.holdown then 3 else 1

/-- Chunks to zero on an NME, over all areas. -/
def Handle.toZero (h : Handle) : Nat := h.areas * h.chunks

/-- Whether chunk k of area a has been zeroed. -/
def Armed.ready (x : Armed) (k a : Nat) : Bool := decide (k * x.desc.areas + a < x.zeroed)

/-! ### Windows (R179-R181) -/

/-- What steps 2 and 3 of R179 find of a sequence. -/
inductive WinStep where
  | new
  | old
  | dup
deriving DecidableEq, Repr

/-- Steps 2 and 3: the comparison is serial, modulo 2^32. -/
def Window.step (w : Window) (seq : Nat) : WinStep :=
  match w.hi with
  | none => .new
  | some hi =>
    let d := signed (seq + 2 ^ 32 - hi) 32
    if d ≤ -4096 then .old
    else if d ≤ 0 ∧ bit w.map (-d).toNat then .dup
    else .new

/-- Step 4: the map bit is set, and HI slides to a sequence above it. -/
def Window.accept (w : Window) (seq : Nat) : Window :=
  match w.hi with
  | none => { w with hi := some seq, map := 1 }
  | some hi =>
    let d := signed (seq + 2 ^ 32 - hi) 32
    if 0 < d then
      { w with hi := some seq, map := if 4096 ≤ d then 1 else (w.map <<< d.toNat) % 2 ^ 4096 + 1 }
    else { w with map := setBits w.map (-d).toNat 1 1 }

/-- Whether a window is the one of a job and source. -/
def Window.is (w : Window) (job source : Nat) : Bool := w.job == job && w.source == source

/-- Windows an NME holds on chip. -/
def windowSlots : Nat := 64

/-- Bytes of an entry of the spill table (R180). -/
def spillBytes : Nat := 576

/-- Where the spill table of an NME keeps the window of a job's source: entry e * 32768 + N, e the job's piste-table entry
(R180). -/
def State.spillAddr (s : State) (i job source : Nat) : Option Nat :=
  (s.pisteOf job).map (fun e => s.field (Reg.nmeWspill i) 0 48 + spillBytes * (e * 32768 + source))

/-- Writes a window to its entry of the spill table; the layout of the 576 bytes is not stated. -/
def State.spillOut (s : State) (i : Nat) (w : Window) : State :=
  match s.spillAddr i w.job w.source with
  | some a => (s.memFree a spillBytes).count (Reg.nmeWinSpill i)
  | none => s.count (Reg.nmeWinSpill i)

/-- Reads a window back from its entry of the spill table: what was spilled, or what an unreadable entry gives, which is not
stated. -/
def State.spillIn (s : State) (i : Nat) (w : Window) : Window × State :=
  match s.spillAddr i w.job w.source with
  | none => (w, s)
  | some a =>
    let r := s.memRead a spillBytes
    match r.2.1 with
    | none => (w, r.2.2)
    | some _ =>
      let hi := r.2.2.fresh
      let map := hi.2.fresh
      ({ w with hi := some (hi.1 % 2 ^ 32), map := map.1 % 2 ^ 4096 }, map.2)

/-- Puts a window on chip as the most recently used; the least recently used one goes to the spill table where there is no room
(R180). -/
def State.useWindow (s : State) (i : Nat) (w : Window) : State :=
  let m := s.nme i
  let rest := m.windows.filter (fun v => !v.is w.job w.source)
  let spilled := m.spilled.filter (fun v => !v.is w.job w.source)
  if rest.length < windowSlots then s.setNme i { m with windows := w :: rest, spilled := spilled }
  else
    let s := s.setNme i { m with windows := w :: rest.take (windowSlots - 1), spilled := spilled ++ rest.drop (windowSlots - 1) }
    (rest.drop (windowSlots - 1)).foldl (fun s v => s.spillOut i v) s

/-- What a packet finds of its window: on chip, in the spill table, to be created, or no room for it (R181). -/
inductive WinFind where
  | here (w : Window)
  | spilled
  | refused
deriving DecidableEq, Repr

/-- Looks a window up. -/
def State.findWindow (s : State) (i job source : Nat) : WinFind :=
  let m := s.nme i
  match m.windows.find? (fun w => w.is job source) with
  | some w => .here w
  | none =>
    if windowSlots ≤ m.windows.length ∧ s.nospill i then .refused
    else if m.spilled.any (fun w => w.is job source) then .spilled
    else .here { job := job, source := source, hi := none, map := 0 }

/-- A packet discarded for want of a placed spill table (R181): counted, and recorded at most once per millisecond. -/
def State.noRoom (s : State) (i : Nat) (p : Packet) : State :=
  let s := s.count (Reg.nmeDiscNospill i)
  let ms := s.time.count / 1000000 + 1
  let m := s.nme i
  if m.nospillMs = ms then s
  else (s.setNme i { m with nospillMs := ms }).raise 0x6008 (3, i) [(16, i), (16, p.src)]

/-! ### ACC payloads (R174) -/

/-- The payload of a packet as one number, first byte least significant. -/
def Packet.payloadNat (p : Packet) : Nat := p.payload.foldr (fun f acc => f.toNat + 2 ^ 512 * acc) 0

/-- The sub-header of an ACC. -/
structure AccHead where
  handle : Nat
  loff : Nat
  nlanes : Nat
  bk : Bool
  mark : Bool
  aval : Nat
  stage : Nat
deriving DecidableEq, Repr

/-- The sub-header that a payload spells. -/
def AccHead.ofNat (x : Nat) : AccHead :=
  { handle := bits x 0 16, loff := bits x 16 32, nlanes := bits x 48 6, bk := bit x 54, mark := bit x 55,
    aval := bits x 56 11, stage := bits x 67 2 }

/-- A marker carries no lanes. -/
def AccHead.isMarker (h : AccHead) : Bool := h.mark && h.nlanes == 0

/-- Lane i of a payload. -/
def accLane (x i : Nat) : Lane := Lane.ofNat (bits x (128 + 192 * i) 192)

/-- The NME an ACC or marker goes to (R175). -/
def State.accNme (s : State) (h : AccHead) : Nat :=
  match Tab.find s.routes h.handle with
  | none => h.handle % 32
  | some (nbase, ncnt) => if h.isMarker then nbase else (nbase + h.loff / 16384 % ncnt) % 32

/-- The area an ACC's lanes go to (R184): 0 the partial, 1 the own hold buffer, 2 the backup's. -/
def Armed.target (a : Armed) (own : Bool) (h : AccHead) : Nat :=
  if h.bk then 2 else if a.desc.holdown && own then 1 else 0

/-- Step 5 of R179 for a handle on an NME: the counter of the first check that fails. -/
def State.accCheck (s : State) (i : Nat) (p : Packet) (h : AccHead) : Option Nat :=
  match (s.nme i).find h.handle with
  | none => some (Reg.nmeDiscHandle i)
  | some a =>
    let lanes := !h.isMarker
    if lanes && (a.phase != .unreleased || (h.bk && !a.desc.holdown)) then some (Reg.nmeDiscHandle i)
    else if p.stepl ≠ a.desc.step % 2 ^ 16 then some (Reg.nmeDiscStep i)
    else if lanes && h.aval != a.desc.aval then some (Reg.nmeDiscAnchor i)
    else if lanes && (decide (42 < h.nlanes) || decide (p.len < accFlits h.nlanes) ||
        decide (a.desc.lanes < h.loff + h.nlanes) ||
        (h.nlanes != 0 && h.loff / 16384 != (h.loff + h.nlanes - 1) / 16384) ||
        a.desc.nmeOf h.loff != i) then some (Reg.nmeDiscRange i)
    else none

/-! ### Adding (R172, R184) -/

/-- A lane added by an NME is counted (R199, R414). -/
def State.laneAdded (s : State) (i : Nat) : State := (s.count (Reg.nmeAccLanes i)).tileEvent (i / 4) (i % 4) 0x010 1

/-- Adds lanes one after another to an area: the address of an uncorrectable read ends it. The counter counts lanes written. -/
def State.addLanes (s : State) (i : Nat) (d : Handle) (area : Nat) : List (Nat × Lane) → Option Nat × State
  | [] => (none, s)
  | (lane, x) :: t =>
    let a := d.laneAddr area lane
    let r := s.memRead a 24
    match r.2.1 with
    | some (.unbacked e) => (some e, r.2.2)
    | some (.uncorrectable e) => (some e, r.2.2)
    | none =>
      let y := (Lane.ofNat (ofBytes r.1)).add x
      let s := r.2.2.memWrite a (toBytes 24 y.toNat)
      (s.laneAdded i).addLanes i d area t

/-- Whether a lane holds a non-finite count. -/
def Lane.nonfinite (l : Lane) : Bool := l.pinf != 0 || l.ninf != 0 || l.nan != 0

/-- What the addition of a packet's lanes leaves noted of their class (R283, R284). -/
def Armed.note (a : Armed) (own bk : Bool) (area : Nat) (ls : List Lane) : Armed :=
  let nf := ls.any Lane.nonfinite
  let ov := ls.any Lane.overflow
  if bk then { a with bkHeld := true }
  else if own then
    if area = 1 then { a with ownHeld := true }
    else { a with ownAdded := true, ownNf := a.ownNf || nf, ownOv := a.ownOv || ov }
  else { a with upAdded := true }

/-- Acknowledges the copies of a packet that waited for its writes (R179 step 3). -/
def State.ackCopies (s : State) (i : Nat) (p : Packet) (status : Nat) : State :=
  let m := s.nme i
  let same (h : HeldPacket) : Bool :=
    h.dup && h.packet.src == p.src && h.packet.job == p.job && h.packet.seq == p.seq
  let s := s.setNme i { m with waiting := m.waiting.filter (fun h => !same h) }
  (m.waiting.filter same).foldl (fun s h => s.ackPacket h.packet status) s

/-- Whether a packet waits for an NME to add its lanes. -/
def HeldPacket.acc (h : HeldPacket) : Bool :=
  !h.dup && h.packet.type == tyAcc && !(AccHead.ofNat (Packet.payloadNat h.packet)).isMarker

/-- Whether the NME watchdog watches an NME (R336): an ACC to add, an optimizer run or a ring command. -/
def Nme.busy (m : Nme) : Bool :=
  m.run.isSome || m.waiting.any HeldPacket.acc || m.armed.any (fun a => a.phase == .optimizing)

/-- Progress of an NME (R336). -/
def State.nmeProgress (s : State) (i : Nat) : State := s.progress (0x1000 + i)

/-- Work comes to an NME: the watchdog of one without work starts. -/
def State.nmeWork (s : State) (i : Nat) : State := if (s.nme i).busy then s else s.nmeProgress i

/-- Holds a packet at an NME. -/
def State.holdPacket (s : State) (i : Nat) (h : HeldPacket) : State :=
  let s := (s.nmeWork i).enq (0x1000 + i)
  let m := s.nme i
  s.setNme i { m with waiting := m.waiting ++ [h] }

/-- An NME fault cuts a packet's addition: the packet stays until its handle is disarmed, which rejects and counts it (R179). -/
def State.accFault (s : State) (i : Nat) (q : HeldPacket) (code handle addr : Nat) : State :=
  (s.holdPacket i { q with dedup := true }).nmeFault i code handle addr

/-- The buffers of a handle after an addition that left an error in them: the first stays until the release. -/
def Armed.upsetBy (a : Armed) (i : Nat) (hw : HwError) : Armed :=
  match a.upset, hw with
  | .none, .atRelease 0 lane => { a with upset := .residue 0 i lane }
  | .none, .atRelease 1 addr => { a with upset := .parity addr }
  | .none, .atRelease _ addr => { a with upset := .retry addr }
  | _, _ => a

/-- Steps 6 and 7 of R179 for a packet whose chunk is zeroed: its lanes are added and it is acknowledged. A failed residue, a
parity error or an uncorrectable read is an NME fault instead (R74, R159, R169, R198). -/
def State.accAdd (s : State) (i : Nat) (q : HeldPacket) (h : AccHead) (a : Armed) : State :=
  let p := q.packet
  let x := Packet.payloadNat p
  let own := p.src == s.own.node
  let area := a.target own h
  let lanes := (List.range h.nlanes).map (fun k => (h.loff + k, accLane x k))
  let first := a.desc.laneAddr area h.loff
  match q.hw with
  | .residue _ _ _ => s.accFault i q 0x20 h.handle first
  | .parity _ => s.accFault i q 0x22 h.handle first
  | .retry e => (s.retryEvent q.hw).accFault i q 0x24 h.handle e
  | _ =>
    let r := s.addLanes i a.desc area lanes
    match r.1 with
    | some e => r.2.accFault i q 0x24 h.handle e
    | none =>
      let m := r.2.nme i
      let s := r.2.setNme i (m.setArmed ((a.note own h.bk area (lanes.map Prod.snd)).upsetBy i q.hw))
      ((s.nmeProgress i).ackPacket p 0).ackCopies i p 0

/-- Steps 5-7 of R179 for an ACC or a marker past its window: rejected and counted; a marker goes on to the coordinator; lanes
are added, or wait for their chunk's zeroing (R177). -/
def State.accStep (s : State) (i : Nat) (q : HeldPacket) : State :=
  let p := q.packet
  let h := AccHead.ofNat (Packet.payloadNat p)
  match s.accCheck i p h with
  | some k => (s.count k).ackPacket p 1
  | none =>
    if h.isMarker then
      let d := match (s.nme i).find h.handle with | some a => a.desc | none => Handle.ofBytes h.handle 0 0 0 []
      let m : Marker := { handle := h.handle, job := d.job, epoch := d.epoch, step := d.step, source := p.src, bk := h.bk, stage := h.stage, stamp := q.stamp / 16 }
      let s := { s with gate := { s.gate with markers := s.gate.markers ++ [m] } }
      s.ackPacket p 0
    else match (s.nme i).find h.handle with
      | none => s
      | some a =>
        let area := a.target (p.src == s.own.node) h
        if a.ready (a.desc.chunkOf h.loff) area then s.accAdd i q h a
        else s.holdPacket i { q with dedup := true }

/-! ### PUT and MIRROR (R228) -/

/-- Writes a PUT or MIRROR past its window, and acknowledges it; a PUT with SEMEN increments its semaphore. -/
def State.putStep (s : State) (p : Packet) : State :=
  let s := if p.type = tyMirror then s.mirrorTake p
    else if p.len = 0 then s else s.memWrite p.addr p.bytes
  let s := if p.type = tyPut ∧ p.ext 0 1 = 1 then s.signalDev (p.ext 1 12) else s
  s.ackPacket p 0

/-! ### A packet at an NME -/

/-- The order of R179 and R228 for a packet at an NME in service: the epoch of a packet that passed no port, its window, and what
follows. -/
def State.nmeOrder (s : State) (i : Nat) (q : HeldPacket) : State :=
  let p := q.packet
  if !q.viaPort && !s.jobLive p.job p.epoch then s.count (Reg.nmeDiscEpoch i)
  else match s.findWindow i p.job p.src with
    | .refused => s.noRoom i p
    | .spilled => s.holdPacket i q
    | .here w =>
      match w.step p.seq with
      | .old => ((s.useWindow i w).count (Reg.nmeDiscOld i)).ackPacket p 0
      | .dup =>
        let s := (s.useWindow i w).count (Reg.nmeDiscDup i)
        if (s.nme i).waiting.any (fun h => h.dedup && !h.dup && h.packet.src == p.src && h.packet.job == p.job &&
            h.packet.seq == p.seq) then s.holdPacket i { q with dedup := true, dup := true }
        else s.ackPacket p 0
      | .new =>
        if p.type = tyMirror ∧ !s.mirrorAccepts p then
          (((s.useWindow i w).count Reg.fabDiscAddr).count Reg.ckpMirRej).ackPacket p 2
        else
          let s := s.useWindow i (w.accept p.seq)
          if p.type = tyAcc then s.accStep i q else s.putStep p

/-- A packet at an NME: one in reset has it wait at the fabric tile (R334). -/
def State.nmePacket (s : State) (i : Nat) (q : HeldPacket) : State :=
  if (s.nme i).running then s.nmeOrder i q else s.holdPacket i q

/-- A packet out of a receive buffer as an NME takes it. -/
def HeldPacket.ofRx (r : RxPacket) (port : Nat) (hw : HwError) : HeldPacket :=
  { packet := r.packet, stamp := r.stampA, hw := hw, viaPort := port != loopback, dedup := false, dup := false }

/-- Takes the waiting packets that satisfy a test out of an NME's queue and processes them in order. -/
def State.retry (s : State) (i : Nat) (test : HeldPacket → Bool) (f : State → HeldPacket → State) : State :=
  let m := s.nme i
  let s := s.setNme i { m with waiting := m.waiting.filter (fun h => !test h) }
  (m.waiting.filter test).foldl f s

/-- Processes the packets that waited for an NME to return to service. -/
def State.releaseHeld (s : State) (i : Nat) : State :=
  s.retry i (fun h => !h.dedup) (fun s h => s.nmeOrder i h)

/-! ### Receiving commands -/

/-- The NME beside the stack an address maps to. -/
def State.nmeAt (s : State) (addr : Nat) : Nat := match locate s.spread addr with | some (n, _) => n | none => 0

/-- A PUT or MIRROR takes check 9 of R231 and goes to the NME of its address. -/
def State.addressed (s : State) (port : Nat) (r : RxPacket) : State :=
  let p := r.packet
  if !s.backed p.addr (64 * p.len) then (s.count Reg.fabDiscAddr).ackPacket p 2
  else s.nmePacket (s.nmeAt p.addr) (HeldPacket.ofRx r port .none)

/-- PUT_RECEIVE: the PUT at the head of a buffer is checked, deduplicated, written and acknowledged (R228, R231). -/
def execPutReceive (port vc : Nat) (s : State) : Host.Outcome State Fault Refusal :=
  actLive (fun s => s.headIs port vc (fun p => p.type == tyPut))
    (fun s => (s.arrive port vc false (fun r s => s.addressed port r)).settle 64) s

/-- MIRROR_RECEIVE: the MIRROR packet at the head of a buffer is checked, tested, written and acknowledged (R228, R372). -/
def execMirrorReceive (port vc : Nat) (s : State) : Host.Outcome State Fault Refusal :=
  actLive (fun s => s.headIs port vc (fun p => p.type == tyMirror))
    (fun s => (s.arrive port vc false (fun r s => s.addressed port r)).settle 64) s

/-- ACC_RECEIVE: the ACC or marker at the head of a buffer goes through the window and the handle checks of its NME (R175,
R179). -/
def execAccReceive (port vc : Nat) (hw : HwError) (s : State) : Host.Outcome State Fault Refusal :=
  actLive (fun s => s.headIs port vc (fun p => p.type == tyAcc))
    (fun s => (s.arrive port vc false (fun r s =>
      let h := AccHead.ofNat (Packet.payloadNat r.packet)
      s.nmePacket (s.accNme h) (HeldPacket.ofRx r port hw))).settle 64) s

/-- WINDOW_RELOAD: a spilled window comes back on chip, and the packets that waited for it are processed (R180). -/
def execWindowReload (nme job source : Nat) (s : State) : Host.Outcome State Fault Refusal :=
  actLive (fun s => (s.nme nme).running && (s.nme nme).spilled.any (fun w => w.is job source))
    (fun s => match (s.nme nme).spilled.find? (fun w => w.is job source) with
      | none => s
      | some w =>
        let r := s.spillIn nme w
        ((r.2.useWindow nme r.1).retry nme
          (fun h => !h.dedup && h.packet.job == job && h.packet.src == source)
          (fun s h => s.nmeOrder nme h)).settle 64) s

/-- Zeroes the next chunk of a handle's areas on an NME and processes the packets that waited for it (R177). -/
def State.zeroChunk (s : State) (i : Nat) (a : Armed) : State :=
  let area := a.zeroed % a.desc.areas
  let k := a.zeroed / a.desc.areas
  let s := s.memWrite (a.desc.area i area + k * chunkBytes) (List.replicate chunkBytes 0)
  let s := (s.setNme i ((s.nme i).setArmed { a with zeroed := a.zeroed + 1 })).nmeProgress i
  s.retry i (fun h => h.dedup && !h.dup &&
      (let x := AccHead.ofNat (Packet.payloadNat h.packet)
       x.handle == a.desc.handle && a.desc.chunkOf x.loff == k && a.target (h.packet.src == s.own.node) x == area))
    (fun s h =>
      let x := AccHead.ofNat (Packet.payloadNat h.packet)
      match (s.nme i).find a.desc.handle with
      | some a => s.accAdd i h x a
      | none => s)

/-- ZERO_CHUNK_COMPLETE: the zeroing of an armed handle finishes a chunk of one area (R177). -/
def execZeroChunkComplete (nme handle : Nat) (s : State) : Host.Outcome State Fault Refusal :=
  actLive (fun s => match (s.nme nme).find handle with
      | some a => decide (a.zeroed < a.desc.toZero)
      | none => false)
    (fun s => match (s.nme nme).find handle with
      | some a => (s.zeroChunk nme a).settle 64
      | none => s) s

end Sys2Proof.Machine
end

