-- ==== Sys2Proof/Machine/Release.lean ====
section
/-! DEFINITION. What an NME does at a release (R183-R188, R191): the selected hold buffer is added, the buffers are compared, the
partial is forwarded or the optimizer run, with copy-before-write in front of every optimizer write. -/

namespace Sys2Proof.Machine
open Sys2Proof

/-! ### Copy-before-write (R191) -/

/-- Copies bytes line by line; a line that cannot be read is left poisoned at its destination. -/
def State.copyLines (s : State) (src dst n : Nat) : State :=
  (pieces src n).foldl (fun s p =>
    let r := s.memRead p.1 p.2
    let d := dst + (p.1 - src)
    match r.2.1 with
    | some _ => r.2.2.poisonRange d p.2
    | none => r.2.2.memWrite d r.1) s

/-- Replaces the protection of a handle's bank on an NME. -/
def Nme.setCbw (m : Nme) (c : Cbw) : Nme :=
  { m with cbw := m.cbw.map (fun d => if d.handle = c.handle then c else d) }

/-- The protection an address of an NME's bank lies under, if any. -/
def Nme.protection (m : Nme) (addr : Nat) : Option Cbw :=
  m.cbw.find? (fun c => decide (c.base ≤ addr ∧ addr < c.base + c.size))

/-- Copies the granule of a protected bank that a write is about to meet, if it is UNSWEPT. -/
def State.cbwBefore (s : State) (i addr : Nat) : State :=
  match (s.nme i).protection addr with
  | none => s
  | some c =>
    let g := (addr - c.base) / granule
    if Tab.get c.marks 0 g ≠ 0 then s
    else
      let s := s.copyLines (c.base + g * granule) (c.snap + g * granule) (min granule (c.size - g * granule))
      let s := s.setNme i ((s.nme i).setCbw { c with marks := Tab.put c.marks 0 g 1 })
      s.count (Reg.nmeCbwCopies i)

/-! ### The optimizer (R186, R187) -/

/-- The parameter block: eleven binary32 values. -/
structure ParamBlock where
  lr : Lane32
  lrwd : Lane32
  b1 : Lane32
  omb1 : Lane32
  b2 : Lane32
  omb2 : Lane32
  eps : Lane32
  c1 : Lane32
  c2 : Lane32
  gscale : Lane32
  mu : Lane32
deriving DecidableEq, Repr

/-- A binary32 value of bytes, by offset. -/
def f32At (l : List Byte) (off : Nat) : Lane32 := BitVec.ofNat 32 (ofBytes ((l.drop off).take 4))

/-- The parameter block that 64 bytes spell. -/
def ParamBlock.ofBytes (l : List Byte) : ParamBlock :=
  { lr := f32At l 0, lrwd := f32At l 4, b1 := f32At l 8, omb1 := f32At l 0xC, b2 := f32At l 0x10, omb2 := f32At l 0x14,
    eps := f32At l 0x18, c1 := f32At l 0x1C, c2 := f32At l 0x20, gscale := f32At l 0x24, mu := f32At l 0x28 }

/-- The binary32 operations of R186: round to nearest even, subnormals preserved. -/
def oMul (x y : Lane32) : Lane32 := (fpMul .rne false x y).bits
def oAdd (x y : Lane32) : Lane32 := (fpAdd .rne false x y).bits
def oFma (x y z : Lane32) : Lane32 := (fpFma .rne false x y z).bits
def oDiv (x y : Lane32) : Lane32 := (fpDiv .rne false x y).bits
def oSqrt (x : Lane32) : Lane32 := (fpSqrt .rne false x).bits

/-- One parameter's update (R186): the new theta, m and v of algorithm ALG for a gradient. -/
def optUpdate (alg : Nat) (q : ParamBlock) (g th m v : Lane32) : Lane32 × Lane32 × Lane32 :=
  if alg = 0 then
    let m1 := oFma q.b1 m (oMul q.omb1 g)
    let v1 := oFma q.b2 v (oMul q.omb2 (oMul g g))
    let d := oDiv (oMul m1 q.c1) (oAdd (oSqrt (oMul v1 q.c2)) q.eps)
    let t1 := oFma (fpNegBits q.lrwd) th th
    (oFma (fpNegBits q.lr) d t1, m1, v1)
  else
    let m1 := oFma q.mu m g
    let u := if alg = 2 then oFma q.mu m1 g else m1
    let t1 := oFma (fpNegBits q.lrwd) th th
    (oFma (fpNegBits q.lr) u t1, m1, v)

/-- The gradient of a lane: its readout in binary32, times GSCALE. -/
def optGradient (q : ParamBlock) (l : Lane) (aval : Nat) : Lane32 :=
  oMul (BitVec.ofNat 32 (l.convert .fp32 (signed aval 11) .rne 0 false).1) q.gscale

/-- The address an error of a read names. -/
def MemErr.addr : MemErr → Nat
  | .unbacked a => a
  | .uncorrectable a => a

/-- Reads a binary32 value. -/
def State.readF32 (s : State) (a : Nat) : Except Nat Lane32 × State :=
  let r := s.memRead a 4
  match r.2.1 with
  | some e => (.error e.addr, r.2.2)
  | none => (.ok (BitVec.ofNat 32 (ofBytes r.1)), r.2.2)

/-- Writes a binary32 value of the staging bank, the protected granule copied first. -/
def State.writeBank (s : State) (i a : Nat) (x : Lane32) : State := (s.cbwBefore i a).memWrite a (toBytes 4 x.toNat)

/-- Updates parameters one after another, reading the committed bank and writing the other; a read that fails ends it. -/
def State.optRun (s : State) (i : Nat) (h : Handle) (o : OptDesc) (q : ParamBlock) : List Nat → Option Nat × State
  | [] => (none, s)
  | lane :: t =>
    let p4 := 4 * h.params
    let u := 4 * (h.chunkOf lane * 16384 + lane % 16384)
    let src := o.bank h i o.cur
    let dst := o.bank h i (!o.cur)
    let r := s.memRead (h.laneAddr 0 lane) 24
    match r.2.1 with
    | some e => (some e.addr, r.2.2)
    | none =>
      let a := r.2.2.readF32 (src + u)
      let b := a.2.readF32 (src + p4 + u)
      let c := if o.alg = 0 then b.2.readF32 (src + 2 * p4 + u) else (.ok 0, b.2)
      match a.1, b.1, c.1 with
      | .error e, _, _ => (some e, a.2)
      | _, .error e, _ => (some e, b.2)
      | _, _, .error e => (some e, c.2)
      | .ok th, .ok m, .ok v =>
        let n := optUpdate o.alg q (optGradient q (Lane.ofNat (ofBytes r.1)) h.aval) th m v
        let s := c.2.writeBank i (dst + u) n.1
        let s := s.writeBank i (dst + p4 + u) n.2.1
        let s := if o.alg = 0 then s.writeBank i (dst + 2 * p4 + u) n.2.2 else s
        s.optRun i h o q t

/-! ### The release of one NME (R184) -/

/-- What the NMEs of a handle report of a release: the totals of the partial (R59), how many lanes of the two buffers differ
and the first of them, and whether a lane of the selected buffer was not finite or in overflow. -/
structure RelOut where
  pinf : Nat
  ninf : Nat
  nan : Nat
  ovf : Nat
  diff : Nat
  first : Option Nat
  nf : Bool
  ov : Bool
deriving DecidableEq, Repr

/-- Nothing reported. -/
def RelOut.zero : RelOut := { pinf := 0, ninf := 0, nan := 0, ovf := 0, diff := 0, first := none, nf := false, ov := false }

/-- Saturates a 32-bit total. -/
def sat32 (n : Nat) : Nat := min n 0xFFFFFFFF

/-- Adds a lane of the released partial to the totals. -/
def RelOut.lane (x : RelOut) (l : Lane) : RelOut :=
  { x with pinf := sat32 (x.pinf + l.pinf), ninf := sat32 (x.ninf + l.ninf), nan := sat32 (x.nan + l.nan),
           ovf := sat32 (x.ovf + b2n l.overflow) }

/-- Notes a lane of the selected buffer, and whether it differs from the other buffer's where they are compared; the lowest index
that differs is kept. -/
def RelOut.held (x : RelOut) (lane : Nat) (sel : Lane) (differs : Bool) : RelOut :=
  let x := { x with nf := x.nf || sel.nonfinite, ov := x.ov || sel.overflow }
  if differs then { x with diff := sat32 (x.diff + 1), first := some (match x.first with | some l => min l lane | none => lane) } else x

/-- Reads a lane of an area. -/
def State.readLane (s : State) (h : Handle) (area lane : Nat) : Except Nat Lane × State :=
  let r := s.memRead (h.laneAddr area lane) 24
  match r.2.1 with
  | some e => (.error e.addr, r.2.2)
  | none => (.ok (Lane.ofNat (ofBytes r.1)), r.2.2)

/-- The release read of lanes in order: the selected buffer (1 own, 2 backup, 0 none) is added to the partial, the buffers are
compared where both were accepted, and the totals are taken. A read that fails ends it with its address. -/
def State.relLanes (s : State) (h : Handle) (sel : Nat) (cmp : Bool) (x : RelOut) : List Nat → Option Nat × RelOut × State
  | [] => (none, x, s)
  | lane :: t =>
    let p := s.readLane h 0 lane
    match p.1 with
    | .error e => (some e, x, p.2)
    | .ok l =>
      if sel = 0 ∨ !h.holdown then p.2.relLanes h sel cmp (x.lane l) t
      else
        let b := p.2.readLane h sel lane
        let c := if cmp then b.2.readLane h (3 - sel) lane else (b.1, b.2)
        match b.1, c.1 with
        | .error e, _ => (some e, x, b.2)
        | _, .error e => (some e, x, c.2)
        | .ok y, .ok z =>
          let sum := l.add y
          let s := (c.2.memWrite (h.laneAddr 0 lane) (toBytes 24 sum.toNat)).laneAdded (h.nmeOf lane)
          s.relLanes h sel cmp ((x.held lane y (cmp && decide (y.toNat ≠ z.toNat))).lane sum) t

/-- Writes how far a handle's release is on an NME. -/
def State.setPhase (s : State) (i handle : Nat) (ph : ReleasePhase) : State :=
  let m := s.nme i
  s.setNme i { m with armed := m.armed.map (fun a => if a.desc.handle = handle then { a with phase := ph } else a) }

/-- Finishes the zeroing of a handle on an NME, so that every packet past step 5 completes before the release read (R179). -/
def State.zeroAll (s : State) (i handle : Nat) : Nat → State
  | 0 => s
  | fuel + 1 =>
    match (s.nme i).find handle with
    | some a => if a.zeroed < a.desc.toZero then (s.zeroChunk i a).zeroAll i handle fuel else s
    | none => s

/-- Ends the zeroing of a handle on all its NMEs. -/
def State.zeroHandle (s : State) (h : Handle) : State := h.nmes.foldl (fun s i => s.zeroAll i h.handle h.toZero) s

/-- The packets of a forward of an NME (R184): the lanes of its chunks in order, to the next handle. -/
def Handle.forwardRecords (h : Handle) (i : Nat) : List E2e :=
  (List.range h.chunks).flatMap (fun k =>
    let first := (k * h.ncnt + (i - h.nbase)) * 16384
    let n := min 16384 (h.lanes - first)
    (cutLanes (n / 42 + 2) first 0 n).map (fun t =>
      { E2e.blank with
        type := tyAcc, dst := h.nnode, job := h.job, epoch := h.epoch, stepl := h.step % 2 ^ 16,
        len := accFlits t.2.2,
        source := { pre := accSub h.nhandle t.1 t.2.2 0 0 h.aval 0, core := none,
                    segs := [(h.laneAddr 0 t.1, 24 * t.2.2)] },
        owner := .forward i h.handle }))

/-- The marker of a forward (R184). -/
def Handle.marker (h : Handle) (i : Nat) : E2e :=
  { E2e.blank with
    type := tyAcc, dst := h.nnode, job := h.job, epoch := h.epoch, stepl := h.step % 2 ^ 16, len := 1,
    source := { pre := accSub h.nhandle 0 0 0 1 0 h.nstage, core := none, segs := [] }, owner := .marker i h.handle }

/-- Runs the optimizer of a released handle on an NME: descriptor and parameter block are read, then every lane is updated. -/
def State.optimize (s : State) (i : Nat) (h : Handle) : Option Nat × State :=
  let d := s.memRead h.optd 64
  match d.2.1 with
  | some e => (some e.addr, d.2.2)
  | none =>
    let o := OptDesc.ofBytes d.1
    let b := d.2.2.memRead o.pblk 64
    match b.2.1 with
    | some e => (some e.addr, b.2.2)
    | none => b.2.2.optRun i h o (ParamBlock.ofBytes b.1) (h.lanesOf i)

/-- The NME fault that the error in a handle's buffers is at its release, as its code and address (R73, R74, R159, R198). -/
def Armed.upsetFault (a : Armed) : Option (Nat × Nat) :=
  match a.upset with
  | .residue _ _ lane => some (0x20, a.desc.laneAddr 0 lane)
  | .parity e => some (0x22, e)
  | .retry e => some (0x24, e)
  | _ => none

/-- The release of a handle on one NME. -/
def State.releaseNme (s : State) (i : Nat) (h : Handle) (sel : Nat) (cmp : Bool) (x : RelOut) : RelOut × State :=
  match (s.nme i).find h.handle with
  | none => (x, s)
  | some a =>
    if a.phase ≠ .unreleased then (x, s)
    else match a.upsetFault with
    | some f => (x, (s.retryEvent a.upset).nmeFault i f.1 h.handle f.2)
    | none =>
      let x := { x with nf := x.nf || (sel == 1 && a.ownNf), ov := x.ov || (sel == 1 && a.ownOv) }
      let r := (s.nmeProgress i).relLanes h sel cmp x (h.lanesOf i)
      match r.1 with
      | some e => (r.2.1, r.2.2.nmeFault i 0x24 h.handle e)
      | none =>
        let s := if x.diff < r.2.1.diff then r.2.2.count (Reg.nmeCmpMismatch i) else r.2.2
        if h.nexten then (r.2.1, ((h.forwardRecords i).foldl State.newRecord s).setPhase i h.handle .forwarding)
        else if h.opten then
          let q := s.optimize i h
          match q.1 with
          | some e => (r.2.1, q.2.nmeFault i 0x24 h.handle e)
          | none => (r.2.1, q.2.setPhase i h.handle .optimizing)
        else (r.2.1, s.setPhase i h.handle .done)

/-- The release of a handle on all its NMEs (R184). -/
def State.releaseHandle (s : State) (h : Handle) (sel : Nat) (cmp : Bool) : RelOut × State :=
  h.nmes.foldl (fun a i => a.2.releaseNme i h sel cmp a.1) (RelOut.zero, s)

end Sys2Proof.Machine
end

