-- ==== Sys2Proof/Machine/Convert.lean ====
section
/-! DEFINITION. The working conversion, the checkpoint formats and the hashes of an NME (R189-R192), as the Gate coordinator, the
checkpoint controller and the command rings use them. -/

namespace Sys2Proof.Machine
open Sys2Proof

/-- Packs element codes of a width in little-endian bit order (R42). -/
def packCodes (b : Nat) (codes : List Nat) : List Byte :=
  toBytes ((codes.length * b + 7) / 8) (codes.foldr (fun c acc => c % 2 ^ b + 2 ^ b * acc) 0)

/-! ### CVTW (R189) -/

/-- A working conversion: format, stochastic rounding, OVS, OSC, tensor ID and IDXBASE (CVTW OPND2 and OPND3). -/
structure Conv where
  fmt : Fmt
  sr : Bool
  ovs : Bool
  osc : Int
  tensor : Nat
  idx : Nat
deriving DecidableEq, Repr

/-- The conversion that OPND2 and OPND3 spell; none where the format is no conversion output or ANCH. -/
def Conv.ofWords (w idx : Nat) : Option Conv :=
  match Fmt.ofCode (bits w 0 5) with
  | none => none
  | some f =>
    if !f.drainOutput || f == .anch then none
    else some { fmt := f, sr := bit w 5, ovs := bit w 6, osc := signed (bits w 7 8) 8, tensor := bits w 15 16, idx := idx }

/-- Scale bytes of an NME's part. -/
def Conv.scales (c : Conv) (p : Nat) : Nat := if c.fmt.isMx then p / 32 else 0

/-- Bytes of an NME's elements and scales. -/
def Conv.bytes (c : Conv) (p : Nat) : Nat := p * c.fmt.width / 8 + c.scales p

/-- WS, the span of an NME's part. -/
def Conv.span (c : Conv) (p : Nat) : Nat := (c.bytes p + 4095) / 4096 * 4096

/-- Where an NME writes its part. -/
def Conv.place (c : Conv) (p off i : Nat) : Nat := i / 4 * 2 ^ 39 + off + i % 4 * c.span p

/-- Whether the region of every NME of a handle lies in its tile. -/
def State.convFits (s : State) (c : Conv) (h : Handle) (off : Nat) : Bool :=
  off % 4096 == 0 && h.nmes.all (fun i => s.inTile (i / 4) (c.place h.params off i) (c.bytes h.params))

/-- The lane of slot u of an NME. -/
def Handle.laneOf (h : Handle) (i u : Nat) : Nat := (u / 16384 * h.ncnt + (i - h.nbase)) * 16384 + u % 16384

/-- Slots of the n from u that hold a lane of the handle. -/
def Handle.used (h : Handle) (i u n : Nat) : Nat := min n (h.lanes - h.laneOf i u)

/-- binary32 words of bytes. -/
def f32s (n : Nat) (l : List Byte) : List Nat := (List.range n).map (fun i => ofBytes ((l.drop (4 * i)).take 4))

/-- Converts 32 slots: their elements packed, and their scale. -/
def Conv.block (c : Conv) (h : Handle) (u : Nat) (vals : List Nat) : List Byte × Nat :=
  let nums := (vals.map Fmt.fp32.decode).map (fun x => x.scale c.osc)
  let rd (k : Nat) : Rounding := if c.sr then .sr (srBits h.job h.step c.tensor ((u + k + c.idx) % 2 ^ 48)) else .rne
  if c.fmt.isMx then
    let m := c.fmt.convertMx rd (nums.map (fun x => (x, false)))
    (packCodes c.fmt.width m.2.1, m.1)
  else (packCodes c.fmt.width (nums.zipIdx.map (fun xi => (c.fmt.convert (rd xi.2) c.ovs xi.1).1)), 0)

/-- Converts blocks of 32 slots one after another; a read that fails ends it with its address. -/
def State.cvtBlocks (s : State) (c : Conv) (h : Handle) (i src dst : Nat) : List Nat → Option Nat × State
  | [] => (none, s)
  | b :: t =>
    let n := h.used i (32 * b) 32
    let r := s.memRead (src + 128 * b) (4 * n)
    match r.2.1 with
    | some e => (some e.addr, r.2.2)
    | none =>
      let o := c.block h (32 * b) (f32s n r.1 ++ List.replicate (32 - n) 0)
      let s := r.2.2.memWrite (dst + b * 4 * c.fmt.width) o.1
      let s := if c.fmt.isMx then s.memWrite (dst + h.params * c.fmt.width / 8 + b) [BitVec.ofNat 8 o.2] else s
      s.cvtBlocks c h i src dst t

/-- CVTW of a handle on one NME: the committed bank into its part of the region. -/
def State.cvtw (s : State) (c : Conv) (h : Handle) (o : OptDesc) (off i : Nat) : Option Nat × State :=
  s.cvtBlocks c h i (o.bank h i o.cur) (c.place h.params off i) (List.range (h.params / 32))

/-- The optimizer descriptor of a handle as it stands. -/
def State.optDesc (s : State) (optd : Nat) : Option Nat × OptDesc × State :=
  let d := s.memRead optd 64
  (d.2.1.map MemErr.addr, OptDesc.ofBytes d.1, d.2.2)

/-! ### CKCVT (R190, R191, R363) -/

/-- Reads bytes of a bank as the sweep does: a copied granule from the snapshot. -/
def State.sweepRead (s : State) (i addr n : Nat) : List Byte × Option MemErr × State :=
  match (s.nme i).protection addr with
  | some c =>
    if Tab.get c.marks 0 ((addr - c.base) / granule) % 2 = 1 then s.memRead (c.snap + (addr - c.base)) n
    else s.memRead addr n
  | none => s.memRead addr n

/-- Marks the granule of an address SWEPT. -/
def State.sweepMark (s : State) (i addr : Nat) : State :=
  match (s.nme i).protection addr with
  | some c =>
    let g := (addr - c.base) / granule
    let k := Tab.get c.marks 0 g
    s.setNme i ((s.nme i).setCbw { c with marks := Tab.put c.marks 0 g (if k % 2 = 1 then 3 else 2) })
  | none => s

/-- Copies theta, slots of 1,024 bytes at a time, with zeros beyond LANES. -/
def State.ckTheta (s : State) (h : Handle) (i src dst : Nat) : List Nat → Option Nat × State
  | [] => (none, s)
  | b :: t =>
    let n := h.used i (256 * b) 256
    let r := s.sweepRead i (src + 1024 * b) (4 * n)
    match r.2.1 with
    | some e => (some e.addr, r.2.2)
    | none =>
      let s := r.2.2.memWrite (dst + 1024 * b) (r.1 ++ List.replicate (1024 - 4 * n) 0)
      (s.sweepMark i (src + 1024 * b)).ckTheta h i src dst t

/-- Converts moments in blocks of 256 parameters to BF16 or E5M2 with one E8M0 scale each; a block with a NaN or infinity raises
event 0x6006. -/
def State.ckMoments (s : State) (h : Handle) (mfmt : Bool) (i src dst : Nat) : List Nat → Option Nat × State
  | [] => (none, s)
  | b :: t =>
    let n := h.used i (256 * b) 256
    let e := if mfmt then 1 else 2
    let r := s.sweepRead i (src + 1024 * b) (4 * n)
    match r.2.1 with
    | some x => (some x.addr, r.2.2)
    | none =>
      let nums := (f32s n r.1 ++ List.replicate (256 - n) 0).map Fmt.fp32.decode
      let f : Fmt := if mfmt then .e5m2 else .bf16
      let m := f.convertMx (fun _ => .rne) (nums.map (fun x => (x, false)))
      let s := r.2.2.memWrite (dst + 256 * e * b) (packCodes (8 * e) m.2.1)
      let s := s.memWrite (dst + e * h.params + b) [BitVec.ofNat 8 m.1]
      let s := if m.1 = 0xFF then s.raise 0x6006 (3, i) [(16, i), (16, h.handle), (32, b)] else s
      (s.sweepMark i (src + 1024 * b)).ckMoments h mfmt i src dst t

/-- Zeros behind the bytes of a section up to its granule. -/
def State.padGranule (s : State) (dst n : Nat) : State :=
  s.memWrite (dst + n) (List.replicate (granules n * granule - n) 0)

/-- CKCVT of a bank of a handle on one NME into an image that begins at an address: theta, m, and v for AdamW, each from a
granule boundary. -/
def State.ckcvt (s : State) (h : Handle) (alg : Nat) (mfmt : Bool) (i src dst : Nat) : Option Nat × State :=
  let k := h.chunks
  let p := h.params
  let blocks := List.range (p / 256)
  let mg := momentGranules mfmt k
  let mb := (if mfmt then 1 else 2) * p + p / 256
  let a := s.ckTheta h i src dst blocks
  match a.1 with
  | some e => (some e, a.2)
  | none =>
    let dm := dst + k * granule
    let b := a.2.ckMoments h mfmt i (src + 4 * p) dm blocks
    match b.1 with
    | some e => (some e, b.2)
    | none =>
      let s := b.2.padGranule dm mb
      if alg ≠ 0 then (none, s)
      else
        let dv := dm + mg * granule
        let c := s.ckMoments h mfmt i (src + 8 * p) dv blocks
        match c.1 with
        | some e => (some e, c.2)
        | none => (none, c.2.padGranule dv mb)

/-! ### HASH (R192) -/

/-- The bytes of a granule as the sweep reads them: line by line under protection. -/
def State.readGranule (s : State) (i addr : Nat) : List Byte × Option MemErr × State :=
  match (s.nme i).protection addr with
  | none => s.memRead addr granule
  | some _ =>
    (List.range (granule / 64)).foldl (fun (a : List Byte × Option MemErr × State) k =>
      match a.2.1 with
      | some _ => a
      | none =>
        let r := a.2.2.sweepRead i (addr + 64 * k) 64
        (a.1 ++ r.1, r.2.1, r.2.2)) ([], none, s)

/-- Hashes granules one after another and writes their digests; a read that fails ends it with its address. -/
def State.hash (s : State) (i start dst : Nat) : List Nat → Option Nat × State
  | [] => (none, s)
  | g :: t =>
    let r := s.readGranule i (start + g * granule)
    match r.2.1 with
    | some e => (some e.addr, r.2.2)
    | none => (r.2.2.memWrite (dst + 48 * g) (sha384 r.1)).hash i start dst t

end Sys2Proof.Machine
end

