-- ==== Sys2Proof/Machine/NmeRing.lean ====
section
/-! DEFINITION. NME command rings (R193-R195) with their nine operations, the patrol, and the readings an NME takes of its stack
(R159, R160, R170, R181). -/

namespace Sys2Proof.Machine
open Sys2Proof

/-! ### Ring entries -/

/-- The address of a ring entry. -/
def State.ringAddr (s : State) (i index : Nat) : Nat := s.field (Reg.nmeCqBase i) 0 48 + 64 * index

/-- Entries of a table that its control register has scanned: none while EN = 0 or the number is out of range (R144). -/
def State.tableEntries (s : State) (ctl : Nat) : Nat :=
  let n := s.field ctl 16 11
  if s.flag ctl 0 && decide (1 ≤ n ∧ n ≤ 1024) then n else 0

/-- Event 0x9004 for an entry of a table (0xFF the submission table, else the NME). -/
def State.unreadable (s : State) (table index addr : Nat) : State :=
  s.raise 0x9004 (if table = 0xFF then (8, 0) else (3, table)) [(8, table), (16, index), (64, addr)]

/-- Writes a word of an entry; a line that is left unreadable is recorded (R147). -/
def State.entryWrite (s : State) (table index addr off v : Nat) : State :=
  let s := s.memWrite64 (addr + off) v
  match locate s.spread (addr + off) with
  | some (stack, a) =>
    if s.linePoison (physKey stack a / 64) then s.unreadable table index addr else s
  | none => s.unreadable table index addr

/-- Writes STATE into word 0 of an entry. -/
def State.entryState (s : State) (table index addr st : Nat) : State :=
  let w := s.memRead addr 8
  w.2.2.entryWrite table index addr 0 (setBits (ofBytes w.1) 1 3 st)

/-- Seconds of TIME_COUNT, one more than their number. -/
def State.second (s : State) : Nat := s.time.count / 1000000000 + 1

/-- The command that 64 bytes spell. -/
def RingCmd.ofBytes (index : Nat) (now : Nat) (l : List Byte) : RingCmd :=
  let start := wordAt l 8
  { index := index, op := dField l 0 8 8, semEn := dField l 0 28 1 == 1, sem := dField l 0 16 12, start := start,
    opnds := (List.range 5).map (fun k => wordAt l (0x10 + 8 * k)), late := decide (start ≠ 0 ∧ start < now) }

/-- An operand of a command. -/
def RingCmd.opnd (c : RingCmd) (k : Nat) : Nat := (c.opnds[k]?).getD 0

/-- The handle a command names. -/
def RingCmd.handle (c : RingCmd) : Nat := c.opnd 0 % 65536

/-- Order 1 of R195: a reserved bit of word 0 or of a named operand, an invalid field value, or an unknown OP. -/
def RingCmd.bad (c : RingCmd) (word0 : Nat) : Bool :=
  word0 / 2 ^ 29 != 0 || bits word0 4 4 != 0 ||
  (match c.op with
   | 1 => c.opnd 0 / 2 ^ 16 != 0 || c.opnd 1 / 2 ^ 48 != 0 || c.opnd 2 / 2 ^ 20 != 0
   | 2 => c.opnd 0 / 2 ^ 16 != 0
   | 3 => c.opnd 0 / 2 ^ 16 != 0 || c.opnd 1 % 4096 != 0 || c.opnd 2 / 2 ^ 31 != 0 || c.opnd 3 / 2 ^ 48 != 0 ||
       (Conv.ofWords (c.opnd 2) (c.opnd 3)).isNone
   | 4 => c.opnd 0 / 2 ^ 17 != 0
   | 5 => c.opnd 0 / 2 ^ 17 != 0
   | 6 => c.opnd 0 / 2 ^ 16 != 0
   | 7 => c.opnd 1 % granule != 0
   | 8 => false
   | 9 => false
   | _ => true)

/-! ### Orders 2-8 -/

/-- Orders 2-7 for a command other than ARM that names a handle; CVTW, CKCVT and CBWARM need the banks of an OPTEN handle. -/
def State.namedErr (s : State) (i : Nat) (c : RingCmd) (banks : Bool) : Nat × Found2 × State :=
  let armed := ((s.nme i).find c.handle).map (·.desc)
  let r := match armed with
    | some d => s.checkDesc c.handle d.step d.job d.epoch
    | none => s.checkDesc c.handle 0 0 0
  let f := r.1
  let e := if f.err ≠ 0 then f.err
    else if banks ∧ f.opt.isNone then 0x01
    else if !f.desc.uses i then 0x07
    else if armed.isNone then 0x03 else 0
  (e, f, r.2)

/-- The bank CKCVT reads: the protected one, or the committed one. -/
def State.sweepBank (s : State) (i handle : Nat) (o : OptDesc) : Bool :=
  match (s.nme i).cbw.find? (fun c => c.handle == handle) with
  | some c => c.bank
  | none => o.cur

/-- Granules of a bank of a handle on one NME. -/
def OptDesc.bankGranules (o : OptDesc) (h : Handle) : Nat := (o.bankBytes h + granule - 1) / granule

/-- Granules of the image CKCVT writes for a handle. -/
def imageSize (o : OptDesc) (h : Handle) (mfmt : Bool) : Nat :=
  h.chunks + momentGranules mfmt h.chunks * (if o.alg = 0 then 2 else 1)

/-- Orders 2-8 of R195 for a command: its ERR, the handle found, and the state after the reads. -/
def State.ringErr (s : State) (i : Nat) (c : RingCmd) : Nat × Found2 × State :=
  let tile := i / 4
  let blank : Found2 := { err := 0, desc := Handle.ofBytes 0 0 0 0 [], opt := none }
  match c.op with
  | 1 =>
    let r := s.checkDesc c.handle (c.opnd 1) (bits (c.opnd 2) 0 12) (bits (c.opnd 2) 12 8)
    (r.2.armErr r.1 i, r.1, r.2)
  | 2 => s.namedErr i c false
  | 6 => s.namedErr i c false
  | 7 =>
    let n := c.opnd 1 / granule
    (if s.inTile tile (c.opnd 0) (c.opnd 1) && s.inTile tile (c.opnd 2) (48 * n) then 0 else 0x04, blank, s)
  | 8 => (if s.inTile tile (c.opnd 0) (c.opnd 1) then 0 else 0x04, blank, s)
  | 9 => (if s.inTile tile (c.opnd 0) (c.opnd 1) then 0 else 0x04, blank, s)
  | _ =>
    let r := s.namedErr i c true
    let h := r.2.1.desc
    match r.2.1.opt with
    | none => r
    | some o =>
      let fits := s.areasFit r.2.1 i && (match c.op with
        | 3 => match Conv.ofWords (c.opnd 2) (c.opnd 3) with
          | some v => s.convFits v h (c.opnd 1)
          | none => true
        | 4 => s.inTile tile (tile * 2 ^ 39 + c.opnd 1) (imageSize o h (bit (c.opnd 0) 16) * granule)
        | _ => s.inTile tile (tile * 2 ^ 39 + c.opnd 1) (o.bankGranules h * granule))
      (if r.1 ≠ 0 then r.1 else if fits then 0 else 0x04, r.2.1, r.2.2)

/-! ### Rejection and scanning -/

/-- Rejects a command (R195): ERR and STATE 3, counted, recorded. -/
def State.ringReject (s : State) (i index err : Nat) : State :=
  let a := s.ringAddr i index
  let s := s.entryWrite i index a 0x38 err
  let s := s.entryState i index a 3
  let s := s.countField (Reg.nmeCqStat i) 48 16
  s.raise 0x9003 (3, i) [(16, i), (16, index), (8, err)]

/-- Event 0x6003 of a ring command that an uncorrectable read rejects, of a descriptor (order 3) or of its data (order 10) (R169). -/
def State.ringUe (s : State) (i err addr : Nat) : State :=
  if err = 0x06 then s.raise 0x6003 (3, i) [(16, i), (8, 1), (64, addr)] else s

/-- A found command that has been cancelled is dropped (R146). -/
def State.ringCancel (s : State) (i : Nat) (c : RingCmd) : State :=
  let w := s.memRead (s.ringAddr i c.index) 8
  if w.2.1.isNone ∧ ofBytes w.1 % 2 = 0 then
    let m := w.2.2.nme i
    w.2.2.setNme i { m with found := m.found.filter (fun d => d.index != c.index) }
  else w.2.2

/-- An entry that cannot be read is recorded at most once per second (R147). -/
def State.ringUnread (s : State) (i index : Nat) : State :=
  let m := s.nme i
  if Tab.get m.badAt 0 index = s.second then s
  else (s.setNme i { m with badAt := Tab.put m.badAt 0 index s.second }).unreadable i index (s.ringAddr i index)

/-- A scan reads one entry: found at VALID = 1 and STATE = 0, then judged by orders 1 and 9; orders 2-8 come before order 9, and
for a command within reach when it runs, since an earlier command of the ring may arm its handle. -/
def State.ringRead (s : State) (i index : Nat) : State :=
  let m := s.nme i
  if m.found.any (fun c => c.index == index) || m.run.any (fun r => r.cmd.index == index) then s
  else
    let a := s.ringAddr i index
    if !s.backed a 64 then s.ringUnread i index
    else
      let r := s.memRead a 64
      match r.2.1 with
      | some _ => r.2.2.ringUnread i index
      | none =>
        let s := r.2.2
        let w := wordAt r.1 0
        if bits w 0 4 ≠ 1 then s
        else
          let c := RingCmd.ofBytes index s.nowA r.1
          if c.bad w then s.ringReject i index 0x01
          else if s.nowA + 2 ^ 36 < c.start then
            let e := s.ringErr i c
            (e.2.2.ringUe i e.1 e.2.1.bad).ringReject i index (if e.1 ≠ 0 then e.1 else 0x05)
          else
            let m := s.nme i
            s.setNme i { m with found := m.found ++ [c] }

/-- The multiple of 2,000 ns the fabric time has reached, one more than its number. -/
def State.scanTick (s : State) : Nat := s.nowA / 2000 + 1

/-- NME_RING_SCAN: at a multiple of 2,000 ns the ring is scanned in index order (R193). -/
def execNmeRingScan (nme : Nat) (s : State) : Host.Outcome State Fault Refusal :=
  actLive (fun s => decide (nme < 32) && s.serving && (s.nme nme).running && (s.region 3 nme).running && decide (0 < s.tableEntries (Reg.nmeCqCtl nme)) &&
      decide ((s.nme nme).lastScan ≠ s.scanTick))
    (fun s =>
      let n := s.tableEntries (Reg.nmeCqCtl nme)
      let s := s.setNme nme { s.nme nme with lastScan := s.scanTick }
      let s := (s.nme nme).found.foldl (fun s c => s.ringCancel nme c) s
      let s := (List.range n).foldl (fun s k => s.ringRead nme k) s
      s.setField (Reg.nmeCqStat nme) 0 32 (s.field (Reg.nmeCqStat nme) 0 32 + 1)) s

/-! ### Running a command -/

/-- The next command of a ring: in START order, ties in index order, once its START has come. -/
def State.ringNext (s : State) (i : Nat) : Option RingCmd :=
  match (sortBy (fun c => c.start * 1024 + c.index) (s.nme i).found).head? with
  | some c => if c.start ≤ s.nowA then some c else none
  | none => none

/-- What a command came to: the address of a read that failed, RESULT, and the state after. -/
structure RingOut where
  bad : Option Nat
  result : Nat
  after : State
deriving DecidableEq, Repr

/-- Runs a command of a ring: STATE 4; rejected by orders 2-8, or stopped by an uncorrectable read (order 10, R169); else its
effect, and its completion is left to NME_COMMAND_COMPLETE. -/
def State.ringRun (s : State) (i : Nat) (f : State → RingCmd → Found2 → RingOut) : State :=
  match s.ringNext i with
  | none => s
  | some c =>
    let s := s.nmeWork i
    let m := s.nme i
    let s := s.setNme i { m with found := m.found.filter (fun d => d.index != c.index) }
    let s := s.entryState i c.index (s.ringAddr i c.index) 4
    let e := s.ringErr i c
    if e.1 ≠ 0 then (e.2.2.ringUe i e.1 e.2.1.bad).ringReject i c.index e.1
    else
      let r := f e.2.2 c e.2.1
      match r.bad with
      | some a => (r.after.ringUe i 0x06 a).ringReject i c.index 0x06
      | none => r.after.setNme i { r.after.nme i with run := some { cmd := c, result := r.result, err := 0 } }

/-- A ring command: nothing happens unless the NME is in service, runs none, and its next command is of this OP. -/
def ringCmd (op nme : Nat) (f : State → RingCmd → Found2 → RingOut) (s : State) : Host.Outcome State Fault Refusal :=
  actLive (fun s => decide (nme < 32) && (s.nme nme).running && (s.region 3 nme).running && (s.nme nme).run.isNone &&
      (match s.ringNext nme with | some c => c.op == op | none => false))
    (fun s => (s.ringRun nme f).settle 64) s

/-- A command that reads nothing that can fail. -/
def ringOk (result : Nat) (s : State) : RingOut := { bad := none, result := result, after := s }

/-- ARM (R177). -/
def execArm (nme : Nat) (s : State) : Host.Outcome State Fault Refusal :=
  ringCmd 1 nme (fun s _ f => ringOk 0 (s.armOn nme f.desc)) s

/-- DISARM: clears ARMED on this NME (R194). -/
def execDisarm (nme : Nat) (s : State) : Host.Outcome State Fault Refusal :=
  ringCmd 2 nme (fun s c _ => ringOk 0 (s.disarmOn nme c.handle)) s

/-- CVTW: the committed bank into the working format (R189). -/
def execCvtw (nme : Nat) (s : State) : Host.Outcome State Fault Refusal :=
  ringCmd 3 nme (fun s c f =>
    match Conv.ofWords (c.opnd 2) (c.opnd 3), f.opt with
    | some v, some o =>
      let r := s.cvtw v f.desc o (c.opnd 1) nme
      { bad := r.1, result := (f.desc.lanesOf nme).length, after := r.2 }
    | _, _ => ringOk 0 s) s

/-- CKCVT: the protected or committed bank into an image (R190). -/
def execCkcvt (nme : Nat) (s : State) : Host.Outcome State Fault Refusal :=
  ringCmd 4 nme (fun s c f =>
    match f.opt with
    | some o =>
      let r := s.ckcvt f.desc o.alg (bit (c.opnd 0) 16) nme (o.bank f.desc nme (s.sweepBank nme c.handle o))
        (nme / 4 * 2 ^ 39 + c.opnd 1)
      { bad := r.1, result := (f.desc.lanesOf nme).length, after := r.2 }
    | none => ringOk 0 s) s

/-- CBWARM: protects a bank (R191). -/
def execCbwarm (nme : Nat) (s : State) : Host.Outcome State Fault Refusal :=
  ringCmd 5 nme (fun s c f =>
    match f.opt with
    | some o =>
      let m := s.nme nme
      let b := bit (c.opnd 0) 16
      let x : Cbw := { handle := c.handle, bank := b, base := o.bank f.desc nme b, size := o.bankBytes f.desc,
                       snap := nme / 4 * 2 ^ 39 + c.opnd 1, marks := [] }
      ringOk (o.bankGranules f.desc)
        (s.setNme nme { m with cbw := m.cbw.filter (fun d => d.handle != c.handle) ++ [x] })
    | none => ringOk 0 s) s

/-- CBWEND: ends the protection of a handle and frees the bitmap (R191). -/
def execCbwend (nme : Nat) (s : State) : Host.Outcome State Fault Refusal :=
  ringCmd 6 nme (fun s c _ =>
    let m := s.nme nme
    ringOk 0 (s.setNme nme { m with cbw := m.cbw.filter (fun d => d.handle != c.handle) })) s

/-- HASH: the SHA-384 of each granule of a range (R192). -/
def execHash (nme : Nat) (s : State) : Host.Outcome State Fault Refusal :=
  ringCmd 7 nme (fun s c _ =>
    let n := c.opnd 1 / granule
    let r := s.hash nme (c.opnd 0) (c.opnd 2) (List.range n)
    { bad := r.1, result := n, after := r.2 }) s

/-- Patrols pieces of a range: how many lines were corrected, the first failure, and the state after. -/
def State.patrol (s : State) (i : Nat) : List (Nat × Nat) → Nat → RingOut
  | [], n => ringOk n s
  | (addr, _) :: t, n =>
    match locate s.spread addr with
    | none => s.patrol i t n
    | some (stack, a) =>
      let line := physKey stack a / 64
      let fixed := decide (s.lineErrs line = 1)
      let r := s.readLine line
      let s := r.2.count (Reg.nmeScrubLines i)
      if r.1 then s.patrol i t (n + b2n fixed) else { bad := some addr, result := n, after := s }

/-- SCRUBNOW: patrols a range at once (R168, R194). -/
def execScrubnow (nme : Nat) (s : State) : Host.Outcome State Fault Refusal :=
  ringCmd 8 nme (fun s c _ => s.patrol nme (pieces (c.opnd 0) (c.opnd 1)) 0) s

/-- ZERO: writes zeros (R194). -/
def execZero (nme : Nat) (s : State) : Host.Outcome State Fault Refusal :=
  ringCmd 9 nme (fun s c _ =>
    ringOk 0 ((pieces (c.opnd 0) (c.opnd 1)).foldl (fun s p => s.memWrite p.1 (List.replicate p.2 0)) s)) s

/-- NME_COMMAND_COMPLETE: RESULT and STATE are written back, LATE is counted and the semaphore signalled (R193). -/
def execNmeCommandComplete (nme : Nat) (s : State) : Host.Outcome State Fault Refusal :=
  actLive (fun s => decide (nme < 32) && (s.nme nme).running && (s.nme nme).run.isSome)
    (fun s => match (s.nme nme).run with
      | none => s
      | some r =>
        let c := r.cmd
        let a := s.ringAddr nme c.index
        let s := (s.setNme nme { s.nme nme with run := none }).nmeProgress nme
        let s := s.entryWrite nme c.index a 0x38 (r.err + r.result % 2 ^ 56 * 256)
        let s := s.entryState nme c.index a (if c.late then 2 else 1)
        let s := if c.late then s.countField (Reg.nmeCqStat nme) 32 16 else s
        if c.semEn then s.signalDev c.sem else s) s

/-! ### The patrol and readings -/

/-- SCRUB_READ: the patrol reads its next line, finds some symbols of it in error, and handles it under R168; a pass ends with
the last line of the stack (R170). -/
def execScrubRead (nme errs : Nat) (s : State) : Host.Outcome State Fault Refusal :=
  actLive (fun s => decide (nme < 32) && (s.nme nme).running && s.flag (Reg.nmeCtl nme) 0)
    (fun s =>
      let p := (s.nme nme).scrubPtr
      let line := nme * 2 ^ 31 + p
      let s := if errs = 0 then s else s.setEcc line errs (s.linePoison line)
      let s := (s.readLine line).2.count (Reg.nmeScrubLines nme)
      let m := s.nme nme
      if p + 1 < 2 ^ 31 then s.setNme nme { m with scrubPtr := p + 1 }
      else s.setNme nme { m with scrubPtr := 0, passAt := s.time.count, corrected := [] }) s

/-- HBM_TEMP_SAMPLE: the temperature of the hottest die, read every millisecond (R160, R197). -/
def execHbmTempSample (nme : Nat) (celsius : Int) (s : State) : Host.Outcome State Fault Refusal :=
  actLive (fun _ => decide (nme < 32)) (fun s => s.setField (Reg.nmeStat nme) 8 8 (max 0 (min celsius 255)).toNat) s

/-- ECS_COUNT_READ: the on-die error counts, read every second, are recorded as a corrected event; the row they stem from is not
stated (R159). -/
def execEcsCountRead (nme count : Nat) (s : State) : Host.Outcome State Fault Refusal :=
  actLive (fun _ => decide (nme < 32 ∧ count ≠ 0))
    (fun s =>
      let f := s.fresh
      f.2.raise 0x6002 (3, nme) [(16, nme), (16, f.1 % 32), (64, f.1 / 32)]) s

/-- The effect of a write of NME_WSPILL_BASE (R181): the placement is checked again. -/
def State.wspillWrite (s : State) (nme v : Nat) : State :=
  (s.setReg (Reg.nmeWspill nme) (v % 2 ^ 48)).spillCheck nme

/-- NME_WSPILL_BASE_WRITE: a write of NME_WSPILL_BASE (R181, R197). -/
def execNmeWspillBaseWrite (pf nme : Nat) (value : BitVec 64) (s : State) : Host.Outcome State Fault Refusal :=
  act (fun _ => decide (nme < 32))
    (fun s => match s.writeRefusal pf (Reg.nmeWspill nme) with
      | some k => s.refuse k pf false (Reg.nmeWspill nme)
      | none => s.wspillWrite nme value.toNat) s

end Sys2Proof.Machine
end

