-- ==== Sys2Proof/Machine/Gate.lean ====
section
/-! DEFINITION. The Step Gate coordinator (R271-R292, R299): loading a step record, markers, decisions and releases, the commit
test and hold notices, the commit point, and resolutions. -/

namespace Sys2Proof.Machine
open Sys2Proof

/-! ### The record (R275, R276) -/

/-- Reserved bits of the header, as (offset, low bit, width). -/
def headerReserved : List (Nat × Nat × Nat) :=
  [(0x00, 23, 41), (0x08, 48, 16), (0x38, 46, 18), (0x40, 13, 3), (0x40, 48, 16), (0x48, 48, 16), (0x50, 32, 32), (0x80, 4, 4), (0x80, 21, 11), (0x80, 45, 19),
   (0x58, 0, 64), (0x60, 0, 64), (0x68, 0, 64), (0x70, 0, 64), (0x78, 0, 64)] ++
  (List.range 11).map (fun k => (0xA8 + 8 * k, 0, 64))

/-- Reserved bits of an entry. -/
def entryReserved : List (Nat × Nat × Nat) :=
  [(0x00, 25, 39), (0x08, 15, 1), (0x08, 31, 1), (0x10, 16, 48), (0x18, 31, 33), (0x20, 39, 25), (0x28, 48, 16), (0x30, 32, 32)]

/-- Whether bytes hold zero in some fields. -/
def allZero (l : List Byte) (fs : List (Nat × Nat × Nat)) : Bool := fs.all (fun f => dField l f.1 f.2.1 f.2.2 == 0)

/-- The host's fields of a record header. -/
structure GateHeader where
  valid : Bool
  policy : Nat
  job : Nat
  epoch : Nat
  step : Nat
  nent : Nat
  slot : Slot
deriving DecidableEq, Repr

/-- The header that 256 bytes spell. -/
def GateHeader.ofBytes (addr : Nat) (l : List Byte) : GateHeader :=
  { valid := dField l 0 0 1 == 1, policy := dField l 0 1 2, job := dField l 0 3 12, epoch := dField l 0 15 8,
    step := dField l 8 0 48, nent := dField l 0x38 32 14,
    slot := { Slot.empty with
      addr := addr, dx := wordAt l 0x10, dy := wordAt l 0x18, dz := wordAt l 0x20, tc := wordAt l 0x28,
      hx := dField l 0x30 0 32, hy := dField l 0x30 32 32, hz := dField l 0x38 0 32, bsem := dField l 0x40 0 12,
      bsemen := dField l 0x40 12 1 == 1, breg := dField l 0x40 16 32, bmap := dField l 0x48 0 48,
      bmstr := dField l 0x50 0 32 } }

/-- The entry that 64 bytes spell, with its handle's descriptor. -/
def GateEntry.ofBytes (l : List Byte) (d : Handle) : GateEntry :=
  { handle := dField l 0 0 16, stage := dField l 0 16 2, pos := dField l 0 18 5, bken := dField l 0 23 1 == 1,
    bkwait := dField l 0 24 1 == 1, upnode := dField l 8 0 15, bknode := dField l 8 16 15, nmown := dField l 8 32 16,
    nmup := dField l 8 48 16, nmbk := dField l 0x10 0 16, conv := dField l 0x18 0 31, woff := dField l 0x20 0 39,
    idxbase := dField l 0x28 0 48, nbase := d.nbase, ncnt := d.ncnt, opten := d.opten, optd := d.optd,
    own := Arrivals.none, bk := Arrivals.none, up := Arrivals.none, decided := false, mask := 0, trel := 0,
    relLeft := [], optLeft := [], pinf := 0, ninf := 0, nan := 0, ovf := 0 }

/-- Cuts bytes into entries of 64. -/
def entryBytes (n : Nat) (l : List Byte) : List (List Byte) := (List.range n).map (fun i => (l.drop (64 * i)).take 64)

/-! ### Validation (R273) -/

/-- What a load finds of one entry: its codes, the entry and the handle. -/
structure EntryCheck where
  codes : List Nat
  entry : GateEntry
  desc : Handle
deriving DecidableEq, Repr

/-- A code where a condition holds. -/
def code (b : Bool) (c : Nat) : List Nat := if b then [c] else []

/-- Checks one entry: the codes it gives, with the checks that ARM makes of its descriptors on every NME of the handle. -/
def State.checkEntry (s : State) (h : GateHeader) (l : List Byte) (names : List Nat) : EntryCheck × State :=
  let handle := dField l 0 0 16
  let r := s.readDesc (s.handleAddr handle)
  let d := Handle.ofBytes handle h.step h.job h.epoch r.2.1
  let e := GateEntry.ofBytes l d
  let q : Nat × List Byte × State := if d.opten then r.2.2.readDesc d.optd else (0, [], r.2.2)
  let o := OptDesc.ofBytes q.2.1
  let s := q.2.2
  let conv := Conv.ofWords e.conv e.idxbase
  let f : Found2 := { err := 0, desc := d, opt := if d.opten then some o else none }
  let read := r.1 == 0 && q.1 == 0
  let codes :=
    code (!allZero l entryReserved || e.stage == 3 || (read && d.opten && conv.isNone)) 0x01 ++
    code ((List.range 32).any (fun i => s.armedOn i handle) || decide (1 < (names.filter (· == handle)).length)) 0x05 ++
    code ((e.bken && e.stage != 0) || (e.pos != 0 && e.upnode == s.own.node) || e.nmown == 0 ||
      (e.pos != 0 && e.nmup == 0) || (e.bken && e.nmbk == 0)) 0x06 ++
    (if r.1 ≠ 0 then [0x07] else
      code (dField r.2.1 0 0 1 == 0 || e.stage != d.stage || (d.opten && decide (e.stage < 2)) || handleBad d r.2.1) 0x05 ++
      code (e.bken && !d.holdown) 0x06 ++
      (if q.1 ≠ 0 then [0x07] else
        code (d.opten && optBad o) 0x05 ++
        code ((d.opten && !s.backed o.pblk 64) || !(d.nmes.all (fun i => s.areasFit f i)) ||
          (match conv with | some c => d.opten && !s.convFits c d e.woff | none => false) ||
          d.nmes.any s.nospill) 0x07))
  ({ codes := codes, entry := e, desc := d }, s)

/-- Checks the entries in order. -/
def State.checkEntries (s : State) (h : GateHeader) (names : List Nat) : List (List Byte) → List EntryCheck × State
  | [] => ([], s)
  | l :: t =>
    let r := s.checkEntry h l names
    let q := r.2.checkEntries h names t
    (r.1 :: q.1, q.2)

/-- The highest node ID of the torus. -/
def NodeLatch.top (l : NodeLatch) : Nat := (l.zd - 1) * 1024 + (l.yd - 1) * 32 + (l.xd - 1)

/-- The slot a load takes (R272): the lowest FREE one, else the terminal one that ended earliest. -/
def State.pickSlot (s : State) : Option Nat :=
  match (List.range 32).find? (fun k => s.slotState k == 0) with
  | some k => some k
  | none => (sortBy (fun k => (s.slot k).termAt) ((List.range 32).filter (fun k => terminal (s.slotState k)))).head?

/-- What a load finds: the lowest code that applies (0 none), whether the record's ERR can be written, the header and the
entries. -/
structure LoadCheck where
  err : Nat
  writes : Bool
  header : GateHeader
  entries : List EntryCheck
deriving DecidableEq, Repr

/-- The codes of the header and of the module's state. -/
def State.headerCodes (s : State) (h : GateHeader) (l : List Byte) : List Nat :=
  let x := h.slot
  code (!h.valid || !allZero l headerReserved || h.policy == 3 || h.nent == 0 || decide (8192 < h.nent)) 0x01 ++
  code (!s.jobLive h.job h.epoch) 0x02 ++
  code (s.pickSlot.isNone || decide (2 ≤ (s.liveSlots.filter (fun k => s.slotJob k == h.job)).length)) 0x03 ++
  code (!decide (x.dx < x.dy ∧ x.dy < x.dz ∧ x.dz < x.tc) || decide (x.tc < s.nowA + 1000000)) 0x04 ++
  code (!s.backed x.bmap (x.bmstr * (s.own.top + 1))) 0x07

/-- The smallest of some codes, 0 for none. -/
def lowest : List Nat → Nat
  | [] => 0
  | c :: t => t.foldl min c

/-- Reads and validates a record (R273). -/
def State.loadCheck (s : State) (addr : Nat) : LoadCheck × State :=
  let blank := GateHeader.ofBytes addr []
  let fail (e : Nat) : LoadCheck := { err := e, writes := false, header := blank, entries := [] }
  if addr % 64 ≠ 0 then (fail 0x01, s)
  else if !s.backed addr 256 then (fail 0x07, s)
  else
    let r := s.memRead addr 256
    match r.2.1 with
    | some _ => (fail 0x07, r.2.2)
    | none =>
      let h := GateHeader.ofBytes addr r.1
      let s := r.2.2
      let hc := s.headerCodes h r.1
      let n := if 1 ≤ h.nent ∧ h.nent ≤ 8192 then h.nent else 0
      if !s.backed (addr + 0x100) (64 * n) then
        let e := lowest (hc ++ [0x07])
        ({ err := e, writes := decide (e ≠ 0x07), header := h, entries := [] }, s)
      else
        let q := s.memRead (addr + 0x100) (64 * n)
        match q.2.1 with
        | some _ =>
          let e := lowest (hc ++ [0x07])
          ({ err := e, writes := decide (e ≠ 0x07), header := h, entries := [] }, q.2.2)
        | none =>
          let ls := entryBytes n q.1
          let c := q.2.2.checkEntries h (ls.map (fun l => dField l 0 0 16)) ls
          ({ err := lowest (hc ++ c.1.flatMap (·.codes)), writes := true, header := h, entries := c.1 }, c.2)

/-! ### Loading (R273) -/

/-- A rejected load: ERR in GATE_LOAD, in the record where it can be written, and event 0x040. -/
def State.loadReject (s : State) (addr : Nat) (c : LoadCheck) : State :=
  let s := s.setField Reg.gateLoad 56 8 c.err
  let s := if c.writes then
      let w := s.hbmWord (addr + 0x80)
      w.2.memWrite64 (addr + 0x80) (setBits w.1 8 8 c.err)
    else s
  let h := c.header
  s.raise 0x4040 (8, 0) [(16, 0), (16, s.own.node), (8, c.err)] (some (h.job, h.epoch, h.step))

/-- An accepted load: the slot is LOADING and its handles are armed on their NMEs. -/
def State.loadAccept (s : State) (k : Nat) (c : LoadCheck) : State :=
  let h := c.header
  let x := h.slot
  let s := (s.setField Reg.gateLoad 56 8 0).setField Reg.gateLoad 50 5 k
  let s := s.setField Reg.gateLoad 49 1 1
  let s := s.setSlot k { x with entries := c.entries.map (·.entry) }
  let s := s.setReg (Reg.gateSlot k) (1 + h.job * 2 ^ 4 + h.epoch * 2 ^ 16 + h.policy * 2 ^ 24)
  let s := s.setReg (Reg.gateSlotStep k) h.step
  let s := { s with gate := { s.gate with bcasts := s.gate.bcasts.filter (fun b => b.slot != some k) } }
  let s := s.recordWrite k 0x80 1
  c.entries.foldl (fun s e => e.desc.nmes.foldl (fun (s : State) i => if (s.nme i).running then s.armOn i e.desc else s) s) s

/-- Whether every NME of an entry's handle has latched it, with its spill table placed (R273). -/
def State.latched (s : State) (e : GateEntry) : Bool :=
  (List.range e.ncnt).all (fun j => s.armedOn (e.nbase + j) e.handle && !s.nospill (e.nbase + j))

/-- A load that fails while it arms (R273): every handle it armed is disarmed, the slot returns to FREE, ERR 0x07 is written. -/
def State.loadFail (s : State) (k : Nat) : State :=
  let x := s.slot k
  let s := x.entries.foldl (fun s e => s.disarm e.handle) s
  let s := (s.setSlotState k 0).setField Reg.gateLoad 49 1 0
  let h : GateHeader := { valid := true, policy := s.slotPolicy k, job := s.slotJob k, epoch := s.slotEpoch k, step := s.slotStep k,
                          nent := x.entries.length, slot := x }
  s.loadReject x.addr { err := 0x07, writes := true, header := h, entries := [] }

/-- A write of GATE_LOAD (R301): ADDR is stored; GO loads the record unless a load is in progress. -/
def State.gateLoadWrite (s : State) (v : Nat) : State :=
  let s := s.setField Reg.gateLoad 0 48 v
  if !bit v 48 || s.flag Reg.gateLoad 49 then s
  else
    let addr := v % 2 ^ 48
    let c := s.loadCheck addr
    match c.2.pickSlot with
    | some k => if c.1.err = 0 then c.2.loadAccept k c.1 else c.2.loadReject addr c.1
    | none => c.2.loadReject addr c.1

/-- GATE_LOAD: a write of GATE_LOAD (R273, R301). -/
def execGateLoad (pf : Nat) (value : BitVec 64) (s : State) : Host.Outcome State Fault Refusal :=
  hostWrite pf Reg.gateLoad (fun s => s.gateLoadWrite value.toNat) s

/-- GATE_LOAD_COMPLETE: every NME has latched its handles and the slot enters OPEN, or the load fails (R273). -/
def execGateLoadComplete (slot : Nat) (s : State) : Host.Outcome State Fault Refusal :=
  actLive (fun s => decide (slot < 32) && s.slotState slot == 1)
    (fun s => if (s.slot slot).entries.all s.latched then (s.setSlotState slot 2).setField Reg.gateLoad 49 1 0
      else (s.loadFail slot).settle 64) s

/-! ### Contributors (R277, R278) -/

/-- The contributor classes. -/
inductive Class where
  | own
  | backup
  | upstream
deriving DecidableEq, Repr

/-- Dstage of an entry. -/
def Slot.dstage (x : Slot) (e : GateEntry) : Nat := if e.stage = 0 then x.dx else if e.stage = 1 then x.dy else x.dz

/-- Hstage of an entry. -/
def Slot.hstage (x : Slot) (e : GateEntry) : Nat := if e.stage = 0 then x.hx else if e.stage = 1 then x.hy else x.hz

/-- The deadline of a class (R278). -/
def Slot.deadline (x : Slot) (e : GateEntry) : Class → Nat
  | .own => x.dstage e
  | .backup => x.dx
  | .upstream => x.dstage e + e.pos * x.hstage e

/-- Whether a class is expected. -/
def GateEntry.expects (e : GateEntry) : Class → Bool
  | .own => true
  | .backup => e.bken
  | .upstream => e.pos != 0

/-- The classes an entry expects. -/
def GateEntry.expected (e : GateEntry) : List Class := [Class.own, .backup, .upstream].filter e.expects

/-- The markers of a class. -/
def GateEntry.arrivals (e : GateEntry) : Class → Arrivals
  | .own => e.own
  | .backup => e.bk
  | .upstream => e.up

/-- The markers that complete a class. -/
def GateEntry.need (e : GateEntry) : Class → Nat
  | .own => e.nmown
  | .backup => e.nmbk
  | .upstream => e.nmup

/-- The node of a class's contributor. -/
def GateEntry.node (e : GateEntry) (own : Nat) : Class → Nat
  | .own => own
  | .backup => e.bknode
  | .upstream => e.upnode

/-- Counts a marker of a class. -/
def GateEntry.mark (e : GateEntry) (c : Class) (stamp : Nat) : GateEntry :=
  let f (a : Arrivals) : Arrivals := { count := a.count + 1, stamp := max a.stamp stamp }
  match c with
  | .own => { e with own := f e.own }
  | .backup => { e with bk := f e.bk }
  | .upstream => { e with up := f e.up }

/-- Whether a class is complete, and whether it is accepted (R278). -/
def GateEntry.complete (e : GateEntry) (c : Class) : Bool := decide (e.need c ≤ (e.arrivals c).count)
def Slot.accepted (x : Slot) (e : GateEntry) (c : Class) : Bool :=
  e.complete c && decide ((e.arrivals c).stamp ≤ x.deadline e c)

/-- The class of a marker (R277). -/
def GateEntry.classify (e : GateEntry) (own : Nat) (m : Marker) : Option Class :=
  let c := if m.source = own ∧ !m.bk then some Class.own
    else if e.bken ∧ m.bk ∧ m.source = e.bknode then some .backup
    else if e.pos ≠ 0 ∧ !m.bk ∧ m.source = e.upnode then some .upstream
    else none
  match c with
  | none => none
  | some c => if m.stage ≠ e.stage ∨ e.complete c then none else some c

/-- The decision instant of an entry (R280). -/
def Slot.instant (x : Slot) (e : GateEntry) : Nat := (e.expected.map (x.deadline e)).foldl max 0 + 2000

/-- Whether an entry can be released early (R282). -/
def Slot.early (x : Slot) (e : GateEntry) : Bool :=
  x.accepted e .own && (e.pos == 0 || x.accepted e .upstream) && (!e.bken || !e.bkwait || x.accepted e .backup)

/-! ### Arrival statistics (R299) -/

/-- Where the statistics entry of a node lies. -/
def State.statAddr (s : State) (node : Nat) : Nat := s.field Reg.gateStatBase 0 48 + 32 * node

/-- Adds one to a saturating field of the statistics table. -/
def State.statCount (s : State) (node off lo width : Nat) : State :=
  let a := s.statAddr node + off
  let w := s.hbmWord a
  w.2.memWrite64 a (setBits w.1 lo width (min (bits w.1 lo width + 1) (2 ^ width - 1)))

/-- Writes LSTEP. -/
def State.statStep (s : State) (node step : Nat) : State :=
  let a := s.statAddr node + 0x18
  let w := s.hbmWord a
  w.2.memWrite64 a (setBits w.1 0 48 step)

/-- Writes LASTM, and MINM where it is smaller. -/
def State.statMargin (s : State) (node deadline stamp : Nat) : State :=
  let a := s.statAddr node
  let w := s.hbmWord a
  let m := satSigned ((deadline : Int) - (stamp : Int)) 32
  let v := setBits w.1 0 32 (unsigned m 32)
  w.2.memWrite64 a (if m < signed (bits w.1 32 32) 32 then setBits v 32 32 (unsigned m 32) else v)

/-- The margin of a contributor that is complete. -/
def State.statDone (s : State) (x : Slot) (e : GateEntry) (c : Class) (step : Nat) : State :=
  if e.complete c then
    (s.statMargin (e.node s.own.node c) (x.deadline e c) (e.arrivals c).stamp).statStep (e.node s.own.node c) step
  else s

/-- The statistics of a decision on one class. -/
def State.statDecide (s : State) (x : Slot) (e : GateEntry) (c : Class) (st step : Nat) : State :=
  if st = 0 then s
  else
    let n := e.node s.own.node c
    let s := s.statDone x e c step
    let s := if st = 2 then s.statCount n 0x08 0 32
      else if st = 1 then s.statCount n 0x08 48 16
      else s.statCount n 0x08 32 16
    let s := if st = 4 then s.statCount n 0x10 32 16 else s
    s.statStep n step

/-- Zeroes every entry of the table and sets MINM (R299). -/
def State.statClear (s : State) : State :=
  (List.range 32768).foldl (fun s n =>
    s.memWrite (s.statAddr n) (toBytes 32 (0x7FFFFFFF * 2 ^ 32))) s

/-- A write of GATE_CTL: its RW fields, and STATCLR (R301). -/
def State.gateCtlWrite (s : State) (v : Nat) : State :=
  let s := s.setField Reg.gateCtl 16 32 (bits v 16 32)
  if bit v 0 then s.statClear else s

/-- STATCLR: a write of GATE_CTL with STATCLR = 1 (R299, R301). -/
def execStatclr (pf : Nat) (value : BitVec 64) (s : State) : Host.Outcome State Fault Refusal :=
  hostWrite pf Reg.gateCtl (fun s => s.gateCtlWrite value.toNat) s

/-! ### Decision and release (R283-R286) -/

/-- Writes an entry of a slot. -/
def State.setEntry (s : State) (k idx : Nat) (e : GateEntry) : State :=
  let x := s.slot k
  s.setSlot k { x with entries := x.entries.set idx e }

/-- The state of a class at release (R283): 0 NOTEXP, 1 MISSING, 2 ACCEPTED, 3 LATE, 4 TAINTED. -/
def Slot.classState (x : Slot) (e : GateEntry) (c : Class) (held added : Bool) : Nat :=
  if !e.expects c then 0
  else if x.accepted e c then 2
  else if added then 4
  else if (e.arrivals c).count ≠ 0 ∨ held then 3
  else 1

/-- The counters of MISSING, LATE and TAINTED, and the event of a class that is not accepted. -/
def State.classEvent (s : State) (k : Nat) (x : Slot) (e : GateEntry) (c : Class) (st : Nat) : State :=
  let n := e.node s.own.node c
  if st = 1 then (s.count Reg.gateMissing).gateEvent k 0x010 e.handle n []
  else if st = 3 then
    (s.count Reg.gateLate).gateEvent k 0x011 e.handle n [(64, (e.arrivals c).stamp), (64, x.deadline e c)]
  else if st = 4 then (s.count Reg.gateTaint).gateEvent k 0x012 e.handle n []
  else s

/-- The contributor mask (R284). -/
structure Mask where
  own : Nat
  bk : Nat
  up : Nat
  sel : Nat
  cmp : Bool
  mismatch : Bool
  complete : Bool
  early : Bool
  nfin : Bool
  ovfl : Bool
deriving DecidableEq, Repr

/-- MASK as a word. -/
def Mask.word (m : Mask) : Nat :=
  m.own + m.bk * 2 ^ 3 + m.up * 2 ^ 6 + m.sel * 2 ^ 9 + b2n (m.sel == 2) * 2 ^ 11 + b2n m.cmp * 2 ^ 12 +
  b2n m.mismatch * 2 ^ 13 + b2n m.complete * 2 ^ 14 + b2n m.early * 2 ^ 15 + b2n m.nfin * 2 ^ 16 + b2n m.ovfl * 2 ^ 17

/-- The selection of R283: 1 own, 2 backup, 0 none. -/
def selection (own bk : Nat) : Nat := if own = 2 then 1 else if (own = 3 ∨ own = 1) ∧ bk = 2 then 2 else 0

/-- COMPLETE (R285). -/
def maskComplete (own up sel policy : Nat) (mismatch : Bool) : Bool :=
  ((sel == 1 && own == 2) || (sel == 2 && policy == 0)) && (up == 2 || up == 0) && !mismatch

/-- What the coordinator records of a released entry: MASK and TREL, counters, events and statistics (R284-R286, R299). -/
def State.recordRelease (s : State) (k idx : Nat) (x : Slot) (e : GateEntry) (m : Mask) (r : RelOut) : State :=
  let node := s.own.node
  let off := 0x100 + 64 * idx
  let s := (s.recordWrite k (off + 0x30) m.word).recordWrite k (off + 0x38) s.nowA
  let step := s.slotStep k
  let s := s.classEvent k x e .own m.own
  let s := s.classEvent k x e .backup m.bk
  let s := s.classEvent k x e .upstream m.up
  let s := s.statDecide x e .own m.own step
  let s := s.statDecide x e .backup m.bk step
  let s := s.statDecide x e .upstream m.up step
  let y := s.slot k
  let tainted := b2n (m.own == 4) + b2n (m.bk == 4) + b2n (m.up == 4)
  let y1 : Slot := { y with nsubst := y.nsubst + b2n (m.sel == 2), nmism := y.nmism + b2n m.mismatch }
  let s := s.setSlot k { y1 with ntaint := y.ntaint + tainted }
  let s := if m.sel = 2 then
      ((s.count Reg.gateSubst).statCount node 0x10 0 16).gateEvent k 0x013 e.handle node
        [(8, b2n (s.slotPolicy k == 0))]
    else s
  let s := if m.mismatch then
      let s := ((s.count Reg.gateMismatch).statCount node 0x10 16 16).statCount e.bknode 0x10 16 16
      s.gateEvent k 0x014 e.handle node [(16, e.bknode), (32, r.first.getD 0), (32, r.diff)]
    else s
  let sn := if m.sel = 2 then e.bknode else node
  let s := if m.nfin then s.gateEvent k 0x015 e.handle sn [] else s
  if m.ovfl then s.gateEvent k 0x016 e.handle sn [] else s

/-- The NMEs of an entry. -/
def GateEntry.nmes (e : GateEntry) : List Nat := (List.range e.ncnt).map (· + e.nbase)

/-- The armed records of an entry's handle: an NME that was reset, or whose ring disarmed it, holds none. -/
def State.entryArms (s : State) (e : GateEntry) : List Armed := e.nmes.filterMap (fun i => (s.nme i).find e.handle)

/-- Ends the zeroing of an entry's handle on the NMEs that hold it. -/
def State.zeroEntry (s : State) (e : GateEntry) : State :=
  match s.entryArms e with | a :: _ => s.zeroHandle a.desc | [] => s

/-- Releases an entry's handle on the NMEs that hold it (R184). -/
def State.releaseEntry (s : State) (e : GateEntry) (sel : Nat) (cmp : Bool) : RelOut × State :=
  match s.entryArms e with | a :: _ => s.releaseHandle a.desc sel cmp | [] => (RelOut.zero, s)

/-- Decides and releases an entry (R280-R286): classes, selection, release on the NMEs, record. -/
def State.decideEntry (s : State) (k idx : Nat) (early : Bool) : State :=
  let x := s.slot k
  match x.entries[idx]? with
  | none => s
  | some e =>
    if e.decided then s
    else
      let s := s.zeroEntry e
      let arms := s.entryArms e
      let own := x.classState e .own (arms.any (·.ownHeld)) (arms.any (·.ownAdded))
      let bk := x.classState e .backup (arms.any (·.bkHeld)) false
      let up := x.classState e .upstream false (arms.any (·.upAdded))
      let sel := selection own bk
      let cmp := own == 2 && bk == 2
      let r := s.releaseEntry e sel cmp
      let out := r.1
      let s := r.2
      if terminal (s.slotState k) then s
      else
        let mismatch := cmp && decide (out.diff ≠ 0)
        let whole := maskComplete own up sel (s.slotPolicy k) mismatch
        let m : Mask :=
          { own := own, bk := bk, up := up, sel := sel, cmp := cmp, mismatch := mismatch, complete := whole,
            early := early, nfin := sel != 0 && out.nf, ovfl := sel != 0 && out.ov }
        let left := e.nmes.filter (fun i => match (s.nme i).find e.handle with
          | some a => a.phase != .done
          | none => true)
        let e1 : GateEntry := { e with decided := true, mask := m.word, trel := s.nowA, relLeft := left }
        let e2 : GateEntry := { e1 with optLeft := if e.opten then left else [], pinf := out.pinf, ninf := out.ninf }
        let s := s.setEntry k idx { e2 with nan := out.nan, ovf := out.ovf }
        s.recordRelease k idx x e m out

/-! ### Markers (R277, R280) -/

/-- The live slot and entry that hold a handle. -/
def State.entryOf (s : State) (handle : Nat) : Option (Nat × Nat × GateEntry) :=
  s.liveSlots.findSome? (fun k =>
    match (s.slot k).entries.zipIdx.find? (fun e => e.1.handle == handle) with
    | some e => some (k, e.2, e.1)
    | none => none)

/-- The live slot and entry a marker counts for: that of the job, epoch and step its handle was armed with when it passed the
window (R277, R292). -/
def State.markerEntry (s : State) (m : Marker) : Option (Nat × Nat × GateEntry) :=
  match s.entryOf m.handle with
  | some (k, idx, e) =>
    if s.slotJob k = m.job ∧ s.slotEpoch k = m.epoch ∧ s.slotStep k = m.step then some (k, idx, e) else none
  | none => none

/-- One marker reaches the coordinator: counted for its class or discarded; a complete set may release its handle early. -/
def State.marker (s : State) (m : Marker) : State :=
  match s.markerEntry m with
  | none => s.count Reg.gateDiscMark
  | some (k, idx, e) =>
    match e.classify s.own.node m with
    | none => s.count Reg.gateDiscMark
    | some c =>
      let e := e.mark c m.stamp
      let s := ((s.count Reg.gateMarkRx).globalEvent 0x004).setEntry k idx e
      let x := s.slot k
      if e.decided then s.statDone x e c (s.slotStep k)
      else if x.early e then s.decideEntry k idx true
      else s

/-- The oldest marker on its way reaches the coordinator. -/
def State.nextMarker (s : State) : State :=
  match s.gate.markers with
  | [] => s
  | m :: t => { s with gate := { s.gate with markers := t } }.marker m

/-- Markers that have been 1,500 ns on their way reach the coordinator (R280). -/
def State.dueMarkers (s : State) : Nat → State
  | 0 => s
  | fuel + 1 =>
    match s.gate.markers with
    | m :: _ => if m.stamp + 1500 ≤ s.nowA then s.nextMarker.dueMarkers fuel else s
    | [] => s

/-- Whether the slot of a handle, or a slot, is held by a stop (R428). -/
def State.slotRuns (s : State) (k : Nat) : Bool := decide (k < 32) && !s.stops (s.slotJob k)

/-- MARKER_RECEIVE: the oldest marker on its way reaches the coordinator (R277, R282). -/
def execMarkerReceive (s : State) : Host.Outcome State Fault Refusal :=
  actLive (fun s => !s.gate.markers.isEmpty) (fun s => s.nextMarker.settle 64) s

/-- DECISION_INSTANT: the decision instant of an entry has come and it is decided (R280). -/
def execDecisionInstant (slot index : Nat) (s : State) : Host.Outcome State Fault Refusal :=
  actLive (fun s => s.slotRuns slot && (s.slotState slot == 2 || s.slotState slot == 3) &&
      (match (s.slot slot).entries[index]? with
       | some e => !e.decided && decide ((s.slot slot).instant e ≤ s.nowA)
       | none => false))
    (fun s => (((s.dueMarkers s.gate.markers.length).decideEntry slot index false)).settle 64) s

/-! ### Completion of releases (R184, R188) -/

/-- An NME has finished its part of an entry. -/
def State.entryDone (s : State) (nme handle : Nat) : State :=
  match s.entryOf handle with
  | none => s
  | some (k, idx, e) =>
    s.setEntry k idx { e with relLeft := e.relLeft.filter (· != nme), optLeft := e.optLeft.filter (· != nme) }

/-- Whether an NME's forward has every packet acknowledged. -/
def State.forwarded (s : State) (nme handle : Nat) : Bool :=
  s.fab.recs.all (fun r => r.owner != E2eOwner.forward nme handle)

/-- RELEASE_COMPLETE: an NME finishes a release: a forward whose packets are all acknowledged sends its marker, an optimizer run
reports (R184). -/
def execReleaseComplete (nme handle : Nat) (s : State) : Host.Outcome State Fault Refusal :=
  actLive (fun s => match (s.nme nme).find handle with
      | some a => (a.phase == .forwarding && s.forwarded nme handle) || a.phase == .optimizing
      | none => false)
    (fun s => match (s.nme nme).find handle with
      | none => s
      | some a =>
        let s := if a.phase = .forwarding then s.newRecord (a.desc.marker nme) else s
        (((s.setPhase nme handle .done).entryDone nme handle).settle 64)) s

/-- OPTIMIZER_COMPLETE: every NME of an OPTEN handle has written its staged values, and STAGED is set (R188). -/
def execOptimizerComplete (slot index : Nat) (s : State) : Host.Outcome State Fault Refusal :=
  actLive (fun s => s.slotRuns slot && (s.slotState slot == 2 || s.slotState slot == 3 || s.slotState slot == 6) &&
      (match (s.slot slot).entries[index]? with
       | some e => e.opten && e.decided && e.optLeft.isEmpty && !s.staged e.optd
       | none => false))
    (fun s => match (s.slot slot).entries[index]? with
      | some e => s.setStaged e.optd false true
      | none => s) s

/-! ### The commit test (R287, R288) -/

/-- OPTEN entries of a slot. -/
def Slot.opten (x : Slot) : List GateEntry := x.entries.filter (·.opten)

/-- COMPLETE of an entry's mask. -/
def GateEntry.ok (e : GateEntry) : Bool := bit e.mask 14

/-- REASON of a slot at TC: bit 0 mask, 1 non-finite, 2 overflow, 3 not staged, 4 earlier step held. -/
def State.reason (s : State) (k : Nat) : Nat :=
  let x := s.slot k
  let o := x.opten
  let heldEarlier := (List.range 32).any (fun j => j != k && s.slotState j == 6 && s.slotJob j == s.slotJob k &&
    decide (s.slotStep j < s.slotStep k))
  b2n (x.entries.any (fun e => !e.ok)) + b2n (o.any (fun e => e.pinf != 0 || e.ninf != 0 || e.nan != 0)) * 2 +
  b2n (o.any (fun e => e.ovf != 0)) * 4 + b2n (o.any (fun e => !s.staged e.optd)) * 8 + b2n heldEarlier * 16

/-- Index of the first entry whose mask is incomplete. -/
def Slot.firstBad (x : Slot) : Nat :=
  match x.entries.zipIdx.find? (fun e => !e.1.ok) with
  | some e => e.2
  | none => 0

/-- A total over the OPTEN entries, saturating at 32 bits. -/
def Slot.total (x : Slot) (f : GateEntry → Nat) : Nat := sat32 ((x.opten.map f).foldl (· + ·) 0)

/-- A count saturating at 16 bits. -/
def sat16 (n : Nat) : Nat := min n 65535

/-- A hold notice (R288). -/
def holdNotice (job epoch step reason first seq : Nat) : Packet :=
  Packet.make [(32, 12, job), (44, 8, epoch), (52, 16, step), (68, 3, 6), (71, 4, tyCtrl), (216, 8, 2), (96, 32, seq),
    (288, 48, step), (336, 5, reason), (341, 13, first)] []

/-- Sends a hold notice stamped TC and delivers it to the module itself. -/
def State.holdSend (s : State) (k reason first : Nat) : State :=
  let q := s.floodSeq
  let x := q.2.slot k
  let s := q.2.gateEvent k 0x020 0 q.2.own.node [(8, reason)]
  let s := s.originateAt (holdNotice (s.slotJob k) (s.slotEpoch k) (s.slotStep k) reason first q.1) x.tc
  s.setSlot k { s.slot k with hold := true }

/-- The test at TC: undecided entries are decided, the conditions are tested and written to the record. -/
def State.commitTest (s : State) (k : Nat) : State :=
  let s := s.dueMarkers s.gate.markers.length
  let s := (List.range (s.slot k).entries.length).foldl (fun s i => s.decideEntry k i false) s
  if terminal (s.slotState k) then s
  else
    let s := s.setSlotState k 3
    let x := s.slot k
    let reason := s.reason k
    let first := x.firstBad
    let s := s.setField (Reg.gateSlot k) 26 5 reason
    let w := s.hbmWord (x.addr + 0x80)
    let s := w.2.recordWrite k 0x80 (setBits (setBits w.1 16 5 reason) 32 13 first)
    let s := s.recordWrite k 0x90 (x.total (·.pinf) + x.total (·.ninf) * 2 ^ 32)
    let s := s.recordWrite k 0x98 (x.total (·.nan) + x.total (·.ovf) * 2 ^ 32)
    let ninc := (x.entries.filter (fun e => !e.ok)).length
    let s := s.recordWrite k 0xA0 (sat16 x.nsubst + sat16 x.nmism * 2 ^ 16 + sat16 ninc * 2 ^ 32 + sat16 x.ntaint * 2 ^ 48)
    if reason = 0 then s else s.holdSend k reason first

/-- COMMIT_TEST: at TC an OPEN slot is tested (R281, R287, R288). -/
def execCommitTest (slot : Nat) (s : State) : Host.Outcome State Fault Refusal :=
  actLive (fun s => s.slotRuns slot && s.slotState slot == 2 && decide ((s.slot slot).tc ≤ s.nowA))
    (fun s => (s.commitTest slot).settle 64) s

/-! ### Floods arriving (R226, R231) -/

/-- A 32-bit stamp extended against a reference (R249). -/
def extendStamp (ts ref : Nat) : Int := (ref : Int) + signed (ts + 2 ^ 32 - ref % 2 ^ 32) 32

/-- The slot of a job, epoch and step: a live one first. -/
def State.slotOf (s : State) (job epoch step : Nat) : Option Nat :=
  let is (k : Nat) : Bool := s.slotState k != 0 && s.slotJob k == job && s.slotEpoch k == epoch && s.slotStep k == step
  match s.liveSlots.find? is with
  | some k => some k
  | none => (List.range 32).find? is

/-- A hold notice is delivered (R288): it counts for the slot it names if it is stamped at or before TC and the slot has not passed
its commit point. -/
def State.holdDeliver (s : State) (r : RxPacket) : State :=
  let p := r.packet
  match s.slotOf p.job p.epoch (p.ext 0 48) with
  | none => s.count Reg.gateDiscHold
  | some k =>
    if ((s.slot k).tc : Int) < extendStamp p.ts32 (r.stampA / 16) then s.count Reg.gateDiscHold
    else
      let st := s.slotState k
      let s := if (st = 1 ∨ st = 2 ∨ st = 3) ∧ r.stampA / 16 ≤ (s.slot k).tc + commitDelay then s.setSlot k { s.slot k with hold := true } else s.count Reg.gateDiscHold
      s.gateEvent k 0x021 0 p.src []

/-- HOLD: a hold notice arrives (R226, R288). -/
def execHold (port vc : Nat) (s : State) : Host.Outcome State Fault Refusal :=
  actLive (fun s => s.floodIs port vc (fun p => p.type == tyCtrl && p.sub == 2))
    (fun s => s.arriveNotice port vc (fun r s => s.holdDeliver r)) s

/-- ABORT_RECEIVE: an ABORT arrives and, accepted, acts on slots and programs (R347, R348). -/
def execAbortReceive (port vc : Nat) (s : State) : Host.Outcome State Fault Refusal :=
  actLive (fun s => s.floodIs port vc (fun p => p.type == tyAbort))
    (fun s => (s.arriveNotice port vc (fun r s =>
      s.abortDeliver r.packet.job r.packet.epoch (r.packet.ext 0 48) (r.packet.ext 48 64) (r.packet.ext 112 8) (r.stampA / 16)
        (noIndex, r.packet.ext 120 3, noIndex))).settle 64) s

/-! ### The commit point (R289, R290) -/

/-- Ends a slot in a terminal state: its handles are disarmed. -/
def State.endSlot (s : State) (k st : Nat) : State :=
  let s := s.setSlotState k st
  (s.slot k).entries.foldl (fun s e => s.disarm e.handle) s

/-- Writes TDEC. -/
def State.setTdec (s : State) (k : Nat) : State :=
  (s.setSlot k { s.slot k with tdec := s.nowA }).recordWrite k 0x88 s.nowA

/-- Commits a step: CUR flips on every OPTEN handle; without one the slot is DONE at once; a checkpoint may be due. -/
def State.commit (s : State) (k : Nat) : State :=
  let s := (s.slot k).opten.foldl (fun s e => s.setStaged e.optd true false) s
  let job := s.slotJob k
  let step := s.slotStep k
  let s := { s with gate := { s.gate with lastStep := Tab.put s.gate.lastStep 0 job (step + 1) } }
  let s := (s.setSlotState k 4).setTdec k
  let s := (s.count Reg.gateCommit).gateEvent k 0x022 0 s.own.node []
  let s := s.ckpCommitted job step
  if (s.slot k).opten.isEmpty then s.endSlot k 5 else s

/-- Skips a step: STAGED is cleared without a flip, and the semaphore takes what the broadcasts would have added. -/
def State.skip (s : State) (k : Nat) : State :=
  let s := s.unstage k
  let x := s.slot k
  let s := if x.bsemen then (s.addSem 0 (4096 + x.bsem) x.breg).2 else s
  let s := (s.setTdec k).endSlot k 7
  (s.count Reg.gateSkip).gateEvent k 0x023 0 s.own.node []

/-- Whether a fabric tile is out of service: in reset, or silenced by a fault whose reset is due (R234, R354). -/
def State.tileOut (s : State) (f : Nat) : Bool :=
  !s.tileUp f || s.recLive.any (fun q => s.recDomain q == domFabric && s.recUnit q == f && !s.planned q)

/-- Whether both fabric tiles are out of service. -/
def State.isolated (s : State) : Bool := s.tileOut 0 && s.tileOut 1

/-- COMMIT_POINT: once TC + 40 us is over, so that a notice arriving exactly then has been taken, a slot in TEST commits, is held or
is skipped (R35, R289). -/
def execCommitPoint (slot : Nat) (s : State) : Host.Outcome State Fault Refusal :=
  actLive (fun s => s.slotRuns slot && s.slotState slot == 3 && decide ((s.slot slot).tc + commitDelay < s.nowA))
    (fun s =>
      let s := if s.isolated then (s.count Reg.rstIsolated).raise 0x300F (8, 0) [(16, noIndex), (8, 7), (16, noIndex), (8, 0)] (s.slotCtx slot) else s
      if !(s.slot slot).hold then (s.commit slot).settle 64
      else if s.slotPolicy slot = 2 then (s.skip slot).settle 64
      else ((s.setSlotState slot 6).setTdec slot).count Reg.gateHold) s

/-- GATE_RESOLVE is ignored or refused: event 0x025 with its reason. -/
def State.resolveRefused (s : State) (slot action reason : Nat) : State :=
  s.gateEvent slot 0x025 0 s.own.node [(16, slot), (8, action), (8, reason)]

/-- ACTION 1, COMMIT. -/
def State.resolveCommit (s : State) (slot : Nat) : State :=
  if (s.slot slot).opten.any (fun e => !s.staged e.optd) then s.resolveRefused slot 1 2 else s.commit slot

/-- ACTION 3, ABORT: the ABORT of the slot's step, or at once where it has been sent already. -/
def State.resolveAbort (s : State) (slot : Nat) : State :=
  let r := s.sendAbort (s.slotJob slot) (s.slotEpoch slot) (s.slotStep slot) 0x38 (noIndex, 7, noIndex)
  if r.1 then r.2.abandon slot 0x38 else r.2

/-- A write of GATE_RESOLVE (R290, R302). -/
def State.gateResolveWrite (s : State) (v : Nat) : State :=
  let slot := v % 32
  let action := bits v 5 2
  if !bit v 7 then s
  else if s.stops 0 || s.stops (s.slotJob slot) then s
  else if s.slotState slot ≠ 6 then s.resolveRefused slot action 1
  else if action = 0 then s
  else (if action = 1 then s.resolveCommit slot else if action = 2 then s.skip slot else s.resolveAbort slot).settle 64

/-- The value that names a slot and an action with GO. -/
def resolveValue (slot action : Nat) : Nat := slot % 32 + action * 32 + 128

/-- RESOLVE_COMMIT: GATE_RESOLVE with ACTION 1 (R290). -/
def execResolveCommit (pf slot : Nat) (s : State) : Host.Outcome State Fault Refusal :=
  hostWrite pf Reg.gateResolve (fun s => s.gateResolveWrite (resolveValue slot 1)) s

/-- RESOLVE_SKIP: GATE_RESOLVE with ACTION 2 (R290). -/
def execResolveSkip (pf slot : Nat) (s : State) : Host.Outcome State Fault Refusal :=
  hostWrite pf Reg.gateResolve (fun s => s.gateResolveWrite (resolveValue slot 2)) s

/-- RESOLVE_ABORT: GATE_RESOLVE with ACTION 3 (R290). -/
def execResolveAbort (pf slot : Nat) (s : State) : Host.Outcome State Fault Refusal :=
  hostWrite pf Reg.gateResolve (fun s => s.gateResolveWrite (resolveValue slot 3)) s

end Sys2Proof.Machine
end

