-- ==== Sys2Proof/Machine/Bcast.lean ====
section
/-! DEFINITION. Parameter and program broadcasts (R37, R38, R293-R298): the conversion at the commit point, packets received,
acknowledgements, timeouts and the rounds of the root. -/

namespace Sys2Proof.Machine
open Sys2Proof

/-! ### Ends and rounds of the root (R297, R298) -/

/-- A broadcast event: the node it names. -/
def State.bcastEvent (s : State) (sub : Nat) (b : Bcast) (node : Nat) : State :=
  let step := match b.slot with | some k => s.slotStep k | none => b.stepl
  s.raise (0x4000 + sub) (8, 0) [(16, 0), (16, node)] (some (b.job, b.epoch, step))

/-- Every core starts what its fabric queue can start. -/
def State.fabStartAll (s : State) : State := (List.range 192).foldl (fun s c =>
  if (s.core c).fab.isEmpty then s else s.fabStart c 16) s

/-- The end of an instruction's broadcast: completed, or failed with a code. -/
def State.bcastInstrEnd (s : State) (b : Bcast) (code addr : Nat) : State :=
  match b.owner with
  | none => s
  | some (c, op) =>
    (match (s.core c).runOf op with
     | some r => if code = 0 then s.opDone c r else s.opFail c r code addr
     | none => s).fabStartAll

/-- A root's broadcast has ended: a Gate slot is DONE, an instruction completes, or raises FABDELIV where a node was not reached. -/
def State.bcastEnd (s : State) (i : Nat) (b : Bcast) (whole : Bool) : State :=
  let s := { s with gate := { s.gate with bcasts := s.gate.bcasts.eraseIdx i } }
  let s := if whole then s else (s.bcastEvent 0x031 b b.root).count Reg.gateBcIncomplete
  match b.slot with
  | some k => if s.slotState k = 4 then s.endSlot k 5 else s
  | none => s.bcastInstrEnd b (if whole ∧ b.orphans.isEmpty then 0 else excFabDeliv) 0

/-- Whether every child has sent DONE or been declared failed. -/
def Bcast.settled (b : Bcast) : Bool := b.children.all (fun c => c.done || c.failed)

/-- The root holds DONE or a failure for every child: it re-sends to the children of the failed nodes, or ends (R297). -/
def State.rootRound (s : State) (i : Nat) : Nat → State
  | 0 => s
  | fuel + 1 =>
    match s.gate.bcasts[i]? with
    | none => s
    | some b =>
      if !b.settled then s
      else
        let new := b.orphans.filter (fun f => !b.handled.contains f)
        let s := new.foldl (fun (s : State) f => (s.count Reg.gateBcOrphan).bcastEvent 0x030 b f) s
        if b.ovf then s.bcastEnd i b false
        else if new.isEmpty then s.bcastEnd i b true
        else if 4 ≤ b.round then s.bcastEnd i b false
        else
          let s := s.count Reg.gateBcResend
          let to' := new.flatMap (fun f => s.own.children f b.root)
          let kids := b.children.filter (fun c => !to'.contains c.node) ++ to'.map (fun n => Child.fresh n s.time.count)
          let b := { b with round := b.round + 1, handled := b.handled ++ new, children := kids }
          let r := (s.setBcast i b).bcastSend b to'
          match r.1 with
          | some a =>
            ({ r.2 with gate := { r.2.gate with bcasts := r.2.gate.bcasts.eraseIdx i } }).bcastInstrEnd b excHbmUe a
          | none => r.2.rootRound i fuel

/-! ### Acknowledgements (R296) -/

/-- The BACK of a broadcast to a node: RECEIVED, or DONE with the failed nodes learned of. -/
def Bcast.back (b : Bcast) (done : Bool) (dst : Nat) : Packet :=
  let os := if done then b.orphans.take 3 else []
  let ovf := done && (b.ovf || decide (3 < b.orphans.length))
  Packet.make ([(0, 15, dst), (32, 12, b.job), (44, 8, b.epoch), (52, 16, b.stepl), (71, 4, tyCtrl), (86, 2, 1),
    (216, 8, 4), (224, 16, b.tag), (288, 15, b.root), (303, 1, b2n done), (304, 2, os.length), (351, 1, b2n ovf),
    (352, 1, b2n b.gateb)] ++ os.zipIdx.map (fun oi => (306 + 15 * oi.2, 15, oi.1))) []

/-- Sends what each source of copies is due: RECEIVED once the region has arrived, DONE once reached; each kind once. -/
def State.backs (s : State) (i : Nat) : State :=
  match s.gate.bcasts[i]? with
  | none => s
  | some b =>
    if !b.arrived ∨ b.isRoot then s
    else
      let s := b.parents.foldl (fun (s : State) p =>
        let s := if p.received then s else s.inject (b.back false p.node)
        if p.done ∨ !b.ended then s else s.inject (b.back true p.node)) s
      s.setBcast i { b with parents := b.parents.map (fun p => { p with received := true, done := p.done || b.ended }) }

/-- What follows a change of a broadcast: the root's next round, or DONE of a node whose children are settled. -/
def State.bcastGo (s : State) (i : Nat) : State :=
  match s.gate.bcasts[i]? with
  | none => s
  | some b =>
    if b.isRoot then s.rootRound i 8
    else
      let b := if b.arrived && b.settled then { b with ended := true } else b
      (s.setBcast i b).backs i

/-- A child is declared failed: it joins the failed nodes. -/
def Bcast.fail (b : Bcast) (node : Nat) : Bcast :=
  { b with
    children := b.children.map (fun c => if c.node = node then { c with failed := true } else c)
    orphans := if b.orphans.contains node then b.orphans else b.orphans ++ [node] }

/-- What a BACK from a child tells. -/
def Bcast.heard (b : Bcast) (node now : Nat) (done : Bool) (os : List Nat) (ovf : Bool) : Bcast :=
  { b with
    children := b.children.map (fun c =>
      if c.node = node then { c with received := true, done := done, since := now } else c)
    orphans := b.orphans ++ os.filter (fun o => !b.orphans.contains o)
    ovf := b.ovf || ovf }

/-- The oldest broadcast that waits for a BACK of a packet's source: same job, root, GATEB and TAG, the source a child that has
neither sent DONE nor failed. -/
def State.backFor (s : State) (p : Packet) : Option Nat :=
  (s.gate.bcasts.zipIdx.find? (fun bi =>
    let b := bi.1
    b.job == p.job && b.root == p.ext 0 15 && b2n b.gateb == p.ext 64 1 && b.tag == p.tag &&
    b.children.any (fun c => c.node == p.src && !c.done && !c.failed))).map Prod.snd

/-- A BACK arrives. -/
def State.backIn (s : State) (p : Packet) : State :=
  match s.backFor p with
  | none => s
  | some i =>
    match s.gate.bcasts[i]? with
    | none => s
    | some b =>
      let done := p.ext 15 1 == 1
      let os := if done then ([0, 1, 2].take (p.ext 16 2)).map (fun k => p.ext (18 + 15 * k) 15) else []
      let already := b.children.any (fun c => c.node == p.src && c.received)
      if already && !done then s
      else (s.setBcast i (b.heard p.src s.time.count done os (done && p.ext 63 1 == 1))).bcastGo i

/-- BACK: an acknowledgement of a broadcast arrives (R296, R297). -/
def execBack (port vc : Nat) (s : State) : Host.Outcome State Fault Refusal :=
  actLive (fun s => s.headIs port vc (fun p => p.type == tyCtrl && p.sub == 4))
    (fun s => (s.arrive port vc false (fun r s => s.backIn r.packet)).settle 64) s

/-! ### Timeouts (R296, R301) -/

/-- BTO and BTOD in TIME_COUNT units; 0 is taken as 1. -/
def State.bto (s : State) : Nat := 1000 * max 1 (s.field Reg.gateCtl 16 16)
def State.btod (s : State) : Nat := 100000 * max 1 (s.field Reg.gateCtl 32 16)

/-- Whether a child of a broadcast has been silent too long. -/
def State.childLate (s : State) (i node : Nat) (received : Bool) (limit : Nat) : Bool :=
  match s.gate.bcasts[i]? with
  | none => false
  | some b => b.arrived && b.children.any (fun c =>
      c.node == node && c.received == received && !c.done && !c.failed && decide (c.since + limit ≤ s.time.count))

/-- Declares a child failed. -/
def State.childFail (s : State) (i node : Nat) : State :=
  match s.gate.bcasts[i]? with
  | none => s
  | some b => ((s.setBcast i (b.fail node)).bcastGo i).settle 64

/-- BROADCAST_RECEIVED_TIMEOUT: a child has not sent RECEIVED within BTO of its last packet (R296). -/
def execBroadcastReceivedTimeout (tree child : Nat) (s : State) : Host.Outcome State Fault Refusal :=
  actLive (fun s => s.childLate tree child false s.bto) (fun s => s.childFail tree child) s

/-- BROADCAST_DONE_TIMEOUT: a child has not sent DONE within BTOD of its RECEIVED (R296). -/
def execBroadcastDoneTimeout (tree child : Nat) (s : State) : Host.Outcome State Fault Refusal :=
  actLive (fun s => s.childLate tree child true s.btod) (fun s => s.childFail tree child) s

/-! ### Receiving (R295, R298) -/

/-- A broadcast this module receives, at its first packet. -/
def State.memberBcast (s : State) (p : Packet) (slot : Option Nat) : Bcast :=
  let root := p.ext 12 15
  { job := p.job, epoch := p.epoch, stepl := p.stepl, gateb := slot.isSome, tree := p.ext 0 12, root := root,
    tag := p.tag, npkt := p.ext 28 32, slot := slot, got := 0, arrived := false, parents := [],
    children := (s.own.children s.own.node root).map (fun n => Child.fresh n s.time.count), orphans := [], ovf := false,
    isRoot := false, ranges := [], round := 0, handled := [], ended := false, owner := none }

/-- Notes the source of a copy. -/
def State.noteSource (s : State) (i node : Nat) : State :=
  match s.gate.bcasts[i]? with
  | none => s
  | some b =>
    let b := if b.parents.any (fun p => p.node == node) then b
      else { b with parents := b.parents ++ [{ node := node, received := false, done := false }] }
    (s.setBcast i b).backs i

/-- The region of a broadcast has arrived: its semaphore counts it. -/
def State.regionArrived (s : State) (b : Bcast) : State :=
  match b.slot with
  | some k => if (s.slot k).bsemen then s.signalDev (s.slot k).bsem else s
  | none =>
    let e := s.treeEntry b.tree
    if e.1.semen then e.2.signalDev e.1.sem else e.2

/-- A packet of a broadcast whose map begins at an address: a duplicate is counted; a new one sets its bit, is written and goes on
to the children, and the last one completes the region. -/
def State.bcastTake (s : State) (i map : Nat) (p : Packet) : State :=
  let a := map + p.seq / 8
  let m := s.memRead a 1
  let v := ofBytes m.1
  let s := m.2.2
  if bit v (p.seq % 8) then (s.noteSource i p.src).count Reg.fabDiscBdup
  else if !s.backed p.addr (64 * p.len) then s.count Reg.fabDiscAddr
  else
    let s := s.memWrite a [BitVec.ofNat 8 (setBits v (p.seq % 8) 1 1)]
    let s := s.memWrite p.addr p.bytes
    match s.gate.bcasts[i]? with
    | none => s
    | some b =>
      let s := b.children.foldl (fun (s : State) c => s.inject (Packet.make (b.fields c.node p.seq p.addr) p.payload)) s
      let whole := b.got + 1 == b.npkt && !b.arrived
      let kids := b.children.map (fun c => { c with since := s.time.count })
      let b := { b with got := b.got + 1, arrived := b.arrived || whole, children := kids }
      let s := s.setBcast i b
      let s := if whole then s.regionArrived b else s
      (s.noteSource i p.src).bcastGo i

/-- The slot a Gate broadcast belongs to: its job, epoch and TAG; a live one first. -/
def State.bcastSlot (s : State) (p : Packet) : Option Nat :=
  let is (k : Nat) : Bool :=
    s.slotState k != 0 && s.slotJob k == p.job && s.slotEpoch k == p.epoch && s.slotStep k % 65536 == p.tag
  match s.liveSlots.find? is with
  | some k => some k
  | none => (List.range 32).find? is

/-- Clears n bytes of a map. -/
def State.clearMap (s : State) (a n : Nat) : State :=
  (pieces a n).foldl (fun s p => s.memWrite p.1 (List.replicate p.2 0)) s

/-- A packet of a Gate broadcast (R295). -/
def State.gateBcastIn (s : State) (p : Packet) : State :=
  match s.bcastSlot p with
  | none => s.count Reg.gateDiscBmap
  | some k =>
    let x := s.slot k
    let root := p.ext 12 15
    let map := x.bmap + root * x.bmstr
    if 8 * x.bmstr ≤ p.seq then s.count Reg.gateDiscBmap
    else match s.gate.bcasts.findIdx? (fun b => b.slot == some k && b.root == root) with
      | some i => s.bcastTake i map p
      | none =>
        let i := s.gate.bcasts.length
        (((s.clearMap map x.bmstr).addBcast (s.memberBcast p (some k))).bcastTake i map p)

/-- A packet of an instruction's broadcast (R298); the record of the broadcast before it stays, for late copies. -/
def State.treeBcastIn (s : State) (p : Packet) : State :=
  let h := p.ext 0 12
  let root := p.ext 12 15
  let q := s.treeEntry h
  let e := q.1
  let s := q.2
  if !e.valid ∨ e.job ≠ p.job ∨ 8 * (e.stride - 8) ≤ p.seq then s.count Reg.gateDiscBct
  else
    let map := e.map + root * e.stride
    let w := s.hbmWord map
    let s := w.2
    let d := (p.tag + 65536 - bits w.1 0 16) % 65536
    let mine (b : Bcast) : Bool := !b.gateb && !b.isRoot && b.tree == h && b.root == root
    if !bit w.1 16 ∨ (1 ≤ d ∧ d < 32768) then
      let s := (s.clearMap map e.stride).memWrite64 map (p.tag + 65536)
      let s := { s with gate := { s.gate with bcasts := s.gate.bcasts.filter (fun b => !mine b || (bit w.1 16 && b.tag == bits w.1 0 16)) } }
      let i := s.gate.bcasts.length
      (s.addBcast (s.memberBcast p none)).bcastTake i (map + 8) p
    else
      let at' := s.gate.bcasts.findIdx? (fun b => mine b && b.tag == p.tag)
      if d = 0 then
        match at' with
        | some i => s.bcastTake i (map + 8) p
        | none =>
          let i := s.gate.bcasts.length
          (s.addBcast (s.memberBcast p none)).bcastTake i (map + 8) p
      else (match at' with | some i => s.noteSource i p.src | none => s).count Reg.fabDiscBdup

/-- BCAST_RECEIVE: a packet of a broadcast arrives: deduplicated, written and forwarded down the tree (R295, R298). -/
def execBcastReceive (port vc : Nat) (s : State) : Host.Outcome State Fault Refusal :=
  actLive (fun s => s.headIs port vc (fun p => p.type == tyBcast))
    (fun s => (s.arrive port vc false (fun r s =>
      if r.packet.ext 27 1 = 1 then s.gateBcastIn r.packet else s.treeBcastIn r.packet)).settle 64) s

/-! ### The conversion at the commit point (R294, R295) -/

/-- The latched descriptor of an entry's handle; read again where no NME holds it any more. -/
def State.entryHandle (s : State) (k : Nat) (e : GateEntry) : Handle × State :=
  match (List.range 32).findSome? (fun i => (s.nme i).find e.handle) with
  | some a => (a.desc, s)
  | none =>
    let r := s.readDesc (s.handleAddr e.handle)
    (Handle.ofBytes e.handle (s.slotStep k) (s.slotJob k) (s.slotEpoch k) r.2.1, r.2.2)

/-- Converts an entry on every NME of its handle: the ranges written, in NME order. -/
def State.convertEntry (s : State) (k : Nat) (e : GateEntry) : List (Nat × Nat) × State :=
  match Conv.ofWords e.conv e.idxbase with
  | none => ([], s)
  | some c =>
    let q := s.entryHandle k e
    let h := q.1
    let o := q.2.optDesc e.optd
    h.nmes.foldl (fun (a : List (Nat × Nat) × State) i =>
      let r := a.2.cvtw c h o.2.1 e.woff i
      let s := match r.1 with
        | some x => r.2.nmeFault i excHbmUe e.handle x
        | none => r.2
      (a.1 ++ [(c.place h.params e.woff i, c.bytes h.params)], s)) ([], o.2.2)

/-- The packets of converted ranges. -/
def convRanges (l : List (Nat × Nat)) : List (Nat × Source × Nat) :=
  l.flatMap (fun r => (cutAll [r] 0).map (fun t =>
    (t.1, { pre := [], core := none, segs := [(t.1, t.2.2)] }, (t.2.2 + 63) / 64)))

/-- CONVERSION_COMPLETE: the conversions of a committed slot are complete; its own region counts as arrived and its broadcast
goes out (R294, R295). -/
def execConversionComplete (slot : Nat) (s : State) : Host.Outcome State Fault Refusal :=
  actLive (fun s => decide (slot < 32) && s.slotState slot == 4 && !(s.slot slot).converted)
    (fun s =>
      let s := s.setSlot slot { s.slot slot with converted := true }
      let q := (s.slot slot).opten.foldl (fun (a : List (Nat × Nat) × State) e =>
        let r := a.2.convertEntry slot e
        (a.1 ++ r.1, r.2)) ([], s)
      let s := q.2
      let x := s.slot slot
      let s := if x.bsemen then s.signalDev x.bsem else s
      let tag := s.slotStep slot % 65536
      let b := s.rootBcast (s.slotJob slot) (s.slotEpoch slot) tag tag 0 (some slot) none (convRanges q.1)
      let i := s.gate.bcasts.length
      let s := s.addBcast b
      (((s.bcastSend b (b.children.map (·.node))).2).bcastGo i).settle 64) s

end Sys2Proof.Machine
end

