-- ==== Sys2Proof/Machine/Ckpt.lean ====
section
/-! DEFINITION. Checkpoints, verification and restore (R362-R380): the triggers, the sweep and its signing, what a host verifies,
and the commands of CKP_CMD. -/

namespace Sys2Proof.Machine
open Sys2Proof

/-! ### Triggers (R365, R366) -/

/-- Whether no stop holds the controller: of the module, or of the job it serves (R428). -/
def State.ckpLive (s : State) : Bool := !s.stops 0 && !s.stops s.ckpJob

/-- CKP_REQUESTED_TIME: domain A reaches CKP_REQ.T; T is cleared and the checkpoint triggered (R262, R365). -/
def execCkpRequestedTime (s : State) : Host.Outcome State Fault Refusal :=
  act (fun s => s.ckpLive && decide (s.reg Reg.ckpReq ≠ 0) && decide (s.reg Reg.ckpReq ≤ s.nowA))
    (fun s => (s.setReg Reg.ckpReq 0).ckpTrigger 2) s

/-- The hottest HBM die. -/
def State.hottest (s : State) : Nat := ((List.range 32).map (fun i => s.field (Reg.nmeStat i) 8 8)).foldl max 0

/-- The counts the monitors of rates judge (R366): NME_ECC_CE of each stack, FAB_LNK_FEC_UNCORR of each port, GRM_TRANSIENT. -/
def State.monitorRates (s : State) : List Nat :=
  (List.range 32).map (fun i => s.reg (Reg.nmeEccCe i)) ++ (List.range 12).map (fun p => s.reg (Reg.fabLnkFecUncorr p)) ++
  [s.reg Reg.grmTransient]

/-- The counts of monitors 1, 3, 4 and 6, which trip at any count (R366). -/
def State.monitorAny (s : State) : List Nat :=
  let nmes (f : Nat → Nat) : Nat := ((List.range 32).map f).foldl (· + ·) 0
  let ports (f : Nat → Nat) : Nat := ((List.range 12).map f).foldl (· + ·) 0
  [nmes (fun i => s.reg (Reg.nmeEccUe i) + s.reg (Reg.nmeEccPoisonRd i) + b2n (s.flag (Reg.nmeStat i) 2)),
   s.reg Reg.fabDiscEcrc + ports (fun p => s.reg (Reg.fabDropHcrc p) + s.reg (Reg.fabLnkFcrc p)),
   ports (fun p => s.reg (Reg.fabLnkSwap p) + s.reg (Reg.fabLnkDown p)),
   s.reg Reg.grmPermanent + s.reg Reg.grmTileCorr]

/-- A number of a list, 0 beyond its end. -/
def nth (l : List Nat) (k : Nat) : Nat := (l[k]?).getD 0

/-- Whether the monitors of rates are due: a new second of TIME_COUNT. -/
def State.ratesDue (s : State) : Bool := match s.ckp.ewHist.head? with | some h => h.1 != s.second | none => true

/-- What a monitored count rose by over the preceding 60 s. -/
def State.monitorRise (s : State) (k : Nat) : Nat :=
  nth s.monitorRates k - (match s.ckp.ewHist.getLast? with | some h => nth h.2 k | none => 0)

/-- Whether monitor b trips: a new count since the last evaluation, or at a new second a count over 60 s, of one stack or port, or
a temperature, that reaches its threshold. -/
def State.monitorTrips (s : State) (b : Nat) : Bool :=
  let limit (lo w : Nat) : Nat := max 1 (s.field Reg.ckpEw lo w)
  let grew (k : Nat) : Bool := decide (nth s.ckp.ewAny k < nth s.monitorAny k)
  if b = 0 then s.ratesDue && (List.range 32).any (fun i => decide (limit 1 7 ≤ s.monitorRise i))
  else if b = 1 then grew 0
  else if b = 2 then s.ratesDue && (List.range 12).any (fun p => decide (limit 8 4 ≤ s.monitorRise (32 + p)))
  else if b = 3 then grew 1
  else if b = 4 then grew 2
  else if b = 5 then s.ratesDue && decide (limit 12 4 ≤ s.monitorRise 44)
  else if b = 6 then grew 3
  else s.ratesDue && decide (s.field Reg.ckpEw 16 7 ≤ s.hottest)

/-- Keeps what an evaluation saw: the counts, and at a new second those of the rates, for 60 s. -/
def State.monitorSeen (s : State) : State :=
  let hist := if s.ratesDue then ((s.second, s.monitorRates) :: s.ckp.ewHist).filter (fun h => decide (s.second ≤ h.1 + 60))
    else s.ckp.ewHist
  { s with ckp := { s.ckp with ewAny := s.monitorAny, ewHist := hist } }

/-- Whether the last early checkpoint lies EWMIN seconds back. -/
def State.earlyAllowed (s : State) : Bool :=
  match s.ckp.lastEarly with
  | none => true
  | some t => decide (t + 1000000000 * max 1 (s.field Reg.ckpEw 23 9) ≤ s.time.count)

/-- EW_MONITOR_EVAL: Isrek evaluates the monitors; a trip is recorded, and triggers an early checkpoint unless one started within
EWMIN seconds (R366). -/
def execEwMonitorEval (_ : Unit) (s : State) : Host.Outcome State Fault Refusal :=
  act1 (fun s =>
    let tripped := (List.range 8).filter s.monitorTrips
    let s := tripped.foldl (fun (s : State) b =>
      (s.setFlag Reg.ckpStat (5 + b)).ckpEvent 0x009 s.ckpJob 0 0 [(8, b)]) s.monitorSeen
    if !tripped.isEmpty && s.flag Reg.ckpEw 0 && s.earlyAllowed && s.ckpLive then s.ckpTrigger 1 else s) s

/-! ### The sweep (R363, R364, R367) -/

/-- The handle a checkpoint latched, as the conversions take it. -/
def CkHandle.toHandle (h : CkHandle) (r : CkRun) : Handle :=
  { Handle.ofBytes h.handle r.step r.job r.epoch [] with nbase := h.nbase, ncnt := h.ncnt, lanes := h.lanes, opten := true }

/-- CKCVT of every handle of an NME into its data sections: the first failing address. -/
def State.sweepConvert (s : State) (r : CkRun) (j : Nat) : List (CkHandle × Nat) → Option Nat × State
  | [] => (none, s)
  | (h, g) :: t =>
    let q := s.ckcvt (h.toHandle r) h.alg r.mfmt j (h.bank j h.bankB) (s.area r.gen j + (1 + g) * granule)
    match q.1 with
    | some a => (some a, q.2)
    | none => q.2.sweepConvert r j t

/-- The sweep and hashing of one NME. -/
def State.sweepNme (s : State) (r : CkRun) (j : Nat) : Option Nat × State :=
  let a := s.area r.gen j
  let n := ngr r.handles r.mfmt j
  let s := s.memWrite a (List.replicate granule 0)
  let q := s.sweepConvert r j (placed (fun h => h.size r.mfmt) j 0 r.handles)
  match q.1 with
  | some e => (some e, q.2)
  | none =>
    let s := q.2
    let m := s.nme j
    let s := s.setNme j { m with cbw := m.cbw.filter (fun c => !r.handles.any (fun h => h.handle == c.handle)) }
    let dst := a + (1 + n) * granule
    let q := s.hash j (a + granule) dst (List.range n)
    match q.1 with
    | some e => (some e, q.2)
    | none => (none, q.2.padGranule dst (48 * n))

/-- The sweep of every NME in turn, until one fails. -/
def State.sweepAll (s : State) (r : CkRun) : List Nat → Option Nat × State
  | [] => (none, s)
  | j :: t =>
    let q := s.sweepNme r j
    match q.1 with
    | some e => (some e, q.2)
    | none => q.2.sweepAll r t

/-- The digest list of an NME of a generation, and whether it could be read. -/
def State.digestList (s : State) (g j n : Nat) : List Byte × Option MemErr × State :=
  s.memRead (s.area g j + (1 + n) * granule) (48 * n)

/-- ROOT of every NME, or the first unreadable digest list. -/
def State.roots (s : State) (r : CkRun) : List Nat → List (List Byte) × Option MemErr × State
  | [] => ([], none, s)
  | j :: t =>
    let d := s.digestList r.gen j (ngr r.handles r.mfmt j)
    match d.2.1 with
    | some e => ([], some e, d.2.2)
    | none =>
      let q := d.2.2.roots r t
      (sha384 d.1 :: q.1, q.2.1, q.2.2)

/-- Writes the manifest of a sweep, its signatures zero (R364). -/
def State.writeManifest (s : State) (r : CkRun) (roots : List (List Byte)) : State :=
  let a := s.area r.gen 0
  let put (s : State) (off v : Nat) : State := s.memWrite64 (a + off) v
  let s := s.memWrite a (List.replicate 16384 0)
  let s := put s 0 (1 + r.job * 2 ^ 16 + r.epoch * 2 ^ 28 + s.own.node * 2 ^ 36 + r.trig * 2 ^ 51 + b2n r.mfmt * 2 ^ 53)
  let s := put (put (put (put s 8 r.step) 0x10 r.tcommit) 0x18 s.nowA) 0x20 (keyId devIdKeys)
  let s := put s 0x28 r.handles.length
  let s := r.handles.zipIdx.foldl (fun (s : State) hk =>
    let h := hk.1
    let s := put s (0x40 + 32 * hk.2) (h.handle + h.alg * 2 ^ 16 + h.nbase * 2 ^ 18 + h.ncnt * 2 ^ 23 + h.lanes * 2 ^ 32)
    put s (0x48 + 32 * hk.2) h.chunks) s
  roots.zipIdx.foldl (fun (s : State) rj =>
    (put s (0x2040 + 64 * rj.2) (ngr r.handles r.mfmt rj.2)).memWrite (a + 0x2050 + 64 * rj.2) rj.1) s

/-- CKP_SWEEP_COMPLETE: every NME finishes its conversions and hashes; the manifest is written and signing begins (R367). An
uncorrectable read makes the generation INVALID (R369). -/
def execCkpSweepComplete (s : State) : Host.Outcome State Fault Refusal :=
  act (fun s => s.ckpLive && match s.ckp.run with
      | some r => !r.signing && (List.range 32).all (fun j =>
          (s.nme j).running || !(j == 0 || r.handles.any (fun h => h.uses j)))
      | none => false)
    (fun s => match s.ckp.run with
      | none => s
      | some r =>
        let q := s.sweepAll r (List.range 32)
        match q.1 with
        | some _ => q.2.ckpBreak 0x0B
        | none =>
          let d := q.2.roots r (List.range 32)
          match d.2.1 with
          | some _ => d.2.2.ckpBreak 0x0B
          | none =>
            let s := d.2.2.writeManifest r d.1
            { s with ckp := { s.ckp with run := some { r with signing := true } } }.ckpRefresh) s

/-- Bytes of the manifest that are signed. -/
def signedBytes : Nat := 0x2840

/-- CKP_SIGN_COMPLETE: the manifest is signed with DevID, the generation is SIGNED and its mirror opens (R367, R371). -/
def execCkpSignComplete (s : State) : Host.Outcome State Fault Refusal :=
  act (fun s => s.ckpLive && s.ckp.run.any (·.signing))
    (fun s => match s.ckp.run with
      | none => s
      | some r =>
        let a := s.area r.gen 0
        let m := s.memRead a signedBytes
        match m.2.1 with
        | some _ => m.2.2.ckpBreak 0x0B
        | none =>
          let s := m.2.2.memWrite (a + 0x2840) (sigEd infoDevId [] m.1)
          let s := s.memWrite (a + 0x2880) (sigMd infoDevId [] m.1)
          let s := (s.setGenState r.gen 2).count Reg.ckpTaken
          let s := s.ckpEvent 0x002 r.job r.step r.gen []
          ((s.mirrorStart r.gen).ckpOver).settle 64) s

/-! ### Verification (R373) -/

/-- A manifest as verification reads it. -/
structure Manifest where
  job : Nat
  trig : Nat
  mfmt : Bool
  step : Nat
  tcommit : Nat
  keyid : Nat
  handles : List CkHandle
  ngrs : List Nat
  roots : List (List Byte)
  ranges : Bool
  msg : List Byte
  siged : List Byte
  sigmd : List Byte
deriving DecidableEq, Repr

/-- Handle h of a manifest. -/
def manifestHandle (l : List Byte) (h : Nat) : CkHandle :=
  let w := wordAt l (0x40 + 32 * h)
  { handle := bits w 0 16, alg := bits w 16 2, nbase := bits w 18 5, ncnt := bits w 23 6, lanes := bits w 32 32,
    chunks := dField l (0x48 + 32 * h) 0 32, banka := 0, bankb := 0, optd := 0, bankB := false }

/-- Whether the numbers of a manifest handle are within their ranges: every NME exists and CHUNKS holds LANES. -/
def CkHandle.inRange (h : CkHandle) : Bool :=
  decide (1 ≤ h.ncnt ∧ h.ncnt ≤ 32 ∧ h.nbase + h.ncnt ≤ 32 ∧ 1 ≤ h.chunks) &&
  h.chunks == ((h.lanes + 16383) / 16384 + h.ncnt - 1) / h.ncnt

/-- The manifest that 16 KiB spell. -/
def Manifest.ofBytes (l : List Byte) : Manifest :=
  let w := wordAt l 0
  let nh := dField l 0x28 0 9
  let hs := (List.range (min nh 256)).map (manifestHandle l)
  { job := bits w 16 12, trig := bits w 51 2, mfmt := bit w 53, step := dField l 8 0 48, tcommit := wordAt l 0x10,
    keyid := wordAt l 0x20, handles := hs, ngrs := (List.range 32).map (fun j => dField l (0x2040 + 64 * j) 0 32),
    roots := (List.range 32).map (fun j => (l.drop (0x2050 + 64 * j)).take 48),
    ranges := bits w 0 16 == 1 && decide (1 ≤ nh ∧ nh ≤ 256) && hs.all CkHandle.inRange,
    msg := l.take signedBytes, siged := (l.drop 0x2840).take 64, sigmd := (l.drop 0x2880).take 3309 }

/-- NGR of an NME. -/
def Manifest.ngr (m : Manifest) (j : Nat) : Nat := (m.ngrs[j]?).getD 0

/-- The keys a KEYID names: the module's own, or installed ones. -/
def State.keysOf (s : State) (id : Nat) : Option (List Byte) :=
  (devIdKeys :: s.sec.keys).find? (fun k => keyId k == id)

/-- What verification finds: the code, and the position of the first digest that differs. -/
structure Verdict where
  code : Nat
  nme : Nat
  gran : Nat
deriving DecidableEq, Repr

/-- Compares the granules of an NME with its digest list: the first that differs; unreadable ones are noted. -/
def State.checkGranules (s : State) (g j : Nat) (list : List Byte) (bad : Bool) : List Nat → Option Nat × Bool × State
  | [] => (none, bad, s)
  | k :: t =>
    let r := s.memRead (s.area g j + (1 + k) * granule) granule
    match r.2.1 with
    | some _ => r.2.2.checkGranules g j list true t
    | none =>
      if sha384 r.1 = (list.drop (48 * k)).take 48 then r.2.2.checkGranules g j list bad t
      else (some (1 + k), bad, r.2.2)

/-- Checks 0x07 of every NME: whether all ROOTs agree, the lists, and whether one was unreadable. -/
def State.checkRoots (s : State) (g : Nat) (m : Manifest) : List Nat → Bool × List (List Byte) × Bool × State
  | [] => (true, [], false, s)
  | j :: t =>
    let d := s.digestList g j (m.ngr j)
    let ok := d.2.1.isSome || sha384 d.1 == (m.roots[j]?).getD []
    let q := d.2.2.checkRoots g m t
    (ok && q.1, d.1 :: q.2.1, d.2.1.isSome || q.2.2.1, q.2.2.2)

/-- Check 0x08 of every NME whose list could be read. -/
def State.checkData (s : State) (g : Nat) (m : Manifest) (bad : Bool) : List (Nat × List Byte) → Option (Nat × Nat) × Bool × State
  | [] => (none, bad, s)
  | (j, l) :: t =>
    let n := if l.length = 48 * m.ngr j then m.ngr j else 0
    let r := s.checkGranules g j l bad (List.range n)
    match r.1 with
    | some k => (some (j, k), r.2.1, r.2.2)
    | none => r.2.2.checkData g m r.2.1 t

/-- Reads the manifest of a generation. -/
def State.readManifest (s : State) (g : Nat) : List Byte × Option MemErr × State := s.memRead (s.area g 0) 16384

/-- Checks 0x04 to 0x0B on the image of a generation. -/
def State.verifyImage (s : State) (g : Nat) (step : Option Nat) : Verdict × Manifest × State :=
  let r := s.readManifest g
  let m := Manifest.ofBytes r.1
  let s := r.2.2
  let fail (c : Nat) (t : State) : Verdict × Manifest × State := ({ code := c, nme := 0, gran := 0 }, m, t)
  if r.2.1.isSome then fail 0x0B s
  else if step.any (fun n => n != m.step) then fail 0x03 s
  else if m.job ≠ s.ckpJob then fail 0x04 s
  else if !m.ranges then fail 0x05 s
  else match s.keysOf m.keyid with
    | none => fail 0x0A s
    | some k =>
      if !(edOk k m.msg m.siged && mdOk k m.msg m.sigmd) then fail 0x06 s
      else
        let q := s.checkRoots g m (List.range 32)
        if !q.1 then fail 0x07 q.2.2.2
        else
          let d := q.2.2.2.checkData g m q.2.2.1 (q.2.1.zipIdx.map (fun lj => (lj.2, lj.1)))
          match d.1 with
          | some (j, k) => ({ code := 0x08, nme := j, gran := k }, m, d.2.2)
          | none => fail (if d.2.1 then 0x0B else 0) d.2.2

/-- Verification of a generation in the order of R373; `step` is what a RESTORE names. -/
def State.verifyGen (s : State) (g : Nat) (step : Option Nat) : Verdict × Manifest × State :=
  let st := s.genState g
  let m := Manifest.ofBytes []
  if !(st == 2 || st == 4 || st == 6) then ({ code := 0x01, nme := 0, gran := 0 }, m, s)
  else if s.aside g then ({ code := 0x02, nme := 0, gran := 0 }, m, s)
  else s.verifyImage g step

/-- CKP_CMDRES of a verdict. -/
def State.setCmdRes (s : State) (v : Verdict) : State :=
  if v.code = 0x08 then s.setReg Reg.ckpCmdRes (v.nme + v.gran * 2 ^ 5) else s

/-- A verified hosted generation takes its fields from the manifest. -/
def State.hostGood (s : State) (gen : Nat) (m : Manifest) : State :=
  let s := s.setReg (Reg.ckpGenA gen) (6 + m.trig * 2 ^ 4 + m.step * 2 ^ 16)
  let s := s.setReg (Reg.ckpGenB gen) m.tcommit
  (s.count Reg.ckpHostOk).ckpEvent 0x006 m.job m.step gen [(8, 0)]

/-- A hosted generation that fails is INVALID. -/
def State.hostBad (s : State) (gen code : Nat) (m : Manifest) : State :=
  ((s.genInvalid gen m.job m.step code).count Reg.ckpHostBad).ckpEvent 0x006 m.job m.step gen [(8, code)]

/-- The verification of a sealed generation by its host. -/
def State.hostVerify (s : State) (gen : Nat) : State :=
  let s := { s with ckp := { s.ckp with sealed' := s.ckp.sealed'.filter (· != gen) } }
  match s.verifyImage gen none with
  | (v, m, s) => if v.code = 0 then s.hostGood gen m else s.hostBad gen v.code m

/-- HOST_VERIFY_COMPLETE: a host has verified a sealed generation with its own NMEs: VERIFIED, or INVALID with the code (R372). -/
def execHostVerifyComplete (gen : Nat) (s : State) : Host.Outcome State Fault Refusal :=
  act (fun s => s.ckpLive && s.ckp.sealed'.contains gen && s.genState gen == 5) (fun s => s.hostVerify gen) s

/-! ### Restore (R374) -/

/-- Whether a handle of this module is as the manifest says: VALID, OPTEN, not ARMED, of the same geometry, with BANKA a multiple
of 64 KiB. The answer has the code and the handle with its banks. -/
def State.restoreHandle (s : State) (h : CkHandle) : Nat × CkHandle × State :=
  let r := s.readDesc (s.handleAddr h.handle)
  let d := Handle.ofBytes h.handle 0 0 0 r.2.1
  let s := r.2.2
  if r.1 ≠ 0 then (if r.1 = 0x06 then 0x0B else 0x0D, h, s)
  else
    let q := s.readDesc d.optd
    let o := OptDesc.ofBytes q.2.1
    let s := q.2.2
    let armed := (List.range 32).any (fun i => s.armedOn i h.handle)
    if dField r.2.1 0 0 1 = 0 ∨ !d.opten ∨ armed ∨ d.nbase ≠ h.nbase ∨ d.ncnt ≠ h.ncnt ∨ d.lanes ≠ h.lanes then (0x0D, h, s)
    else if q.1 ≠ 0 then (if q.1 = 0x06 then 0x0B else 0x0D, h, s)
    else if o.alg ≠ h.alg ∨ o.banka % granule ≠ 0 then (0x0D, h, s)
    else (0, { h with banka := o.banka, bankb := o.bankb, optd := d.optd }, s)

/-- Checks every handle of a manifest: the first code, and the handles with their banks. -/
def State.restoreHandles (s : State) : List CkHandle → Nat × List CkHandle × State
  | [] => (0, [], s)
  | h :: t =>
    let r := s.restoreHandle h
    if r.1 ≠ 0 then (r.1, [], r.2.2)
    else
      let q := r.2.2.restoreHandles t
      (q.1, r.2.1 :: q.2.1, q.2.2)

/-- Copies n granules; a read that fails ends it. -/
def State.restoreTheta (s : State) (src dst : Nat) : List Nat → Bool × State
  | [] => (true, s)
  | k :: t =>
    let r := s.memRead (src + k * granule) granule
    match r.2.1 with
    | some _ => (false, r.2.2)
    | none => (r.2.2.memWrite (dst + k * granule) r.1).restoreTheta src dst t

/-- The binary32 value of a moment element under its block's scale. -/
def momentValue (mfmt : Bool) (elem scale : Nat) : Nat :=
  let f : Fmt := if mfmt then .e5m2 else .bf16
  if scale = 0xFF then 0x7FC00000
  else (Fmt.fp32.convert .rne false ((f.decode elem).scale ((scale : Int) - 127))).1

/-- Expands the blocks of a moment section of P parameters. -/
def State.restoreMoments (s : State) (mfmt : Bool) (p src dst : Nat) : List Nat → Bool × State
  | [] => (true, s)
  | b :: t =>
    let e := if mfmt then 1 else 2
    let r := s.memRead (src + 256 * e * b) (256 * e)
    let q := r.2.2.memRead (src + e * p + b) 1
    if r.2.1.isSome ∨ q.2.1.isSome then (false, q.2.2)
    else
      let x := ofBytes q.1
      let vals := (List.range 256).flatMap (fun i => toBytes 4 (momentValue mfmt (ofBytes ((r.1.drop (e * i)).take e)) x))
      (q.2.2.memWrite (dst + 1024 * b) vals).restoreMoments mfmt p src dst t

/-- Expands a handle on one NME into bank A. -/
def State.expandOn (s : State) (g : Nat) (mfmt : Bool) (j : Nat) (hg : CkHandle × Nat) : Bool × State :=
  let h := hg.1
  let p := 16384 * h.chunks
  let src := s.area g j + (1 + hg.2) * granule
  let dst := h.bank j false
  let blocks := List.range (p / 256)
  let mg := momentGranules mfmt h.chunks
  let a := s.restoreTheta src dst (List.range h.chunks)
  if !a.1 then a
  else
    let b := a.2.restoreMoments mfmt p (src + h.chunks * granule) (dst + 4 * p) blocks
    if !b.1 ∨ h.alg ≠ 0 then b
    else b.2.restoreMoments mfmt p (src + (h.chunks + mg) * granule) (dst + 8 * p) blocks

/-- Expands every handle on every NME until one fails. -/
def State.expandAll (s : State) (g : Nat) (mfmt : Bool) : List (Nat × CkHandle × Nat) → Bool × State
  | [] => (true, s)
  | (j, hg) :: t =>
    let r := s.expandOn g mfmt j hg
    if r.1 then r.2.expandAll g mfmt t else r

/-- Bank A of every handle holds bytes the spec leaves undefined. -/
def State.bankUndefined (s : State) (work : List (Nat × CkHandle × Nat)) : State :=
  work.foldl (fun (s : State) w =>
    let f := s.fresh
    let n := w.2.1.bankGranules * granule
    f.2.memWrite (w.2.1.bank w.1 false) (toBytes n f.1)) s

/-- The job a generation's manifest names, where it holds an image. -/
def State.genJob (s : State) (g : Nat) : Option Nat :=
  let st := s.genState g
  if st = 2 ∨ st = 3 ∨ st = 4 ∨ st = 6 then some (bits (s.hbmWord (s.area g 0)).1 16 12) else none

/-- Sets aside every generation of the job whose step exceeds one. -/
def State.setAside (s : State) (step : Nat) : State :=
  [0, 1, 2, 3].foldl (fun (s : State) g =>
    if s.genJob g = some s.ckpJob ∧ step < s.genStep g then s.setFlag (Reg.ckpGenA g) 3 else s) s

/-- The restore proper, from a generation of this module: its code. -/
def State.restoreFrom (g step : Nat) (v : Verdict × Manifest × State) : Nat × State :=
  let m := v.2.1
  let s := v.2.2.setCmdRes v.1
  if v.1.code ≠ 0 then (v.1.code, s)
  else
    let r := s.restoreHandles m.handles
    if r.1 ≠ 0 then (r.1, r.2.2)
    else
      let hs := r.2.1
      let work := (List.range 32).flatMap (fun j => (placed (fun h => h.size m.mfmt) j 0 hs).map (fun hg => (j, hg)))
      let q := r.2.2.expandAll g m.mfmt work
      if !q.1 then (0x0B, q.2.bankUndefined work)
      else
        let s := hs.foldl (fun (s : State) h =>
          let w := s.hbmWord h.optd
          w.2.memWrite64 h.optd (setBits w.1 2 2 0)) q.2
        (0, s.setAside step)

/-! ### CKP_CMD (R373-R375, R378) -/

/-- ERR of CKP_CMD. -/
def State.cmdErr (s : State) (code : Nat) : State := s.setField Reg.ckpCmd 23 8 code

/-- Begins a command that takes time: BUSY, ERR cleared. -/
def State.cmdBegin (s : State) (c : CkCmd) : State :=
  let s := { s with ckp := { s.ckp with cmd := some c } }
  ((s.setField Reg.ckpCmd 22 1 1).cmdErr 0).setReg Reg.ckpCmdRes 0

/-- Whether a GO is ignored: a command runs, or a checkpoint is in progress, but for VERIFY of a hosted generation. -/
def State.cmdIgnored (s : State) (v : Nat) : Bool :=
  !bit v 21 || s.flag Reg.ckpCmd 22 || (s.ckp.run.isSome && !(bits v 0 4 == 2 && decide (2 ≤ bits v 4 2)))

/-- A command with nothing yet done. -/
def CkCmd.ofWord (v step : Nat) : CkCmd :=
  { op := bits v 0 4, gen := bits v 4 2, srcnode := bits v 6 15, step := step, fetching := false, manifest := false,
    left := [], into := 0, failed := false, broken := false }

/-- TAKE (OP 1): triggers a checkpoint of the latest committed step; 0x0F where the conditions of R367 are not met. -/
def State.cmdTake (s : State) : State :=
  if !s.flag Reg.ckpCtl 0 then s.cmdErr 0
  else
    let r := s.ckpBegin 3
    r.2.cmdErr r.1

/-- RESTORE (OP 3): from a local generation at its completion; from another node it first fetches into an own generation. -/
def State.cmdRestore (s : State) (v : Nat) : State :=
  let c := CkCmd.ofWord v (s.field Reg.ckpCmdStep 0 48)
  if c.srcnode = s.own.node ∨ c.gen < 2 then s.cmdBegin c
  else
    let g := s.ckpChoose
    let c := { c with fetching := true, into := g }
    let s := (s.takeGen g 0 c.step 0).cmdBegin c
    (s.restoreBytes c 0 0 16384).settle 64

/-- NOCOMMON (OP 4): ERR 0x09 and event 0x00A. -/
def State.cmdNocommon (s : State) : State := (s.cmdErr 0x09).ckpEvent 0x00A s.ckpJob (s.field Reg.ckpCmdStep 0 48) 0 [(8, 9)]

/-- A stream of a generation stops. -/
def State.stopStreamOf (s : State) (g : Nat) : State :=
  match s.ckp.mirror with
  | some m => if m.gen = g then s.mirrorStop else s
  | none => s

/-- RELEASE (OP 5): clears ASIDE and makes the generation INVALID. -/
def State.cmdRelease (s : State) (g : Nat) : State :=
  let s := s.stopStreamOf g
  let s := { s with ckp := { s.ckp with sealed' := s.ckp.sealed'.filter (· != g) } }
  let s := (s.setField (Reg.ckpGenA g) 3 1 0).setGenState g 7
  (s.cmdErr 0).ckpEvent 0x004 s.ckpJob (s.genStep g) g [(8, s.field (Reg.ckpGenA g) 8 8)]

/-- MIRROR (OP 6): the stream of an own image starts from OPEN. -/
def State.cmdMirror (s : State) (g : Nat) : State :=
  let st := s.genState g
  if 2 ≤ g ∨ !(st == 2 || st == 4) then s.cmdErr 0x01
  else if s.aside g then s.cmdErr 0x02
  else ((s.cmdErr 0).mirrorStart g).settle 64

/-- A write of CKP_CMD (R378). -/
def State.ckpCmdWrite (s : State) (v : Nat) : State :=
  let op := bits v 0 4
  let g := bits v 4 2
  if s.cmdIgnored v then s
  else if op = 1 then s.cmdTake
  else if op = 2 then s.cmdBegin (CkCmd.ofWord v 0)
  else if op = 3 then s.cmdRestore v
  else if op = 4 then s.cmdNocommon
  else if op = 5 then s.cmdRelease g
  else if op = 6 then s.cmdMirror g
  else s

/-- A write of CKP_CMD that names an operation. -/
def ckpCmd (op pf : Nat) (value : BitVec 64) (s : State) : Host.Outcome State Fault Refusal :=
  hostWrite pf Reg.ckpCmd (fun s => s.ckpCmdWrite (setBits value.toNat 0 4 op)) s

/-- TAKE: CKP_CMD with OP 1 (R365). -/
def execTake (pf : Nat) (value : BitVec 64) (s : State) : Host.Outcome State Fault Refusal := ckpCmd 1 pf value s

/-- VERIFY: CKP_CMD with OP 2 (R373). -/
def execVerify (pf : Nat) (value : BitVec 64) (s : State) : Host.Outcome State Fault Refusal := ckpCmd 2 pf value s

/-- RESTORE: CKP_CMD with OP 3 (R374). -/
def execRestore (pf : Nat) (value : BitVec 64) (s : State) : Host.Outcome State Fault Refusal := ckpCmd 3 pf value s

/-- NOCOMMON: CKP_CMD with OP 4 (R375). -/
def execNocommon (pf : Nat) (value : BitVec 64) (s : State) : Host.Outcome State Fault Refusal := ckpCmd 4 pf value s

/-- RELEASE: CKP_CMD with OP 5 (R374). -/
def execRelease (pf : Nat) (value : BitVec 64) (s : State) : Host.Outcome State Fault Refusal := ckpCmd 5 pf value s

/-- MIRROR: CKP_CMD with OP 6 (R372). -/
def execMirror (pf : Nat) (value : BitVec 64) (s : State) : Host.Outcome State Fault Refusal := ckpCmd 6 pf value s

/-- The code of a command: 0x0E where a reset interrupted it. -/
def CkCmd.codeOf (c : CkCmd) (v : Verdict) : Nat := if c.broken then 0x0E else v.code

/-- The end of a VERIFY: VCODE, and INVALID for a hosted generation that fails. -/
def State.finishVerify (s : State) (c : CkCmd) : State :=
  let st := s.genState c.gen
  let v := s.verifyGen c.gen none
  let s := v.2.2.setCmdRes v.1
  let code := c.codeOf v.1
  let s := (s.setVcode c.gen code).cmdErr code
  if code = 0 then s
  else
    let step := s.genStep c.gen
    let s := (s.count Reg.ckpVerifyFail).ckpEvent 0x008 s.ckpJob step c.gen [(8, code)]
    if st = 6 ∨ (st = 5 ∧ s.ckp.sealed'.contains c.gen) then
      let s := { s with ckp := { s.ckp with sealed' := s.ckp.sealed'.filter (· != c.gen) } }
      s.genInvalid c.gen s.ckpJob step code
    else s

/-- The code of a RESTORE and its effect. -/
def State.runRestore (s : State) (c : CkCmd) : Nat × State :=
  if c.broken then (0x0E, s)
  else if c.failed then (0x0C, s)
  else if c.fetching then
    let fits := s.manifestFits c.into
    let v := if fits then s.verifyImage c.into (some c.step)
      else ({ code := 0x05, nme := 0, gran := 0 }, Manifest.ofBytes [], s)
    State.restoreFrom c.into c.step v
  else if c.srcnode ≠ s.own.node ∨ 2 ≤ c.gen then (0x01, s)
  else State.restoreFrom c.gen c.step (s.verifyGen c.gen (some c.step))

/-- What a fetched generation becomes: SIGNED with the manifest's fields where its image verified, else INVALID. -/
def State.finishFetch (s : State) (c : CkCmd) (code : Nat) : State :=
  if !c.fetching then s
  else if code = 0 ∨ code = 0x0D then
    let m := Manifest.ofBytes (s.readManifest c.into).1
    (s.setReg (Reg.ckpGenA c.into) (2 + m.trig * 2 ^ 4 + m.step * 2 ^ 16)).setReg (Reg.ckpGenB c.into) m.tcommit
  else s.genInvalid c.into s.ckpJob c.step code

/-- The end of a RESTORE. -/
def State.finishRestore (s : State) (c : CkCmd) : State :=
  let r := s.runRestore c
  let s := (r.2.finishFetch c r.1).cmdErr r.1
  if r.1 = 0 then (s.count Reg.ckpRestore).ckpEvent 0x007 s.ckpJob c.step c.gen []
  else (s.count Reg.ckpRestoreFail).ckpEvent 0x008 s.ckpJob c.step c.gen [(8, r.1)]

/-- CKP_COMMAND_COMPLETE: the VERIFY or RESTORE in progress finishes and writes ERR; a fetch must have ended (R373, R374, R378). -/
def execCkpCommandComplete (s : State) : Host.Outcome State Fault Refusal :=
  act (fun s => s.ckpLive && match s.ckp.cmd with
      | some c => !c.fetching || c.failed || c.broken || (c.manifest && c.left.isEmpty && !s.fab.restoring)
      | none => false)
    (fun s => match s.ckp.cmd with
      | none => s
      | some c =>
        let s := { s with ckp := { s.ckp with cmd := none } }
        let s := s.setField Reg.ckpCmd 22 1 0
        if c.op = 2 then s.finishVerify c else s.finishRestore c) s

end Sys2Proof.Machine
end

