-- ==== Sys2Proof/Machine/Launch.lean ====
section
/-! DEFINITION. The dispatcher (R143-R153): scans of the submission table, rejection, cancellation, launch on time and late; the
end of a program, SYLD (R140), and the clearing of HIF_CEXC0 (R157). -/

namespace Sys2Proof.Machine
open Sys2Proof

/-- STATE of a core as it reads (R306): 4 while the Groomer holds it for classification, 5 for a number no core holds. -/
def State.coreShown (s : State) (c : Nat) : Nat :=
  let st := s.coreState c
  match s.physOf c with
  | some p => if (s.grmState p = 1 ∨ s.grmState p = 2) ∧ st ≠ 2 ∧ st ≠ 5 then 4 else st
  | none => 5

/-- The address of a launch descriptor. -/
def State.subAddr (s : State) (i : Nat) : Nat := s.field Reg.hifSubBase 0 48 + 128 * i

/-- The descriptor that 128 bytes spell (R145). -/
def Found.ofBytes (index now : Nat) (l : List Byte) : Found :=
  let start := wordAt l 0x18
  { index := index, job := dField l 8 0 12, epoch := dField l 8 12 8, step := dField l 0x10 0 48,
    ftz := dField l 0 4 1 == 1, start := start, image := dField l 0x20 0 48, cores := Sys2Proof.Machine.ofBytes ((l.drop 0x30).take 24),
    arg := dField l 0x48 0 48, grec := dField l 0x50 0 48, doneSem := dField l 0x58 0 12, doneEn := dField l 0x58 12 1 == 1,
    late := decide (start < now) }

/-- Bits of a descriptor that must be zero (R145): offset, low bit, width. R150 does not list the reserved bits: these are the bits
the table says must be 0 or are reserved, and the bits it leaves out above a field the host writes; those above ERR, in a word the
device writes, are not checked (DESIGN CHOICE, log 92). -/
def launchReserved : List (Nat × Nat × Nat) :=
  [(0x00, 5, 59), (0x08, 20, 44), (0x10, 48, 16), (0x20, 48, 16), (0x28, 32, 32), (0x48, 48, 16), (0x50, 48, 16),
   (0x58, 13, 51), (0x70, 0, 64), (0x78, 0, 64)]

/-- The cores a descriptor selects, rising. -/
def Found.list (f : Found) : List Nat := bitList 192 f.cores

/-- The reasons of R150 that may arise after the finding: an unavailable core, a job not ACTIVE, another epoch. -/
def State.launchLive (s : State) (f : Found) : Nat :=
  if f.list.any (fun c => s.coreShown c == 5) then 0x03
  else match s.pisteActive f.job with
    | none => 0x04
    | some e => if s.pisteEpoch e = f.epoch then 0 else 0x05

/-- ERR of a found descriptor: the first reason of R150, 0 for none. -/
def State.launchErr (s : State) (f : Found) (l : List Byte) : Nat :=
  let len := dField l 0x28 0 32
  let live := s.launchLive f
  if launchReserved.any (fun r => dField l r.1 r.2.1 r.2.2 != 0) then 0x01
  else if f.list.isEmpty then 0x02
  else if live ≠ 0 then live
  else if f.image % 4096 ≠ 0 ∨ len % 8 ≠ 0 ∨ 2 ^ 24 < len ∨ !s.backed f.image len then 0x06
  else if s.nowA + 2 ^ 36 < f.start then 0x07
  else 0

/-- Job, epoch and step of a descriptor. -/
def Found.ctx (f : Found) : Option (Nat × Nat × Nat) := some (f.job, f.epoch, f.step)

/-- A found descriptor leaves the dispatcher; its LOADED cores return to IDLE unless another selects them. -/
def State.dropFound (s : State) (f : Found) : State :=
  let s : State := { s with disp := { s.disp with found := s.disp.found.filter (fun g => g.index != f.index) } }
  f.list.foldl (fun (s : State) c => if s.coreState c = 1 ∧ !s.wanted c then s.setCoreState c 0 else s) s

/-- Rejects a descriptor (R150): ERR, STATE 3, REJECT, event 0x9002 and its interrupt. -/
def State.launchReject (s : State) (f : Found) (err : Nat) : State :=
  let a := s.subAddr f.index
  let s := s.entryWrite 0xFF f.index a 0x68 err
  let s := s.entryState 0xFF f.index a 3
  let s := s.countField Reg.hifSubStat 48 16
  (s.raise 0x9002 (8, 0) [(16, f.index), (8, err)] f.ctx).irq 0 2

/-- An entry that cannot be read is recorded at most once per second (R147). -/
def State.subUnread (s : State) (i : Nat) : State :=
  if Tab.get s.disp.badAt 0 i = s.second then s
  else
    let t : State := { s with disp := { s.disp with badAt := Tab.put s.disp.badAt 0 i s.second } }
    t.unreadable 0xFF i (s.subAddr i)

/-- An entry is found (R147): its cores become LOADED, and screens on them are cut (R314). -/
def State.accept (s : State) (f : Found) : State :=
  let s : State := { s with disp := { s.disp with found := s.disp.found ++ [f] } }
  f.list.foldl (fun (s : State) c => if s.coreState c = 0 then (s.cutScreen c).setCoreState c 1 else s.cutScreen c) s

/-- A scan reads one entry. -/
def State.subRead (s : State) (i : Nat) : State :=
  if s.disp.found.any (fun f => f.index == i) then s
  else
    let a := s.subAddr i
    if !s.backed a 128 then s.subUnread i
    else
      let r := s.memRead a 128
      match r.2.1 with
      | some _ => r.2.2.subUnread i
      | none =>
        let s := r.2.2
        if bits (wordAt r.1 0) 0 4 ≠ 1 then s
        else
          let f := Found.ofBytes i s.nowA r.1
          let e := s.launchErr f r.1
          if e ≠ 0 then s.launchReject f e else s.accept f

/-- A cancelled entry is dropped (R146). -/
def State.subCancel (s : State) (f : Found) : State :=
  let w := s.memRead (s.subAddr f.index) 8
  if w.2.1.isNone ∧ ofBytes w.1 % 2 = 0 then w.2.2.dropFound f else w.2.2

/-- START order, then table index (R148). -/
def Found.order (f : Found) : Nat := f.start * 1024 + f.index

/-- Whether every selected core is IDLE or LOADED and no earlier descriptor waits for one of them. -/
def State.launchable (s : State) (f : Found) : Bool :=
  f.list.all (fun c => s.coreShown c ≤ 1) &&
  !(s.disp.found.any (fun g => decide (g.order < f.order) && decide (g.cores &&& f.cores ≠ 0)))

/-- A core as a launch leaves it (R149, R153). -/
def Core.launched (k : Core) (c : Nat) (f : Found) (cyc : Nat) : Core :=
  let ctx : LaunchCtx :=
    { job := f.job, epoch := f.epoch, step := f.step, grec := f.grec, ftz := f.ftz, doneEn := f.doneEn,
      doneSem := f.doneSem, image := f.image, startCyc := cyc }
  { Core.reset with
    pc := f.image, s := Tab.put (Tab.put [] 0 1 (BitVec.ofNat 64 f.arg)) 0 2 (BitVec.ofNat 64 c), store := k.store, ctx := ctx,
    mat := { Matrix.reset with acc := k.mat.acc, plane0 := k.mat.plane0, plane1 := k.mat.plane1 } }

/-- One selected core launches (R149, R152, R153). -/
def State.launchCore (s : State) (f : Found) (c : Nat) : State :=
  let s := (s.cutScreen c).dropCoreRecords c
  let s := (s.modCore c (fun k => k.launched c f ((s.region 1 c).cycles s.time.count))).ctlProgress c
  let r := s.reg (Reg.hifCstat c)
  let s := s.setReg (Reg.hifCstat c) (setBits (setBits (setBits (setBits r 0 3 2) 8 12 f.job) 20 8 f.epoch) 32 10 f.index)
  let s := s.setTraceBuf c { s.traceBuf c with sinceSync := 0, stands := false }
  s.traceRec c 1 0 0 (BitVec.ofNat 64 (f.job % 4096 + f.epoch % 256 * 2 ^ 12 + f.index % 1024 * 2 ^ 20 +
    f.step % 2 ^ 32 * 2 ^ 32))

/-- A descriptor launches (R147-R153): its cores start, LTIME and STATE are written, a late launch is counted and recorded. -/
def State.launch (s : State) (f : Found) : State :=
  let now := s.nowA
  let s := { s with disp := { s.disp with found := s.disp.found.filter (fun g => g.index != f.index) },
                    rst := { s.rst with launched := Tab.insert s.rst.launched f.job f.step } }
  let s := f.list.foldl (fun s c => s.launchCore f c) (s.globalEvent 0x002)
  let a := s.subAddr f.index
  let s := s.entryWrite 0xFF f.index a 0x60 now
  let s := s.entryWrite 0xFF f.index a 0x68 0
  let s := s.entryState 0xFF f.index a (if f.late then 2 else 1)
  if f.late then
    let s := (s.countField Reg.hifSubStat 32 16).globalEvent 0x003
    (s.raise 0x9001 (8, 0) [(16, f.index), (64, f.start), (64, now)] f.ctx).irq 0 2
  else s

/-- Marks a found descriptor late: its cores were not free at its START (R148). -/
def State.delay (s : State) (f : Found) : State :=
  { s with disp := { s.disp with found := s.disp.found.map (fun g => if g.index = f.index then { g with late := true } else g) } }

/-- A descriptor whose START has come launches, is rejected, or is delayed. -/
def State.attempt (s : State) (f : Found) : State :=
  let e := s.launchLive f
  if e ≠ 0 then (s.dropFound f).launchReject f e
  else if s.launchable f then s.launch f else s.delay f

/-- DISPATCHER_SCAN: at a multiple of 2,000 ns pending entries are read again, the table is read in index order, and late
descriptors launch whose cores are free (R146-R148). -/
def execDispatcherScan (s : State) : Host.Outcome State Fault Refusal :=
  actLive (fun s => s.host.bs8Done && decide (0 < s.tableEntries Reg.hifSubCtl) && decide (s.disp.lastScan ≠ s.scanTick))
    (fun s =>
      let n := s.tableEntries Reg.hifSubCtl
      let s := { s with disp := { s.disp with lastScan := s.scanTick } }
      let s := s.disp.found.foldl State.subCancel s
      let s := (List.range n).foldl State.subRead s
      let s := (sortBy Found.order (s.disp.found.filter (fun f => f.late && !s.stops f.job))).foldl State.attempt s
      (s.setField Reg.hifSubStat 0 32 (s.field Reg.hifSubStat 0 32 + 1)).globalEvent 0x001) s

/-- LAUNCH: the START of a found descriptor has come (R25, R147, R148). -/
def execLaunch (entry : Nat) (s : State) : Host.Outcome State Fault Refusal :=
  actLive (fun s => s.disp.found.any (fun f => f.index == entry && !f.late && !s.stops f.job && decide (f.start ≤ s.nowA)))
    (fun s => match s.disp.found.find? (fun f => f.index == entry) with
      | some f => s.attempt f
      | none => s) s

/-! ### The end of a program (R151) -/

/-- Whether every engine of a core is idle and every fabric instruction complete. -/
def State.coreQuiet (s : State) (c : Nat) : Bool := (s.core c).fenceClear 0x1F

/-- PROGRAM_END_COMPLETE: after END all engines are idle and all fabric instructions complete; VSTS.FLAGS go to HIF_CSTAT,
DONESEM is signalled and the core is IDLE (R151). -/
def execProgramEndComplete (core : Nat) (s : State) : Host.Outcome State Fault Refusal :=
  actLive (fun s => decide (core < 192) && s.coreState core == 2 && (s.core core).wait == .ended && !(s.core core).package &&
      !s.coreHalted core && s.coreQuiet core)
    (fun s =>
      let x := (s.core core).ctx
      let s := s.foldFlags core
      let s := if x.doneEn then s.signalDev x.doneSem else s
      let s := s.modCore core (fun k => { k with wait := .none })
      (s.setCoreState core 0).coreLeft core) s

/-! ### SYLD (R140, R314, R315) -/

/-- What a SYLD does where the Groomer has a screen scheduled: the sections due, one after another; then the core resumes behind
the SYLD. -/
def State.syldNext (s : State) (c : Nat) : State :=
  match s.physOf c with
  | none => s.retire c id
  | some p =>
    match s.syldRun p with
    | some (why, kind) =>
      let t := s.runSection p kind 0 0 why true
      if (Tab.find t.grm.runs p).isSome then t else s.retire c id
    | none => s.retire c id

/-- SYLD: a point at which the Groomer may stop the core for a screen; without one due, it takes one cycle (R140). -/
def execSyld (x : Fki) (s : State) : Host.Outcome State Fault Refusal :=
  fki x 0 9 0 [] [] (rsvOk [x.d.toNat, x.a.toNat, x.b.toNat, x.c.toNat, x.im])
    (fun s => if (s.core x.core).package then s.retire x.core id else s.syldNext x.core) s

/-! ### HIF_CEXC0 (R156, R157) -/

/-- A write of HIF_CEXC0: VALID and MULTI are cleared by ones; clearing VALID returns a STOPPED core to IDLE. -/
def State.cexc0Write (s : State) (c v : Nat) : State :=
  let k := Reg.hifCexc0 c
  let was := s.flag k 10
  let s := if bit v 10 then s.setField k 10 1 0 else s
  let s := if bit v 11 then s.setField k 11 1 0 else s
  if bit v 10 ∧ was ∧ s.coreState c = 3 then
    let s := s.setCoreState c 0
    match s.physOf c with
    | some p => s.groom p
    | none => s
  else s

/-- HIF_CEXC0_WRITE: software writes a core's HIF_CEXC0 (R157). -/
def execHifCexc0Write (pf core : Nat) (value : BitVec 64) (s : State) : Host.Outcome State Fault Refusal :=
  hostWrite pf (Reg.hifCexc0 (core % 192)) (fun s => s.cexc0Write (core % 192) value.toNat) s

end Sys2Proof.Machine
end

