-- ==== Sys2Proof/Machine/Screen.lean ====
section
/-! DEFINITION. The Groomer's timers and results (R306-R318), sampled re-execution (R307, R317), and its commands (R308, R329). -/

namespace Sys2Proof.Machine
open Sys2Proof

/-! ### Timers (R314, R315, R310) -/

/-- QUICK period in ns (R324, R327). -/
def State.quickPeriod (s : State) : Nat :=
  let m := if s.flag Reg.grmProb 0 then s.field Reg.grmProb 6 8 else s.field Reg.grmCtl 6 8
  max 1 m * 60000000000

/-- HB period in ns. -/
def State.hbPeriod (s : State) : Nat := max 1 (s.field Reg.grmCtl 14 10) * 1000000

/-- QUICK_SCREEN_TIMER: a usable core's QUICK run falls due (R314). -/
def execQuickScreenTimer (phys : Nat) (s : State) : Host.Outcome State Fault Refusal :=
  actLive (fun s => decide (phys < 200) && s.flag Reg.grmCtl 0 && s.grmUsable phys &&
      decide (Tab.get s.grm.quickAt 0 phys + s.quickPeriod ≤ s.time.count))
    (fun s =>
      let t : State := { s with grm := { s.grm with quickAt := Tab.put s.grm.quickAt 0 phys s.time.count } }
      (t.markDue phys 1).groom phys) s

/-- HB_TIMER: a usable core's HB run falls due; a RUNNING core takes it at its next SYLD (R315). -/
def execHbTimer (phys : Nat) (s : State) : Host.Outcome State Fault Refusal :=
  actLive (fun s => decide (phys < 200) && s.flag Reg.grmCtl 0 && s.grmUsable phys &&
      decide (Tab.get s.grm.hbAt 0 phys + s.hbPeriod ≤ s.time.count))
    (fun s =>
      let t : State := { s with grm := { s.grm with hbAt := Tab.put s.grm.hbAt 0 phys s.time.count } }
      (t.markDue phys 2).groom phys) s

/-- TWIN in ns. -/
def State.twin (s : State) : Nat := s.field Reg.grmCtl 38 8 * 3600000000000

/-- TRANSIENT_EXPIRE: the oldest counted transient of a core leaves the window (R310). -/
def execTransientExpire (phys : Nat) (s : State) : Host.Outcome State Fault Refusal :=
  actLive (fun s => match Tab.get s.grm.transients [] phys with
      | t :: _ => decide (t + s.twin ≤ s.time.count)
      | [] => false)
    (fun s =>
      let l := (Tab.get s.grm.transients [] phys).tail
      let t : State := { s with grm := { s.grm with transients := Tab.put s.grm.transients [] phys l } }
      t.setField (Reg.grmCore phys) 17 8 (min 255 l.length)) s

/-! ### Section results (R304, R307, R312, R315) -/

/-- Clears a due bit. -/
def State.clearDue (s : State) (p i : Nat) : State := s.setDue p (setBits (s.due p) i 1 0)

/-- A screen has failed: the core is charged; one that runs a program faults, and the program's step aborts (R304). The cause an
ABORT carries for it is not stated: it is a free value. -/
def State.screenFail (s : State) (p src : Nat) : State :=
  let s := s.charge p src 0 0
  match s.logicalOf p with
  | some c =>
    if s.coreState c = 2 then
      let f := s.fresh
      f.2.fault none (f.1 % 256) (some ((s.core c).ctx.job, (s.core c).ctx.epoch, (s.core c).ctx.step)) true false
    else s
  | none => s

/-- A FULL run of a command has ended on a core. -/
def State.commandRun (s : State) (p : Nat) (pass : Bool) : State :=
  match s.grm.cmd with
  | some m =>
    { s with grm := { s.grm with cmd := some { m with cores := m.cores.filter (· != p), failed := m.failed || !pass } } }
  | none => s

/-- After a run at a SYLD: the next one due, or the program goes on behind the SYLD. -/
def State.afterSyld (s : State) (p : Nat) : State :=
  match s.logicalOf p with
  | none => s
  | some c =>
    if s.coreState c ≠ 2 then s
    else
      match s.syldRun p with
      | some (why, kind) =>
        let t := s.runSection p kind 0 0 why true
        if (Tab.find t.grm.runs p).isSome then t else s.retire c id
      | none => s.retire c id

/-- A section has a result: it is counted, the core restored, and the result used for what the section ran for. -/
def State.sectionEnd (s : State) (p : Nat) (r : SectionRun) (pass : Bool) : State :=
  let s := s.count Reg.grmScreens
  let s := if pass then s else s.count (if r.why = .heartbeat then Reg.grmHbFail else Reg.grmScreenFail)
  let s := s.endRun p
  let s := match r.why with
    | .classify => s.classifyRun p pass
    | .heartbeat => let s := s.clearDue p 1; if pass then s else s.screenFail p 3
    | .quick => let s := s.clearDue p 0; if pass then s else s.screenFail p 4
    | .tileEvent => let s := s.clearDue p 2; if pass then s else s.screenFail p 4
    | .command => let s := s.commandRun p pass; if pass then s else s.screenFail p 4
    | .spare => s.spareResult p pass
  if r.atSyld then s.afterSyld p else s.groom p

/-- The MISR a section leaves on a core: its own MISR register with the bits its silicon got wrong; of a core without a logical
number, which no instruction of the table names, the section's own MISR with them (R312; DESIGN CHOICE, log 88). -/
def State.sectionMisr (s : State) (p : Nat) (r : SectionRun) (wrong : Nat) : Nat :=
  (match s.logicalOf p with
   | some c => (s.core c).misr.toNat
   | none => r.part.misr) ^^^ wrong

/-- Whether a section has reached END: CTL is at it, and every engine of the core is done (R151, R312). -/
def State.sectionEnded (s : State) (p : Nat) : Bool :=
  match s.logicalOf p with
  | some c => (s.core c).wait == .ended && (s.core c).fenceClear 0x1E
  | none => true

/-- SECTION_RUN_COMPLETE: a section has reached END; it passes with the parts own MISR, within its limit and without a charge
meanwhile (R305, R312). `misr` holds the bits of the MISR that the core's silicon got wrong, 0 on a sound core. -/
def execSectionRunComplete (phys : Nat) (misr : BitVec 64) (s : State) : Host.Outcome State Fault Refusal :=
  actLive (fun s => (Tab.find s.grm.runs phys).isSome && s.sectionEnded phys)
    (fun s => match Tab.find s.grm.runs phys with
      | some r =>
        s.sectionEnd phys r (s.sectionMisr phys r misr.toNat == r.part.misr && !s.overdue phys r &&
          !(r.charged && r.why == .classify))
      | none => s) s

/-- SECTION_TIMEOUT: a section has not reached END within its limit, which is a failure (R312, R315). -/
def execSectionTimeout (phys : Nat) (s : State) : Host.Outcome State Fault Refusal :=
  actLive (fun s => match Tab.find s.grm.runs phys with
      | some r => s.overdue phys r
      | none => false)
    (fun s => match Tab.find s.grm.runs phys with
      | some r => s.sectionEnd phys r false
      | none => s) s

/-! ### Sampled re-execution (R307, R317) -/

/-- The core that re-executes: usable, not SUSPECT, on none of the tiles named, whose last re-execution is oldest. -/
def State.pickCore (s : State) (tiles : List Nat) : Option Nat :=
  (sortBy (fun p => Tab.get s.grm.lastReexec 0 p)
    ((List.range 200).filter (fun p => s.grmUsable p && s.grmState p != 1 && !tiles.contains (p / 25)))).head?

/-- A capture is re-executed on a core in screening context (R312, R317): the core's state goes to its save slot, whose layout no
rule gives, and comes back; the re-execution is noted. -/
def State.reexecuted (s : State) (p : Nat) : State :=
  let s := s.memFree (s.saveSlot p + 2 * 2 ^ 20) (2 * 2 ^ 20)
  let s := match s.logicalOf p with
    | some c => s.coreEvent c 0x051 1
    | none => s
  { s with grm := { s.grm with lastReexec := Tab.put s.grm.lastReexec 0 p (s.time.count + 1) } }

/-- The pass of a capture as another core runs it: over cleared entries, in native mode where it was skewed-feed (R317). -/
def reexecRun (r : PassRun) : PassRun :=
  if mmwMode r.mmw = 3 then { r with mmw := BitVec.ofNat 64 (setBits r.mmw.toNat 0 2 0) } else r

/-- The digest of a captured pass re-executed on sound hardware (R316, R317). -/
def passDigest (r : PassRun) : Nat :=
  let r := reexecRun r
  (laneDigest (writtenLanes (writeEntries Matrix.reset r (passResult r) 0) r)).toNat

/-- A charge of a sample goes on to QUICK runs. -/
def State.unhold (s : State) (p : Nat) : State :=
  match Tab.find s.grm.classify p with
  | some c =>
    let t : State := { s with grm := { s.grm with classify := Tab.insert s.grm.classify p { c with held := false } } }
    t.groom p
  | none => s

/-- A charge of a sample that another core's error explains is withdrawn. -/
def State.withdraw (s : State) (p : Nat) : State :=
  match Tab.find s.grm.classify p with
  | some c => if c.held then s.classified p c.before else s
  | none => s

/-- Decides a sample on the core in error, while its charge is held for that: a digest it repeats right makes the detection
transient, any other permanent (R307). A charge that another source's classification has taken in is decided there (R305). -/
def State.sampleVerdict (s : State) (w : Nat) (right : Bool) : State :=
  match Tab.find s.grm.classify w with
  | some c =>
    if c.held then
      let s := s.reexecuted w
      (if right then s.transient w c else s.permanent w c).groom w
    else s
  | none => s

/-- The digest of core Y (R317). -/
def State.sampleY (s : State) (k : Nat) (x : Sample) (d : Nat) : State :=
  match s.pickCore [x.x / 25] with
  | none => s
  | some y =>
    let s := s.reexecuted y
    if d = x.digestX then s.freeSample k
    else
      let s := s.count Reg.grmSampleMism
      let s := s.raise 0x200A (2, x.x) [(16, x.x), (16, y), (8, 5), (8, s.field (Reg.grmCore x.x) 3 3), (8, s.field (Reg.grmCore y) 3 3)]
      let s := s.charge x.x 5 0 0 true
      s.setSample k { x with y := y, digestY := d, phase := .onZ, takenAt := s.time.count }

/-- The digest of core Z (R307). -/
def State.sampleZ (s : State) (k : Nat) (x : Sample) (d : Nat) : State :=
  match s.pickCore [x.x / 25, x.y / 25] with
  | none => s
  | some z =>
    let s := s.reexecuted z
    let x := { x with z := z, digestZ := d, phase := .onW }
    if d = x.digestY then s.setSample k { x with w := x.x }
    else if d = x.digestX then
      let s := (s.withdraw x.x).charge x.y 5 0 0 true
      s.setSample k { x with w := x.y }
    else (((s.unhold x.x).charge x.y 5 0 0).charge z 5 0 0).freeSample k

/-- The core a capture is re-executed on next (R307, R317). -/
def State.reexecOn (s : State) (x : Sample) : Option Nat :=
  match x.phase with
  | .onX => none
  | .onY => s.pickCore [x.x / 25]
  | .onZ => s.pickCore [x.x / 25, x.y / 25]
  | .onW => some x.w

/-- SAMPLE_REEXEC_COMPLETE: a captured pass has been re-executed on core Y, Z or W, which is not RUNNING (R306, R307, R314, R317).
Its digest is that of the pass but for the bits of `digest`, which the core's silicon got wrong, 0 on a sound core. -/
def execSampleReexecComplete (tile slot : Nat) (digest : BitVec 64) (s : State) : Host.Outcome State Fault Refusal :=
  actLive (fun s => decide (tile < 8 ∧ slot < 16) && (match Tab.find s.grm.samples (16 * tile + slot) with
      | some x => (match s.reexecOn x with
        | some p => s.groomFree p
        | none => false)
      | none => false))
    (fun s => match Tab.find s.grm.samples (16 * tile + slot) with
      | some x =>
        let d := passDigest x.run ^^^ digest.toNat
        match x.phase with
        | .onX => s
        | .onY => s.sampleY (16 * tile + slot) x d
        | .onZ => s.sampleZ (16 * tile + slot) x d
        | .onW => (s.sampleVerdict x.w (d == x.digestZ)).freeSample (16 * tile + slot)
      | none => s) s

/-- SAMPLE_TIMEOUT: 60 s have passed since a capture, or since a mismatch: the sample is dropped; after a mismatch X and Y are
charged and classified by QUICK runs (R307, R317). -/
def execSampleTimeout (tile slot : Nat) (s : State) : Host.Outcome State Fault Refusal :=
  actLive (fun s => match Tab.find s.grm.samples (16 * tile + slot) with
      | some x => decide (x.takenAt + 60000000000 ≤ s.time.count)
      | none => false)
    (fun s => match Tab.find s.grm.samples (16 * tile + slot) with
      | some x =>
        let s := s.count Reg.grmSampleSkip
        let s := match x.phase with
          | .onX | .onY => s
          | .onZ => (s.unhold x.x).charge x.y 5 0 0
          | .onW => if x.w = x.x then (s.unhold x.x).charge x.y 5 0 0 else (s.charge x.x 5 0 0).unhold x.y
        s.freeSample (16 * tile + slot)
      | none => s) s

/-! ### Commands (R308, R329) -/

/-- The result of a command: BUSY falls, RESULT and ERR are set, event 0x00B. -/
def State.grmResult (s : State) (result err : Nat) : State :=
  let s := s.setReg Reg.grmCmd (result % 8 * 2 ^ 30 + err % 256 * 2 ^ 33)
  { s with grm := { s.grm with cmd := none } }.raise 0x200B (0, 0) [(8, result), (8, err)]

/-- A command begins: BUSY, no result. -/
def State.grmBegin (s : State) (m : GrmCmd) : State :=
  let s := s.setReg Reg.grmCmd (2 ^ 29)
  let t : State := { s with grm := { s.grm with cmd := some m } }
  m.cores.foldl State.groom t

/-- The handle of an RCMP: its armed descriptor of a HELD slot. -/
def State.heldHandle (s : State) (handle : Nat) : Option Handle :=
  (List.range 32).findSome? (fun i => match (s.nme i).find handle with
    | some a =>
      if (List.range 32).any (fun k => s.slotState k == 6 && (s.slot k).entries.any (fun e => e.handle == handle))
      then some a.desc else none
    | none => none)

/-- The repeat area of a handle: hold buffer 0 with ROFF in place of HOFF (R308). -/
def Handle.repeatArea (h : Handle) (roff : Nat) : Handle := { h with hoff := roff }

/-- ERR of an RCMP: 0x01 a misaligned ROFF, 0x02 no HELD slot, 0x03 the area. -/
def State.rcmpErr (s : State) (handle roff : Nat) : Nat :=
  if roff % 4096 ≠ 0 then 0x01
  else match s.heldHandle handle with
    | none => 0x02
    | some h =>
      let r := h.repeatArea roff
      if r.nmes.all (fun i => s.inTile (i / 4) (r.area i 1) r.span) then 0 else 0x03

/-- A write of GRM_CMD (R329). -/
def State.grmCmdWrite (s : State) (v : Nat) : State :=
  if !bit v 28 || s.flag Reg.grmCmd 29 then s
  else
    let op := bits v 0 4
    let p := bits v 4 8
    let blank : GrmCmd := { op := op, handle := bits v 12 16, cores := [], failed := false, err := 0, diffOwn := 0, diffBk := 0 }
    if op = 1 then
      if 200 ≤ p then s.grmResult 0 0x01
      else if !s.grmUsable p then s.grmResult 0 0x04
      else s.grmBegin { blank with cores := [p] }
    else if op = 2 then s.grmBegin { blank with cores := (List.range 200).filter s.grmUsable }
    else if op = 3 then
      let e := s.rcmpErr blank.handle (s.field Reg.grmCmdArg 0 39)
      if e ≠ 0 then s.grmResult 0 e else s.grmBegin blank
    else s.grmResult 0 0x01

/-- SCREEN: a FULL run on one core. -/
def execScreen (pf : Nat) (value : BitVec 64) (s : State) : Host.Outcome State Fault Refusal :=
  hostWrite pf Reg.grmCmd (fun s => s.grmCmdWrite (setBits value.toNat 0 4 1)) s

/-- MODSCREEN: a FULL run on every usable core (R308). -/
def execModscreen (pf : Nat) (value : BitVec 64) (s : State) : Host.Outcome State Fault Refusal :=
  hostWrite pf Reg.grmCmd (fun s => s.grmCmdWrite (setBits value.toNat 0 4 2)) s

/-- RCMP: a repeat area is compared with both hold buffers (R308). -/
def execRcmp (pf : Nat) (value : BitVec 64) (s : State) : Host.Outcome State Fault Refusal :=
  hostWrite pf Reg.grmCmd (fun s => s.grmCmdWrite (setBits value.toNat 0 4 3)) s

/-- Compares lanes of the repeat area with both hold buffers: lanes that differ from own and from backup, or the first address
that cannot be read. -/
def State.compareLanes (s : State) (h r : Handle) : List Nat → Nat → Nat → Option Nat × Nat × Nat × State
  | [], own, bk => (none, own, bk, s)
  | l :: t, own, bk =>
    let x := s.readLane r 1 l
    let y := x.2.readLane h 1 l
    let z := y.2.readLane h 2 l
    match x.1, y.1, z.1 with
    | .ok a, .ok b, .ok c =>
      z.2.compareLanes h r t (own + b2n (decide (a.toNat ≠ b.toNat))) (bk + b2n (decide (a.toNat ≠ c.toNat)))
    | .error e, _, _ => (some e, own, bk, z.2)
    | _, .error e, _ => (some e, own, bk, z.2)
    | _, _, .error e => (some e, own, bk, z.2)

/-- The comparison of a handle on its NMEs in turn; an NME that cannot read a lane faults. -/
def State.compareAll (s : State) (h r : Handle) : List Nat → Nat → Nat → Bool × Nat × Nat × State
  | [], own, bk => (true, own, bk, s)
  | i :: t, own, bk =>
    match s.compareLanes h r (h.lanesOf i) own bk with
    | (some e, own, bk, s) => (false, own, bk, s.nmeFault i 0x24 h.handle e)
    | (none, own, bk, s) => s.compareAll h r t own bk

/-- RESULT of a comparison (R308); a repeat that equals both buffers is given no RESULT: it is free. -/
def State.rcmpResult (s : State) (own bk : Nat) : Nat × State :=
  if own = 0 ∧ bk = 0 then
    let f := s.fresh
    (f.1 % 8, f.2)
  else if own = 0 then (1, s)
  else if bk = 0 then (2, s)
  else (3, s)

/-- The end of an RCMP. -/
def State.rcmpDone (s : State) (m : GrmCmd) : State :=
  let roff := s.field Reg.grmCmdArg 0 39
  let e := s.rcmpErr m.handle roff
  match s.heldHandle m.handle with
  | none => s.grmResult 0 0x02
  | some h =>
    if e ≠ 0 then s.grmResult 0 e
    else
      match s.compareAll h (h.repeatArea roff) h.nmes 0 0 with
      | (ok, own, bk, s) =>
        let s := s.setReg Reg.grmCmpCnt (sat32 own + sat32 bk * 2 ^ 32)
        if ok then
          let r := s.rcmpResult own bk
          r.2.grmResult r.1 0
        else
          let f := s.fresh
          f.2.grmResult (f.1 % 8) (f.1 / 8 % 256)

/-- GRM_CMD_COMPLETE: the command in progress ends with its RESULT; a MODSCREEN without a failing core sets MODSUSP (R308, R329). -/
def execGrmCmdComplete (s : State) : Host.Outcome State Fault Refusal :=
  actLive (fun s => match s.grm.cmd with
      | some m => m.cores.all (fun p => !s.grmUsable p)
      | none => false)
    (fun s => match s.grm.cmd with
      | some m =>
        if m.op = 3 then s.rcmpDone m
        else
          let s := if m.op = 2 ∧ !m.failed then s.setFlag Reg.grmStat 19 else s
          s.grmResult (if m.failed then 3 else 1) 0
      | none => s) s

/-- A write of GRM_PROB: MODSUSP is cleared, and module probation entered or left is recorded (R308, R324, R327). -/
def State.grmProbWrite (s : State) (v : Nat) : State :=
  let was := s.flag Reg.grmProb 0
  let s := (s.setReg Reg.grmProb (v % 2 ^ 14)).setField Reg.grmStat 19 1 0
  let s := s.probRefresh
  if was = bit v 0 then s else s.raise 0x200C (0, 0) [(8, b2n (bit v 0))]

/-- GRM_PROB_WRITE: the pod fault manager writes GRM_PROB. -/
def execGrmProbWrite (pf : Nat) (value : BitVec 64) (s : State) : Host.Outcome State Fault Refusal :=
  hostWrite pf Reg.grmProb (fun s => s.grmProbWrite value.toNat) s

end Sys2Proof.Machine
end

