-- ==== Sys2Proof/Machine/E2eRx.lean ====
section
/-! DEFINITION. The end-to-end layer as packets and time reach it (R216, R229-R231): GET requests and responses, acknowledgements,
coalescing and retransmission. -/

namespace Sys2Proof.Machine
open Sys2Proof

/-! ### GET (R216, R230, R231) -/

/-- The response to a GET request: the bytes read, or STATUS 2 (ADDR) or 3 (POISON) without payload. -/
def getResponse (q : Packet) (status : Nat) (l : List Byte) : Packet :=
  Packet.make [(0, 15, q.src), (32, 12, q.job), (44, 8, q.epoch), (52, 16, q.stepl), (71, 4, tyGet), (75, 1, 1), (86, 2, 1),
    (160, 48, q.addr), (224, 16, q.tag), (288, 4, status)] (flitsOf (l.length / 64) l)

/-- Answers a GET request: check 9 of R231, then the read; an uncorrectable one is answered as poisoned (R169). -/
def State.getServe (s : State) (q : Packet) : State :=
  let n := q.ext 0 11
  if !s.backed q.addr n then (s.count Reg.fabDiscAddr).inject (getResponse q 2 [])
  else
    let r := s.memRead q.addr n
    match r.2.1 with
    | some _ => r.2.2.inject (getResponse q 3 [])
    | none => r.2.2.inject (getResponse q 0 r.1)

/-- GET_REQUEST_RECEIVE: the GET request at the head of a buffer is checked and answered (R216, R231). -/
def execGetRequestReceive (port vc : Nat) (s : State) : Host.Outcome State Fault Refusal :=
  actLive (fun s => s.headIs port vc (fun p => p.type == tyGet && p.rsp == 0))
    (fun s => s.arrive port vc false (fun r s => s.getServe r.packet)) s

/-- Writes bytes to ranges in order. -/
def State.putSegs (s : State) (place : Option Nat) : List (Nat × Nat) → List Byte → State
  | [], _ => s
  | (a, n) :: t, l => (s.putRange place a (l.take n)).putSegs place t (l.drop n)

/-- Writes a response where its request's record says: the ranges of a GET instruction, or the place of a restore's fetch. -/
def State.getWrite (s : State) (r : E2e) (l : List Byte) : State :=
  if r.source.segs.isEmpty then
    match r.dest with
    | some (place, a, n) => s.putRange place a (l.take n)
    | none => s
  else s.putSegs r.source.core r.source.segs l

/-- The record of an outstanding GET that a response answers. -/
def State.getRecord (s : State) (p : Packet) : Option E2e :=
  s.fab.recs.find? (fun r => r.type == tyGet && r.tag == p.tag && r.dst == p.src && r.job == p.job && decide (0 < r.sends))

/-- Whether a response answers a request that the reset of its engine dropped (R334). -/
def State.getGhost (s : State) (p : Packet) : Bool :=
  s.fab.ghosts.any (fun r => r.type == tyGet && r.tag == p.tag && r.dst == p.src && r.job == p.job)

/-- A response: written, or ADDR or POISON told to its requester; one for an engine in reset is absorbed, one for a TAG already
complete discarded (R230, R334). -/
def State.getAnswer (s : State) (p : Packet) : State :=
  match s.getRecord p with
  | none => if s.getGhost p then s.count Reg.rstAbsorb else s.count Reg.fabDiscNoresp
  | some r =>
    let status := p.ext 0 4
    if status = 0 then
      if p.len = r.ext / 64 then
        ((s.dropRecord r.id).getWrite r p.bytes).settleWith [{ owner := r.owner, code := 0, addr := r.addr }]
      else s.count Reg.fabDiscType
    else if status = 2 then (s.dropRecord r.id).settleWith [{ owner := r.owner, code := excHbmAddr, addr := r.addr }]
    else if status = 3 then (s.dropRecord r.id).settleWith [{ owner := r.owner, code := excHbmUe, addr := r.addr }]
    else s.count Reg.fabDiscType

/-- GET_RESPONSE_RECEIVE: the GET response at the head of a buffer is checked and written (R216, R230, R231). -/
def execGetResponseReceive (port vc : Nat) (s : State) : Host.Outcome State Fault Refusal :=
  actLive (fun s => s.headIs port vc (fun p => p.type == tyGet && p.rsp == 1))
    (fun s => s.arrive port vc false (fun r s => s.getAnswer r.packet)) s

/-! ### Acknowledgements (R229) -/

/-- The record an acknowledged sequence belongs to. -/
def State.ackedRecord (s : State) (p : Packet) (seq : Nat) : Option E2e :=
  s.fab.recs.find? (fun r => r.type != tyGet && r.dst == p.src && r.job == p.job && r.epoch == p.epoch && r.seq == seq &&
    decide (0 < r.sends))

/-- One sequence of an EACK: OK and REJECTED deliver its record, ADDR fails it. The Bool tells that it has no record. -/
def State.ackOne (s : State) (p : Packet) (seq status : Nat) : Bool × State :=
  match s.ackedRecord p seq with
  | none => (true, s)
  | some r =>
    (false, (s.dropRecord r.id).settleWith
      [{ owner := r.owner, code := if status = 2 then excHbmAddr else 0, addr := r.addr }])

/-- Whether an EACK acknowledges a packet whose record the reset of its engine dropped (R334). -/
def State.eackGhost (s : State) (p : Packet) : Bool :=
  (Packet.acked p).any (fun e => s.fab.ghosts.any (fun r => r.type != tyGet && r.dst == p.src && r.job == p.job &&
    r.epoch == p.epoch && r.seq == e.1))

/-- An EACK: its sequences in order; one or more without a record count once (R229), and are absorbed where the reset of an
engine dropped it (R334). -/
def State.eackIn (s : State) (p : Packet) : State :=
  let s := if s.eackGhost p then s.count Reg.rstAbsorb else s
  let r := (Packet.acked p).foldl (fun (a : Bool × State) e =>
    let b := a.2.ackOne p e.1 e.2
    (a.1 || b.1, b.2)) (false, s)
  if r.1 then r.2.count Reg.fabE2eDupack else r.2

/-- EACK_RECEIVE: the acknowledgement at the head of a buffer is checked and acts on the sender's records (R229, R231). -/
def execEackReceive (port vc : Nat) (s : State) : Host.Outcome State Fault Refusal :=
  actLive (fun s => s.headIs port vc (fun p => p.type == tyCtrl && p.sub == 1))
    (fun s => (s.arrive port vc false (fun r s => s.eackIn r.packet)).settle 64) s

/-- EACK_COALESCE_EXPIRE: acknowledgements for a source and job have waited COAL x 8 ns and are sent (R229). -/
def execEackCoalesceExpire (source job : Nat) (s : State) : Host.Outcome State Fault Refusal :=
  actLive (fun s => s.fab.acks.any (fun m => m.source == source && m.job == job &&
      decide (m.since + 8 * s.field Reg.fabE2e 16 8 ≤ s.time.count)))
    (fun s => match s.fab.acks.find? (fun m => m.source == source && m.job == job) with
      | some m => s.sendAcks m
      | none => s) s

/-- RETRANSMIT_TIMEOUT: a record has been unacknowledged for RTO since its last sending: it is sent again, or given up after
RMAX sendings (R230). -/
def execRetransmitTimeout (record : Nat) (s : State) : Host.Outcome State Fault Refusal :=
  actLive (fun s => s.fab.recs.any (fun r => r.id == record && decide (0 < r.sends) && decide (r.sentAt + s.rto ≤ s.time.count)))
    (fun s => match s.fab.recs.find? (fun r => r.id == record) with
      | some r =>
        let q := s.recordTimeout r
        q.2.settleWith q.1
      | none => s) s

end Sys2Proof.Machine
end

