-- ==== Sys2Proof/Machine/Piste.lean ====
section
/-! DEFINITION. Writes of the piste table (R232, R355, R497): the transitions an entry takes, epoch changes, and what leaving ACTIVE
stops. -/

namespace Sys2Proof.Machine
open Sys2Proof

/-- Clears the windows of a job on every NME (R182). -/
def State.clearWindows (s : State) (job : Nat) : State :=
  (List.range 32).foldl (fun (s : State) i =>
    let m := s.nme i
    s.setNme i { m with windows := m.windows.filter (fun w => w.job != job), spilled := m.spilled.filter (fun w => w.job != job) }) s

/-- Abandons the slots of a job that have not decided, for which the spec names no cause code: it is free. -/
def State.abandonJob (s : State) (job : Nat) : State :=
  let f := s.fresh
  ((List.range 32).filter (fun k => f.2.slotJob k == job)).foldl (fun s k => s.abandon k (f.1 % 256)) f.2

/-- Instructions of a job that still run while their packets are discarded raise FABDELIV (R232). -/
def State.failJobRuns (s : State) (job epoch : Nat) : State :=
  (List.range 192).foldl (fun (s : State) c =>
    let k := s.core c
    if s.coreState c = 2 ∧ k.ctx.job = job ∧ k.ctx.epoch = epoch then
      (k.runs.filter (fun r => r.op.fn != 3)).foldl (fun (s : State) r =>
        match (s.core c).runOf r.op.id with
        | some r => s.opFail c r excFabDeliv 0
        | none => s) s
    else s) s

/-- An epoch change (R182, R232, R291): slots of the job are abandoned, its windows cleared, its sequences restarted and its
records discarded; the mirror stream goes on under the new epoch (R372). -/
def State.epochChange (s : State) (e v : Nat) : State :=
  let job := bits v 3 12
  let old := s.pisteEpoch e
  let s := s.setField (Reg.fabPisteA e) 15 8 (bits v 15 8)
  let s := (s.abandonJob job).clearWindows job
  let s := (s.dropJobRecords job).restartSeqs job
  ((s.failJobRuns job old).mirrorResume job).settle 64

/-- What leaving ACTIVE does (R355): every program of the job stops, with event 0x00D for each, its slots are abandoned, its
windows cleared, a checkpoint of it is interrupted (R369), and a stop of it ends (R431). -/
def State.teardown (s : State) (job : Nat) : State :=
  let s := { s with gstop := { s.gstop with stopped := s.gstop.stopped.filter (fun e => e.1 != job) } }
  let s := (List.range 192).foldl (fun (s : State) c =>
    let x := (s.core c).ctx
    if s.coreState c = 2 ∧ x.job = job then
      (s.stopProgram c).raise 0x300D (8, 0) [(16, noIndex), (8, domCore), (16, c), (8, 0)] (some (x.job, x.epoch, x.step))
    else s) s
  let s := (s.abandonJob job).clearWindows job
  if job = s.ckpJob then s.ckpInterrupt else s

/-- Refuses a write of an entry (R497). -/
def State.pisteRefuse (s : State) (e v : Nat) : State :=
  (s.setFlag (Reg.fabPisteA e) 24).raise 0x700B (8, 0) [(16, e), (16, bits v 3 12)]

/-- Gives an entry the fields written, with event 0x700C. -/
def State.pisteSet (s : State) (e v : Nat) : State :=
  let s := s.setField (Reg.fabPisteA e) 0 23 v
  s.raise 0x700C (8, 0) [(16, e), (16, bits v 3 12), (8, bits v 1 2), (8, bits v 15 8)]

/-- An entry becomes invalid; which state code the event carries for it is not stated. -/
def State.pisteInvalid (s : State) (e v : Nat) : State :=
  let f := s.fresh
  let s := f.2.setField (Reg.fabPisteA e) 0 23 v
  s.raise 0x700C (8, 0) [(16, e), (16, bits v 3 12), (8, f.1), (8, bits v 15 8)]

/-- An entry enters QUARANTINE: QEND is 2 s ahead (R232). -/
def State.pisteQuarantine (s : State) (e v : Nat) : State := (s.pisteSet e v).setReg (Reg.fabPisteB e) (s.nowA + 2000000000)

/-- The states a transition of R497 is between: 0 ACTIVE, 1 TEARDOWN, 2 QUARANTINE, 4 invalid. -/
def pisteCode (v : Nat) : Nat := if bit v 0 then bits v 1 2 else 4

/-- Whether a write is refused whatever the entry holds: STATE = 3, JOB 0, or the JOB of another valid entry. -/
def State.pisteBad (s : State) (e v : Nat) : Bool :=
  bits v 1 2 == 3 ||
  (bit v 0 && (bits v 3 12 == 0 ||
    (List.range 16).any (fun o => o != e && s.flag (Reg.fabPisteA o) 0 && s.field (Reg.fabPisteA o) 3 12 == bits v 3 12)))

/-- The table of R497 for a write that may be accepted. -/
def State.pisteMove (s : State) (e v : Nat) : State :=
  let old := s.reg (Reg.fabPisteA e)
  let job := bits old 3 12
  let same := job == bits v 3 12
  match pisteCode old, pisteCode v with
  | 4, 0 => (s.pisteSet e v).restartSeqs (bits v 3 12)
  | 4, 2 => s.pisteQuarantine e v
  | 0, 0 =>
    if !same then s.pisteRefuse e v
    else if bits old 15 8 = bits v 15 8 then s
    else (s.epochChange e v).raise 0x700C (8, 0) [(16, e), (16, job), (8, 0), (8, bits v 15 8)]
  | 0, 1 => if same then (s.teardown job).pisteSet e v else s.pisteRefuse e v
  | 0, 2 => if same then (s.teardown job).pisteQuarantine e v else s.pisteRefuse e v
  | 0, 4 => (s.teardown job).pisteInvalid e v
  | 1, 0 => ((s.pisteSet e v).clearWindows (bits v 3 12)).restartSeqs (bits v 3 12)
  | 1, 1 => if same then s else s.pisteRefuse e v
  | 1, 2 => if same then s.pisteQuarantine e v else s.pisteRefuse e v
  | 1, 4 => s.pisteInvalid e v
  | _, _ => s.pisteRefuse e v

/-- A write of FAB_PISTE_A (R238, R497). -/
def State.pisteWrite (s : State) (e v : Nat) : State :=
  let s := if bit v 24 then s.setField (Reg.fabPisteA e) 24 1 0 else s
  if s.pisteBad e v then s.pisteRefuse e v else s.pisteMove e v

/-- DRAINED as it reads (R232): TEARDOWN with no record, GET or broadcast of the job outstanding. -/
def State.drained (s : State) (e : Nat) : Bool :=
  let a := s.reg (Reg.fabPisteA e)
  pisteCode a == 1 && s.fab.idleFor (bits a 3 12) && !s.ownBcast (fun b => b.job == bits a 3 12)

/-- PISTE_WRITE: a write of a piste-table entry; FAB_PISTE_B is read-only (R238, R497). -/
def execPisteWrite (pf entry : Nat) (half : Bool) (value : BitVec 64) (s : State) : Host.Outcome State Fault Refusal :=
  let e := entry % 16
  hostWrite pf (if half then Reg.fabPisteB e else Reg.fabPisteA e)
    (fun s => if half then s else s.pisteWrite e value.toNat) s

/-- QUARANTINE_END: domain A has reached QEND and the entry becomes invalid (R232). -/
def execQuarantineEnd (entry : Nat) (s : State) : Host.Outcome State Fault Refusal :=
  act (fun s => decide (entry < 16) && pisteCode (s.reg (Reg.fabPisteA entry)) == 2 &&
      decide (s.reg (Reg.fabPisteB entry) ≤ s.nowA))
    (fun s => s.pisteInvalid entry (setBits (s.reg (Reg.fabPisteA entry)) 0 1 0)) s

end Sys2Proof.Machine
end

