-- ==== Sys2Proof/Machine/Rst.lean ====
section
/-! DEFINITION. Recovery as it runs (R230, R333-R361): watchdogs, the capture with its dump and wait-for graph, the drain window, the
end of a reset, requests, and the withdrawal of a fabric tile that a reset follows. -/

namespace Sys2Proof.Machine
open Sys2Proof

/-! ### Watchdogs (R336, R337) -/

/-- Whether watchdogs run: enabled by RST_CTL and bring-up, and held by no stop. -/
def State.watching (s : State) : Bool := s.flag Reg.rstCtl 0 && s.serving && !s.stops 0

/-- The live entry that covers a domain. -/
def State.covering (s : State) (d u : Nat) : Option Nat :=
  s.recLive.find? (fun q => s.domInside d u (s.recDomain q) (s.recUnit q))

/-- A watchdog expires: counted, its fault raised, and event 0x001 with the entry the fault was placed in, the watched unit and the first
job touched (R336, R361). -/
def State.watchdog (s : State) (d u cause : Nat) (ctx : Option (Nat × Nat × Nat)) (abort : Bool) : State :=
  let job := ((s.touchedJobs (some (d, u)) ctx).head?).map (fun t => (t.1, t.2.1, t.2.2.getD 0))
  let s := (s.count Reg.rstHang).fault (some (d, u)) cause ctx abort false
  s.raise 0x3001 (8, 0) [(16, (s.covering d u).getD noIndex), (8, d), (16, u), (8, cause)] job

/-- Whether a domain is being captured or reset: its watchdogs are stopped until the reset ends (R337). -/
def State.atWork (s : State) (d u : Nat) : Bool :=
  s.recLive.any (fun q => s.recState q != 0 && s.domInside d u (s.recDomain q) (s.recUnit q))

/-- Whether a progress limit of `limit` us (0 taken as 1) has expired: microseconds end at their tick, and progress in the microsecond of
the expiry comes before it (R336, R337; DEDUCED, log 99). -/
def State.expired (s : State) (key limit : Nat) : Bool :=
  decide (1000 * ((s.lastProgress key + 999) / 1000 + max 1 limit) < s.nowA)

/-- Whether the watchdogs of a core run: it is neither captured, nor reset, nor screened, nor held by a stop. -/
def State.coreWatched (s : State) (c : Nat) : Bool :=
  decide (c < 192) && s.watching && s.coreState c == 2 && !(s.core c).package && !s.atWork domCore c && !s.coreHalted c

/-- Whether CTL of a core stands before an instruction whose queue is full: the watchdog of that queue's engine covers it (R336). -/
def State.queueStalled (s : State) (c : Nat) : Bool :=
  match Tab.find s.queues.stalls c with
  | some w => w.1 == 6
  | none => false

/-- PROGRESS_WATCHDOG: an engine with work has made no progress for RETWD us (R336). -/
def execProgressWatchdog (core engine : Nat) (s : State) : Host.Outcome State Fault Refusal :=
  act (fun s => s.coreWatched core && decide (engine < 4) && (s.core core).engineBusy engine &&
      !(engine == 0 && s.queueStalled core) && !s.atWork domEngine (4 * core + engine) && s.expired (4 * core + engine) (s.field Reg.rstCtl 2 10))
    (fun s => s.watchdog domEngine (4 * core + engine) 0x30 (s.core core).jobCtx true) s

/-- Whether the wait of CTL has passed the wait watchdog's limit: WAITWD ms of a FENCE, 10 us past the expiry of a SWAIT or
TWAIT. -/
def State.waitOverdue (s : State) (c : Nat) : Bool :=
  match (s.core c).wait with
  | .fence _ start _ => decide (start + 1000000 * max 1 (s.field Reg.rstCtl 12 12) < s.nowA)
  | .sem _ _ _ start limit _ => decide (start + limit + 10000 < s.nowA)
  | .time _ b target => decide (target + 10000 < s.nowOf b)
  | _ => false

/-- WAIT_WATCHDOG: a CTL has waited too long in FENCE, or a wait has outlived its own expiry (R336). -/
def execWaitWatchdog (core : Nat) (s : State) : Host.Outcome State Fault Refusal :=
  act (fun s => s.coreWatched core && s.waitOverdue core)
    (fun s => s.watchdog domCore core 0x31 (s.core core).jobCtx true) s


/-- NME_WATCHDOG: an NME with work has made no progress for NMEWD us (R336). -/
def execNmeWatchdog (nme : Nat) (s : State) : Host.Outcome State Fault Refusal :=
  act (fun s => decide (nme < 32) && s.watching && (s.nme nme).running && (s.nme nme).busy &&
      !s.atWork domNme nme && s.expired (0x1000 + nme) (s.field Reg.rstCtl 24 8))
    (fun s => s.watchdog domNme nme 0x32 none true) s

/-- A fault of a fabric tile silences its transmitters at once (R354). -/
def State.silence (s : State) (f : Nat) : State :=
  ((List.range 6).map (· + 6 * f)).foldl (fun (s : State) p =>
    if s.portUp p then (s.portDown p 4).setLts p 0 else s) s

/-- FABRIC_TILE_WATCHDOG: a fabric tile that holds a packet at the head of a VC whose output port holds credits for it has let none leave
for FTWD us (R336). -/
def execFabricTileWatchdog (tile : Nat) (s : State) : Host.Outcome State Fault Refusal :=
  act (fun s => decide (tile < 2) && s.watching && s.tileUp tile && !s.atWork domFabric tile && s.tileHolds tile &&
      s.expired (0x2000 + tile) (s.field Reg.rstCtl 32 8))
    (fun s => (s.silence tile).watchdog domFabric tile 0x33 none false) s

/-- FABRIC_TILE_INTERNAL_ERROR: a fabric tile in service meets an uncorrectable error (R333, R354). -/
def execFabricTileInternalError (tile : Nat) (s : State) : Host.Outcome State Fault Refusal :=
  act (fun s => decide (tile < 2) && s.tileUp tile)
    (fun s => (s.silence tile).fault (some (domFabric, tile)) 0x34 none false false) s

/-! ### Capture (R339-R342, R352) -/

/-- Nodes that can be reached from some nodes along waits in a number of steps. -/
def waitReach (edges : List (Nat × Nat × Nat × Nat)) : Nat → List Nat → List Nat
  | 0, l => l
  | fuel + 1, l =>
    let next := (edges.filter (fun e => l.contains e.1 && !l.contains e.2.1)).map (fun e => e.2.1)
    if next.isEmpty then l else waitReach edges fuel (l ++ next)

/-- The edges with CYCLE and NOTCAP, and the roots: nodes waited on that wait on nothing captured (R343). -/
def waitGraph (edges : List (Nat × Nat × Nat × Nat)) (notcap : List Nat) :
    List (Nat × Nat × Nat × Nat × Bool × Bool) × List Nat :=
  let full := edges.map (fun e =>
    (e.1, e.2.1, e.2.2.1, e.2.2.2, (waitReach edges edges.length [e.2.1]).contains e.1, notcap.contains e.2.1))
  let heads := (edges.map (fun e => e.2.1)).foldl (fun l x => if l.contains x then l else l ++ [x]) []
  (full, heads.filter (fun h => notcap.contains h || edges.all (fun e => e.1 != h)))

/-- Bytes of a snapshot slot. -/
def slotBytes : Nat := 16 * 2 ^ 20

/-- The place of the snapshot area, where RST_SNAP_BASE names a backed one (R342). -/
def State.rstSnapArea (s : State) : Option Nat :=
  let b := s.field Reg.rstSnapBase 0 48
  if b ≠ 0 ∧ s.backed b (4 * slotBytes) then some b else none

/-- The header of a dump (R426). -/
def Dump.header (d : Dump) : List Byte :=
  toBytes 8 (d.qent % 8 + d.dom % 8 * 2 ^ 3 + d.unit % 1024 * 2 ^ 6 + d.cause % 256 * 2 ^ 16 + b2n d.complete * 2 ^ 24 +
    b2n d.flashed * 2 ^ 25) ++
  toBytes 8 d.tf ++ toBytes 8 (d.job % 4096 + d.epoch % 256 * 2 ^ 12) ++ toBytes 8 (d.step % 2 ^ 48) ++
  toBytes 4 d.recseq ++ toBytes 4 64 ++ toBytes 4 d.off3 ++ toBytes 4 d.off4 ++ toBytes 4 d.off5 ++ toBytes 4 d.off6 ++
  toBytes 4 d.len ++ toBytes 4 0

/-- Writes bytes at an offset of a dump's slot, if it has one in HBM. -/
def State.dumpWrite (s : State) (d : Dump) (off : Nat) (bytes : List Byte) : State :=
  match d.base with
  | some b => s.memWrite (b + off) bytes
  | none => s

/-- Empties the trace buffers a dump held and ends HELD; their writers resume at the next launch (R423). -/
def State.releaseTraces (s : State) (cores : List Nat) : State :=
  cores.foldl (fun (s : State) c =>
    let t := s.traceBuf c
    (s.setTraceBuf c { t with recs := [], sinceSync := 0, stands := true }).setField (Reg.trcStat c) 13 1 0) s

/-- Writes the first parts of a dump in the next slot (R342, R426, R427): the header and the snapshot, its records in capture order;
no rule lays the bytes of a record out. The wait-for graph is that of the records. A dump of that slot not yet complete is given
up. -/
def State.makeDump (s : State) (d : Dump) : State :=
  let missing := (d.records.filter (fun r => r.body == .missing)).flatMap (fun r => unitNodes (r.kind, r.index))
  let g := waitGraph (d.records.flatMap (fun r => r.waits)) missing
  let n := (d.records.map CaptureRec.size).foldl (· + ·) 0
  let slot := s.field Reg.rstStat 8 2
  let base := s.rstSnapArea.map (· + slotBytes * slot)
  let k := if base.isSome then slot else 4
  let s := match Tab.find s.rst.dumps k with
    | some old => if old.complete then s else s.releaseTraces (old.cores.filter (fun c => !d.cores.contains c))
    | none => s
  let d := { d with recseq := s.nextSeq, base := base, len := 64 + n, graph := g.1, roots := g.2 }
  let s := s.dumpWrite d 0 d.header
  let s := match base with
    | some b => (s.memFree (b + 64) n).setField Reg.rstStat 8 2 (slot + 1)
    | none => s
  let s := s.setField Reg.rstStat 7 1 (b2n base.isSome)
  { s with rst := { s.rst with dumps := Tab.insert s.rst.dumps k d } }

/-- A dump with nothing in it. -/
def Dump.blank : Dump :=
  { qent := 0, dom := 0, unit := 0, cause := 0, tf := 0, job := 0, epoch := 0, step := 0, recseq := 0, base := none, len := 0,
    records := [], counters := [], graph := [], roots := [], off3 := 0, off4 := 0, off5 := 0, off6 := 0, cores := [], tiles := [], complete := false,
    flashed := false }

/-- The suspects of an entry are recorded, 16 at most; the last tells whether there were more (R352). -/
def State.suspectEvents (s : State) (q : Nat) : State :=
  let l := (s.recEntry q).suspects
  let shown := l.take 16
  shown.zipIdx.foldl (fun (s : State) x =>
    let ovf := b2n (decide (16 < l.length) && x.2 == 15)
    s.raise 0x300B (8, 0) [(16, q), (8, s.recDomain q), (16, s.recUnit q), (8, s.recCause q), (16, x.1.2.2.1), (8, ovf)]
      (some (x.1.1, x.1.2.1, x.1.2.2.2))) s

/-- The dump of an entry. -/
def State.entryDump (s : State) (q : Nat) : State :=
  let d := s.recDomain q
  let u := s.recUnit q
  let job := s.field (Reg.rstRecqA q) 22 12
  let epoch := s.field (Reg.rstRecqA q) 34 8
  let dump : Dump :=
    { Dump.blank with qent := q, dom := d, unit := u, cause := s.recCause q, tf := s.reg (Reg.rstRecqB q), job := job,
                      epoch := epoch, step := (s.recEntry q).step, records := (s.recEntry q).records, cores := s.domCores d u, tiles := domTiles d u }
  s.makeDump dump

/-- Whether the withdrawal a planned reset announced has run its 2,000 ns (R233). -/
def State.withdrawn (s : State) (f : Nat) : Bool :=
  s.flag Reg.fabStat (2 + f) && decide (Tab.get s.fab.wdT 0 f + 2000 ≤ s.nowA)

/-- CAPTURE_COMPLETE: the capture of an entry's domain is complete; its dump is written, its suspects are recorded, and its reset
starts, a planned one of a fabric tile at the end of its withdrawal (R339-R342, R352, R354). -/
def execCaptureComplete (entry : Nat) (s : State) : Host.Outcome State Fault Refusal :=
  actLive (fun s => decide (entry < 8) && s.flag (Reg.rstRecqA entry) 0 && s.recState entry == 1 && !(s.recEntry entry).captured)
    (fun s =>
      let s := (s.entryDump entry).suspectEvents entry
      let s := s.setRecEntry entry { s.recEntry entry with captured := true }
      if s.planned entry && !s.withdrawn (s.recUnit entry) then s else s.startReset entry) s

/-- Whether the record of a capture at a place holds what was read. -/
def readAt (l : List CaptureRec) (part : Nat) : Bool :=
  match l[part]? with
  | some r => r.body != .missing
  | none => false

/-- DEBUG_PORT_TIMEOUT: the debug port of a unit, by its place in capture order, does not answer within 10 us: its record holds its
header alone (R340); entry 8 stands for the capture of a global stop. -/
def execDebugPortTimeout (entry part : Nat) (s : State) : Host.Outcome State Fault Refusal :=
  act (fun s =>
      if entry = 8 then !s.gstop.capturing.isEmpty && readAt s.gstop.records part
      else decide (entry < 8) && !s.stops 0 && s.flag (Reg.rstRecqA entry) 0 && s.recState entry == 1 &&
        !(s.recEntry entry).captured && readAt (s.recEntry entry).records part)
    (fun s =>
      let s := s.count Reg.rstNotcap
      if entry = 8 then
        ({ s with gstop := { s.gstop with records := missingAt s.gstop.records part } }).raise 0x3003 (8, 0)
          [(16, 7), (8, 7), (16, part), (8, 0x3A)]
      else
        let s := s.setRecEntry entry { s.recEntry entry with records := missingAt (s.recEntry entry).records part }
        s.rstEvent 0x003 entry [(16, part)]) s

/-- Changes the dump of a slot. -/
def State.setDump (s : State) (slot : Nat) (d : Dump) : State :=
  { s with rst := { s.rst with dumps := Tab.insert s.rst.dumps slot d } }

/-- Bytes of the wait-for graph (R343). -/
def Dump.graphBytes (d : Dump) : List Byte :=
  toBytes 8 (d.graph.length % 2 ^ 32 + d.roots.length % 2 ^ 16 * 2 ^ 32) ++
  d.graph.flatMap (fun e => toBytes 4 e.1 ++ toBytes 4 e.2.1 ++ toBytes 4 e.2.2.1 ++
    toBytes 4 (e.2.2.2.1 + b2n e.2.2.2.2.1 * 2 ^ 8 + b2n e.2.2.2.2.2 * 2 ^ 9)) ++
  d.roots.flatMap (fun r => toBytes 4 r)

/-- WAIT_FOR_GRAPH_BUILT: Isrek writes the wait-for graph of a dump behind its snapshot, with its first root in event 0x002
(R343). Slot 4 is the dump that reached flash only. -/
def execWaitForGraphBuilt (slot : Nat) (s : State) : Host.Outcome State Fault Refusal :=
  act (fun s => match Tab.find s.rst.dumps slot with
      | some d => d.off3 == 0 && !d.complete
      | none => false)
    (fun s => match Tab.find s.rst.dumps slot with
      | none => s
      | some d =>
        let b := d.graphBytes
        let s := s.dumpWrite d d.len b
        let d := { d with off3 := d.len, len := d.len + b.length }
        let s := (s.dumpWrite d 0 d.header).setDump slot d
        s.raise 0x3002 (8, 0) [(16, d.qent), (8, d.dom), (16, d.unit), (8, d.cause), (32, (d.roots.head?).getD 0)]
          (if d.job = 0 then none else some (d.job, d.epoch, d.step))) s

/-! ### The reset itself (R332-R335) -/

/-- DRAIN_WINDOW_CLOSE: 2 us after a reset began, what has not drained is dropped and counted (R335); `dropped` is how much that
was. -/
def execDrainWindowClose (entry dropped : Nat) (s : State) : Host.Outcome State Fault Refusal :=
  actLive (fun s => decide (entry < 8) && s.recState entry == 2 && (s.recEntry entry).drainOpen &&
      decide ((s.recEntry entry).startedAt + 2000 ≤ s.time.count))
    (fun s =>
      let s := (s.setRecEntry entry { s.recEntry entry with drainOpen := false }).countN Reg.rstDrainDrop dropped
      if dropped = 0 then s else s.rstEvent 0x00A entry [(32, dropped)]) s

/-- NME_ABSORB_TIMEOUT: ACCs and markers have waited 50 us for an NME in reset; they are processed against its empty windows and
disarmed handles (R334). -/
def execNmeAbsorbTimeout (nme : Nat) (s : State) : Host.Outcome State Fault Refusal :=
  actLive (fun s => decide (nme < 32) && !(s.nme nme).running && (List.range 8).any (fun q =>
      s.flag (Reg.rstRecqA q) 0 && s.recState q == 2 && (s.recNmes q).contains nme &&
      decide ((s.recEntry q).startedAt + 50000 ≤ s.time.count)))
    (fun s => (s.releaseHeld nme).settle 64) s

/-- An NME returns to service: held packets are processed, an interrupted ring command runs again (R334). -/
def State.nmeReady (s : State) (i : Nat) : State :=
  let m := s.nme i
  ((s.setNme i { m with running := true }).setFlag (Reg.nmeStat i) 0).releaseHeld i

/-- A core's reset ends: its clock runs, a quarantined one stays UNAVAILABLE, any other is IDLE with its pending level applied, and
the Groomer may take it (R319, R321, R332). -/
def State.coreOut (s : State) (c : Nat) : State :=
  let s := if s.coreState c = 4 then (s.setCoreState c 0).ensureClock 1 c else s
  match s.physOf c with
  | some p => (if s.flag (Reg.grmCore p) 6 then s.applyLevel p else s).groom p
  | none => s

/-- A fabric tile's reset ends: its clock runs, it is up, and its enabled ports enter LT0 (R332, R212). -/
def State.fabricOut (s : State) (f : Nat) : State :=
  let s := ((s.setFlag Reg.fabStat f).setField Reg.rstStat (18 + f) 1 0).ensureClock 5 f
  ((List.range 6).map (· + 6 * f)).foldl (fun (s : State) p => if s.flag (Reg.fabPortCtl p) 0 then s.startTraining p else s) s

/-- Whether a domain's spares are still being screened (R321). -/
def State.spareBusy (s : State) (d u : Nat) : Bool :=
  s.grm.runs.any (fun e => e.2.why == .spare && (d == domDevice || (d == domPartition && e.1 / 25 == u)))

/-- The units of a domain come out of reset. -/
def State.domOut (s : State) (q : Nat) : State :=
  let d := s.recDomain q
  let u := s.recUnit q
  let cores := s.domCores d u
  let s := { s with fab := { s.fab with ghosts := s.fab.ghosts.filter (fun r => match r.coreOf with
    | some c => !cores.contains c
    | none => true) } }
  if d = domDevice then
    let s := (List.range 8).foldl (fun (s : State) n => s.setField Reg.rstStat (10 + n) 1 0) s
    if s.flag Reg.hifBs 7 then cores.foldl State.coreOut s else s
  else
    let s := (s.recNmes q).foldl State.nmeReady s
    let s := if d = domPartition then s.setField Reg.rstStat (10 + u) 1 0 else s
    let s := if d = domFabric then s.fabricOut u else s
    (cores.foldl State.coreOut s).settle 64

/-- RESET_COMPLETE: the reset of an entry's domain ends: its units return to service, `absorbed` arrivals not otherwise counted are
counted, and the controller takes the next entry (R332-R334, R344). A device reset ends with its bring-up. -/
def execResetComplete (entry absorbed : Nat) (s : State) : Host.Outcome State Fault Refusal :=
  actLive (fun s => decide (entry < 8) && s.flag (Reg.rstRecqA entry) 0 && s.recState entry == 2 &&
      decide ((s.recEntry entry).startedAt + 2000 ≤ s.time.count) && !s.spareBusy (s.recDomain entry) (s.recUnit entry) &&
      !(s.recDomain entry == domDevice && s.host.running))
    (fun s =>
      let s := (s.setField (Reg.rstRecqA entry) 42 3 3).count Reg.rstResets
      let s := s.countN Reg.rstAbsorb absorbed
      let s := s.setRecEntry entry { s.recEntry entry with drainOpen := false }
      let s := s.rstEvent 0x005 entry []
      let recent := s.rst.ended.filter (fun e => decide (s.time.count ≤ e.2.2.2 + 1000000000))
      let this := ((s.recEntry entry).faults ++ [(s.recDomain entry, s.recUnit entry, s.recCause entry)]).map (fun f => (f.1, f.2.1, f.2.2, s.time.count))
      let s := { s with rst := { s.rst with ended := recent ++ this } }
      (s.domOut entry).startNext) s

/-! ### Withdrawal and the reset behind it (R233, R354) -/

/-- TRAINING_STATE_COMPLETE: a training state finishes its action; LT3 waits for a latched identity (R212, R236). A planned reset
of the other tile that waited for the ports may then start (R354). -/
def execTrainingStateComplete (port : Nat) (found : TrainResult) (s : State) : Host.Outcome State Fault Refusal :=
  act (fun s => decide (port < 12) && decide (1 ≤ s.training port ∧ s.training port ≤ 6) &&
      (s.training port != 4 || s.identityReady) && s.flag (Reg.fabPortCtl port) 0 && s.tileUp (port / 6))
    (fun s => (s.trainDone port found).startNext) s

/-- The planned entry of a fabric tile at work. -/
def State.plannedOf (s : State) (f : Nat) : Option Nat :=
  s.recLive.find? (fun q => s.planned q && s.recUnit q == f && s.recState q == 1)

/-- Whether a device reset runs. -/
def State.deviceInReset (s : State) : Bool := s.recLive.any (fun q => s.recDomain q == domDevice && s.recState q == 2)

/-- A withdrawal that no entry asked for ends in a reset of its own entry, behind its capture (R233, R237, R339). -/
def State.withdrawEntry (s : State) (f : Nat) : State :=
  match (if s.recLive.length = 8 then none else s.freeEntry) with
  | some q =>
    let s := s.newEntry q domFabric f 0x38 (0, 0, 0) true
    (if s.flag Reg.rstCtl 1 then (s.setField (Reg.rstRecqA q) 42 3 1).captureBegin q else s.startReset q).rstRefresh
  | none => s.fault (some (domFabric, f)) 0x38 none false true

/-- WITHDRAW_RESET: at T + 2,000 ns the packets left in a tile that withdraws are dropped and it enters reset (R233), as
part of a device reset where one runs (R334). -/
def execWithdrawReset (tile : Nat) (s : State) : Host.Outcome State Fault Refusal :=
  actLive (fun s => decide (tile < 2) && s.withdrawn tile && s.host.offlineT.isNone &&
      (match s.plannedOf tile with
       | some q => (s.recEntry q).captured
       | none => true))
    (fun s => match s.plannedOf tile with
      | some q => s.startReset q
      | none => if s.deviceInReset then (s.fabricReset tile).setFlag Reg.rstStat (18 + tile) else s.withdrawEntry tile) s

/-! ### Requests (R353, R358) -/

/-- Units of a domain code. -/
def unitsOf (d : Nat) : Nat :=
  if d = domEngine then 768 else if d = domCore then 192 else if d = domCluster then 40 else if d = domPartition then 8
  else if d = domFabric then 2 else if d = domNme then 32 else if d = domDevice then 1 else 0

/-- A requested device reset during a stop of the whole module is worked on first: what is queued is merged into it (R431). -/
def State.overStop (s : State) (d : Nat) : State :=
  if s.stops 0 && d == domDevice then
    s.recLive.foldl (fun (s : State) q => s.setField (Reg.rstRecqA q) 42 3 4) s
  else s

/-- A write of RST_REQ (R358). -/
def State.rstReqWrite (s : State) (v : Nat) : State :=
  let d := bits v 0 3
  let u := bits v 3 10
  if bit v 14 ∧ u < unitsOf d then (s.overStop d).fault (some (d, u)) 0x38 none (bit v 13) true else s

/-- RST_REQ: software requests a reset (R333, R358). -/
def execRstReq (pf : Nat) (value : BitVec 64) (s : State) : Host.Outcome State Fault Refusal :=
  hostWrite pf Reg.rstReq (fun s => s.rstReqWrite value.toNat) s

/-- A write of RST_ISOL (R353, R358). -/
def State.rstIsolWrite (s : State) (v : Nat) : State :=
  let k := Reg.rstIsol
  let repro := if bit v 42 then 0 else s.field k 42 1
  (s.setReg k (v % 2 ^ 42 + repro * 2 ^ 42)).setField Reg.rstStat 6 1 v

/-- RST_ISOL_WRITE: an isolation trial is set up or ended (R353). -/
def execRstIsolWrite (pf : Nat) (value : BitVec 64) (s : State) : Host.Outcome State Fault Refusal :=
  hostWrite pf Reg.rstIsol (fun s => s.rstIsolWrite value.toNat) s

end Sys2Proof.Machine
end

