-- ==== Sys2Proof/Machine/Time.lean ====
section
/-! DEFINITION. The time unit (R243-R262): how the two domains are set, slewed and re-rated, the servo, the time messages that arrive,
their timers, the switch of domain A to B, and the clock regions. -/

namespace Sys2Proof.Machine
open Sys2Proof

/-! ### Parameters of a domain (R244-R246) -/

/-- Division rounded to nearest, ties away from zero, by a divisor that is not 0. -/
def roundDiv (num den : Int) : Int :=
  let n := num.natAbs
  let d := den.natAbs
  let q : Int := (((2 * n + d) / (2 * d) : Nat) : Int)
  if (num < 0) == (den < 0) then q else -q

/-- The domain re-based at a count: its value there is unchanged (R245). -/
def TimeDomain.rebase (d : TimeDomain) (c : Nat) : TimeDomain := { d with base := d.value c, cref := c }

/-- Gives a domain a rate; a switch under METHOD 0 has A follow every rate of B (R245, R260). -/
def State.setRate (s : State) (b : Bool) (r : Int) : State :=
  let set (s : State) (b : Bool) : State := s.setDomain b { (s.domain b).rebase s.time.count with rate := r }
  let s := set s b
  match s.time.switch with
  | some w => if b && !w.meet then set s false else s
  | none => s

/-- Gives a domain a remaining slew (R245). -/
def State.setSlew (s : State) (b : Bool) (v : Int) : State :=
  s.setDomain b { s.domain b with slew := v, slewAt := s.time.count, slewSteps := 0 }

/-- SET of a domain: the remaining slew is cleared, but for one given in the same count, which takes effect after it (R245). -/
def State.setBase (s : State) (b : Bool) (v : Nat) : State :=
  let d := s.domain b
  s.setDomain b { d with base := v, cref := s.time.count, slew := if d.slewAt = s.time.count then d.slew else 0, least := none }

/-- Whether any piste-table entry is valid. -/
def State.anyPiste (s : State) : Bool := (List.range 16).any (fun e => s.flag (Reg.fabPisteA e) 0)

/-- Domain A steps to a value while no piste entry is valid (R246): event 0x8008, and limits that are durations from a start, those of
SWAIT and FENCE, of the watchdogs and of a freeze, keep what they had left. -/
def State.stepA (s : State) (v : Nat) : State :=
  let old := s.nowA
  let s := s.setBase false v
  let s := s.raise 0x8008 (8, 0) [(64, old), (64, v)]
  let moved (t : Nat) : Nat := ((t : Int) + v - old).toNat
  let s := { s with queues := { s.queues with progress := s.queues.progress.map (fun e => (e.1, max 1 (moved e.2))) },
                    recorder := { s.recorder with frzFrom := moved s.recorder.frzFrom } }
  (List.range 192).foldl (fun (s : State) c =>
    match (s.core c).wait with
    | .sem x n th start limit began => s.modCore c (fun k => { k with wait := .sem x n th (moved start) limit began })
    | .fence x start began => s.modCore c (fun k => { k with wait := .fence x (moved start) began })
    | _ => s) s

/-- SLEW_STEP: a step point has come and 1 ns of the remaining slew moves into BASE; a negative one in a count in which the
unslewed value advances (R245). -/
def execSlewStep (domain : Bool) (s : State) : Host.Outcome State Fault Refusal :=
  act (fun s =>
      let d := s.domain domain
      d.slew != 0 && decide (d.slewAt + 4096 * (d.slewSteps + 1) ≤ s.time.count) &&
      (decide (0 < d.slew) || (decide (0 < s.time.count) && decide (d.formula (s.time.count - 1) < d.formula s.time.count))))
    (fun s =>
      let d := s.domain domain
      let up := decide (0 < d.slew)
      let base := if up then (d.base + 1) % 2 ^ 64 else (d.base + (2 ^ 64 - 1)) % 2 ^ 64
      let slew := if up then d.slew - 1 else d.slew + 1
      s.setDomain domain { d with base := base, slew := slew, slewSteps := d.slewSteps + 1 }) s

/-- A write of TIME_SET: refused for A while a piste entry is valid, and for B while it is the source of a switch (R245, R246). -/
def State.timeSetWrite (s : State) (b : Bool) (v : Nat) : State :=
  if (!b && s.anyPiste) || (b && s.time.switch.isSome) then
    (s.count Reg.timeSetRefused).raise 0x8003 (8, 0) [(8, b2n b)]
  else if b then s.setBase true v
  else s.stepA v

/-- TIME_SET_WRITE (R246). -/
def execTimeSetWrite (pf : Nat) (domain : Bool) (value : BitVec 64) (s : State) : Host.Outcome State Fault Refusal :=
  hostWrite pf (Reg.timeSet domain) (fun s => s.timeSetWrite domain value.toNat) s

/-- Whether the servo owns a domain: ROLE = FOLLOWER. -/
def State.follows (s : State) (b : Bool) : Bool := s.field (Reg.timeCfg b) 0 2 == 1

/-- A write of TIME_RATE (R245, R268). -/
def State.timeRateWrite (s : State) (b : Bool) (v : Nat) : State :=
  if s.follows b then s else s.setRate b (signed (v % 2 ^ 32) 32)

/-- TIME_RATE_WRITE: the domain is re-based at the new rate (R245). -/
def execTimeRateWrite (pf : Nat) (domain : Bool) (value : BitVec 64) (s : State) : Host.Outcome State Fault Refusal :=
  hostWrite pf (Reg.timeRate domain) (fun s => s.timeRateWrite domain value.toNat) s

/-- A write of TIME_SLEW (R245, R268). -/
def State.timeSlewWrite (s : State) (b : Bool) (v : Nat) : State :=
  if s.follows b || s.time.switch.isSome then s else s.setSlew b (signed (v % 2 ^ 32) 32)

/-- TIME_SLEW_WRITE: the remaining slew is set (R245). -/
def execTimeSlewWrite (pf : Nat) (domain : Bool) (value : BitVec 64) (s : State) : Host.Outcome State Fault Refusal :=
  hostWrite pf (Reg.timeSlew domain) (fun s => s.timeSlewWrite domain value.toNat) s

/-! ### States of a domain (R256) -/

/-- State codes. -/
def tsFree : Nat := 0
def tsAcquire : Nat := 1
def tsLocked : Nat := 2
def tsHoldover : Nat := 3
def tsMaster : Nat := 4

/-- The state of a domain. -/
def State.timeState (s : State) (b : Bool) : Nat := s.field Reg.timeStat (if b then 3 else 0) 3

/-- Its grandmaster node. -/
def State.grandmaster (s : State) (b : Bool) : Nat := s.field Reg.timeStat (if b then 24 else 9) 15

/-- Writes the grandmaster node. -/
def State.setGrandmaster (s : State) (b : Bool) (n : Nat) : State := s.setField Reg.timeStat (if b then 24 else 9) 15 n

/-- stepsRemoved of a domain. -/
def State.setSteps (s : State) (b : Bool) (n : Nat) : State :=
  let s := s.setDomain b { s.domain b with steps := n }
  if b then s else s.setField Reg.timeStat 39 8 (min n 255)

/-- Domain A enters or keeps a state; HOLDOVER clears the remaining slew, is counted and recorded. -/
def State.holdover (s : State) (b : Bool) : State :=
  let s := s.setDomain b { s.domain b with slew := 0 }
  let s := (s.setField Reg.timeStat (if b then 3 else 0) 3 tsHoldover).count Reg.timeHoldover
  s.raise 0x8001 (8, 0) [(8, b2n b), (16, s.grandmaster b)]

/-- A's entry to HOLDOVER sets B to follow A's parent under A's number where AUTOB holds; B acquires unless it follows already (R256). -/
def State.autoB (s : State) : State :=
  if s.flag Reg.timeCtl 0 then
    let s := s.setField (Reg.timeCfg true) 0 13 (1 + s.field (Reg.timeCfg false) 2 11 * 4)
    if s.timeState true = tsFree ∨ s.timeState true = tsMaster then
      (s.setDomain true { s.domain true with syncs := 0, good := 0 }).setField Reg.timeStat 3 3 tsAcquire
    else s
  else s

/-- A switch ends without completing: A keeps its parameters, stays at what it showed, and a FOLLOWER enters HOLDOVER (R260). -/
def State.switchEnd (s : State) : State :=
  match s.time.switch with
  | none => s
  | some w =>
    let shown := s.nowA
    let s := { s with time := { s.time with switch := none, a := { s.time.a with least := some shown } } }
    let s := (s.setField Reg.timeStat 6 1 0).raise 0x8006 (8, 0) [(64, (w.delta % (2 : Int) ^ 64).toNat)]
    if s.follows false then (s.holdover false).autoB else s

/-- Gives a domain a state; B leaving LOCKED and MASTER ends a switch. -/
def State.setTimeState (s : State) (b : Bool) (st : Nat) : State :=
  let s := s.setField Reg.timeStat (if b then 3 else 0) 3 st
  if b ∧ st ≠ tsLocked ∧ st ≠ tsMaster then s.switchEnd else s

/-- A domain starts to acquire. -/
def State.acquire (s : State) (b : Bool) : State :=
  (s.setDomain b { s.domain b with syncs := 0, good := 0 }).setTimeState b tsAcquire

/-- A domain locks, with event 0x8002. -/
def State.lock (s : State) (b : Bool) : State :=
  (s.setTimeState b tsLocked).raise 0x8002 (8, 0) [(8, b2n b), (16, s.grandmaster b)]

/-- What a write of ROLE does (R256): 0 and 3 FREE, 1 FOLLOWER, 2 MASTER. -/
def State.setRole (s : State) (b : Bool) (role : Nat) : State :=
  let st := s.timeState b
  if role = 1 then (if st = tsFree ∨ st = tsMaster then s.acquire b else s)
  else if role = 2 then ((s.setGrandmaster b s.own.node).setSteps b 0).setTimeState b tsMaster
  else s.setTimeState b tsFree

/-- HOLDOVER of a domain; A's sets B to follow A's parent where AUTOB holds, B's ends a switch (R256, R260). -/
def State.enterHoldover (s : State) (b : Bool) : State :=
  let s := s.holdover b
  if b then s.switchEnd
  else
    let s := s.autoB
    if s.timeState true = tsLocked ∨ s.timeState true = tsMaster then s else s.switchEnd

/-- A write of TIME_CFG: A's is ignored while a switch runs (R256, R260). -/
def State.timeCfgWrite (s : State) (b : Bool) (v : Nat) : State :=
  if !b && s.time.switch.isSome then s
  else (s.setReg (Reg.timeCfg b) (v % 2 ^ 25)).setRole b (v % 4)

/-- TIME_CFG_WRITE: ROLE moves a domain to FREE, ACQUIRE or MASTER (R256). -/
def execTimeCfgWrite (pf : Nat) (domain : Bool) (value : BitVec 64) (s : State) : Host.Outcome State Fault Refusal :=
  hostWrite pf (Reg.timeCfg domain) (fun s => s.timeCfgWrite domain value.toNat) s

/-! ### The servo (R254, R256, R257) -/

/-- Saturates to a signed field of a width. -/
def saturate (w : Nat) (v : Int) : Int := max (-(2 : Int) ^ (w - 1)) (min v ((2 : Int) ^ (w - 1) - 1))

/-- The servo's update for an offset, given the origin time: phase, then frequency (R257). A frequency over no time is free. -/
def State.servoStep (s : State) (b : Bool) (o t1 : Int) : State :=
  let s := s.setSlew b (-roundDiv o 16)
  let span := t1 - (s.domain b).lastT1
  if span = 0 then
    let f := s.fresh
    f.2.setRate b (signed (f.1 % 2 ^ 32) 32)
  else s.setRate b (saturate 32 ((s.domain b).rate - roundDiv (o * 2 ^ 40) (span * 2 ^ s.field Reg.timeCtl 9 3)))

/-- Whether an offset lies within LOCKTH. -/
def State.offsetGood (s : State) (o : Int) : Bool := decide (o.natAbs ≤ s.field Reg.timeCtl 1 8)

/-- The first Sync of ACQUIRE steps the domain by -o, or slews A while a piste entry is valid. -/
def State.firstSync (s : State) (b : Bool) (o : Int) : State :=
  let r := roundDiv o 16
  let v := (((s.nowD b : Int) - r) % (2 : Int) ^ 64).toNat
  if b then s.setBase true v
  else if s.anyPiste then s.setSlew false (-r)
  else s.stepA v

/-- A Sync accepted in ACQUIRE; the rate the second one sets has no formula and is free. -/
def State.acquireSync (s : State) (b : Bool) (o t1 : Int) : State :=
  let n := (s.domain b).syncs
  let s := if n = 0 then s.firstSync b o
    else if n = 1 then
      let f := s.fresh
      f.2.setRate b (signed (f.1 % 2 ^ 32) 32)
    else s.servoStep b o t1
  let d := s.domain b
  let good := if s.offsetGood o then d.good + 1 else 0
  let s := s.setDomain b { d with syncs := n + 1, good := good, lastT1 := t1 }
  if 16 ≤ good then s.lock b else s

/-- A Sync accepted by the servo of a domain. -/
def State.servo (s : State) (b : Bool) (o t1 : Int) : State :=
  let st := s.timeState b
  if st = tsAcquire then s.acquireSync b o t1
  else if st = tsLocked then
    if 16000 < o.natAbs then (if b then s.acquire true else s.enterHoldover false)
    else
      let s := s.servoStep b o t1
      s.setDomain b { s.domain b with lastT1 := t1 }
  else if st = tsHoldover then
    let same := match (s.domain b).announced with
      | some n => n == s.grandmaster b
      | none => true
    if same && decide (o.natAbs ≤ 16000) then
      let s := s.setSlew b (-roundDiv o 16)
      (s.setDomain b { s.domain b with lastT1 := t1 }).lock b
    else s
  else s

/-! ### Messages received (R252-R254) -/

/-- The port a domain takes its parent's messages from (R259). -/
def State.parentPort (s : State) (b : Bool) : Option Nat :=
  let d := s.field (Reg.timeCfg b) 2 3
  if d < 6 then some (if s.portUp d then d else d + 6) else none

/-- A value as a signed field holds it; one it cannot hold is free. -/
def State.fitField (s : State) (w : Nat) (v : Int) : Nat × State :=
  if saturate w v = v then ((v % (2 : Int) ^ w).toNat, s)
  else
    let f := s.fresh
    (f.1 % 2 ^ w, f.2)

/-- A Sync has met its Follow_Up for a domain that follows its port: TIME_OFFS, and the servo unless a switch suspends it. -/
def State.syncAccept (s : State) (b : Bool) (port seqid : Nat) (o t1 : Int) : State :=
  if !(s.follows b && s.parentPort b == some port) then s
  else
    let f := s.fitField 32 o
    let s := f.2.setReg (Reg.timeOffs b) (f.1 + seqid % 2 ^ 16 * 2 ^ 32)
    let s := (s.count Reg.timeSyncRx).setField Reg.timeStat (if b then 8 else 7) 1 (port / 6)
    let s := s.setDomain b { s.domain b with lastSync := s.time.count }
    if !b && s.time.switch.isSome then s else s.servo b o t1

/-- A Sync has met its Follow_Up (R254): the port's measurement, then every domain of its number. -/
def State.syncDone (s : State) (port : Nat) (w : TimeWait) (t1 : Int) : State :=
  let mpd : Int := (s.field (Reg.timePmeas port) 0 24 : Nat)
  let offset (b : Bool) : Int := (if b then w.stampB else w.stampA) - (t1 + mpd)
  let pm := s.flag Reg.timeCtl 20
  let s :=
    if w.domnum = s.domNum pm then
      (s.setField (Reg.timePmeas port) 24 24 ((saturate 24 (offset pm)) % (2 : Int) ^ 24).toNat).setFlag (Reg.timePmeas port) 49
    else s
  let serves (b : Bool) (s : State) : State := if w.domnum = s.domNum b then s.syncAccept b port w.seqid (offset b) t1 else s
  serves true (serves false s)

/-- Whether the head of a buffer is a time message. -/
def State.timeIs (s : State) (port vc sub : Nat) : Bool :=
  match s.head port vc with
  | some r => decide (port < 12) && r.packet.type == tyCtrl && r.packet.sub == sub && (r.packet.linkLocal || s.isHome port r.packet)
  | none => false

/-- Takes a time message out of its buffer: a link-local one was checked by HCRC only (R215); one whose DOMNUM is of neither domain
is counted (R252). -/
def State.timeTake (s : State) (port vc : Nat) (f : RxPacket → State → State) : State :=
  let g (r : RxPacket) (s : State) : State :=
    let n := r.packet.ext 4 8
    if n ≠ s.domNum false ∧ n ≠ s.domNum true then s.count Reg.timeDiscDom else f r s
  match s.head port vc with
  | none => s
  | some r => if r.packet.linkLocal then g r (s.popHead port vc) else s.arrive port vc false g

/-- The stamp a message carries, in 2^-4 ns. -/
def timeOrigin (p : Packet) : Int := ((16 * p.ext 32 64 + p.ext 96 64 / 2 ^ 12 : Nat) : Int)

/-- SYNC: a Sync takes its ingress stamps; its offset is computed once its Follow_Up is there (R252, R254). -/
def execSync (port vc : Nat) (s : State) : Host.Outcome State Fault Refusal :=
  act (fun s => s.timeIs port vc 0x10) (fun s => s.timeTake port vc (fun r s =>
    let num := r.packet.ext 4 8
    let w : TimeWait := { domnum := num, seqid := r.packet.ext 12 16, stampA := r.stampA, stampB := r.stampB, count := s.time.count }
    let t := s.timePort port
    match t.follows.find? (fun f => f.domnum == num && f.seqid == w.seqid) with
    | some f => (s.setTimePort port { t with follows := t.follows.filter (· != f) }).syncDone port w f.origin
    | none => s.setTimePort port { t with syncs := t.syncs.filter (fun x => x.domnum != num) ++ [w] })) s

/-- FOLLOW_UP: the origin time of a Sync (R252). -/
def execFollowUp (port vc : Nat) (s : State) : Host.Outcome State Fault Refusal :=
  act (fun s => s.timeIs port vc 0x11) (fun s => s.timeTake port vc (fun r s =>
    let num := r.packet.ext 4 8
    let f : TimeFollow := { domnum := num, seqid := r.packet.ext 12 16, origin := timeOrigin r.packet, count := s.time.count }
    let t := s.timePort port
    match t.syncs.find? (fun w => w.domnum == num && w.seqid == f.seqid) with
    | some w => (s.setTimePort port { t with syncs := t.syncs.filter (· != w) }).syncDone port w f.origin
    | none => s.setTimePort port { t with follows := t.follows ++ [f] })) s

/-- PDELAY_REQ: answered with its receipt time (R252). -/
def execPdelayReq (port vc : Nat) (s : State) : Host.Outcome State Fault Refusal :=
  act (fun s => s.timeIs port vc 0x12) (fun s => s.timeTake port vc (fun r s =>
    let num := r.packet.ext 4 8
    let t2 : Int := if num = s.domNum false then r.stampA else r.stampB
    s.timeSend port 0x13 num (r.packet.ext 12 16)
      (timeStamp t2 ++ [(448, 15, r.packet.src), (463, 4, port / 6 * 6 + (port % 6 ^^^ 1))]))) s

/-- The mean path delay of a complete exchange (R254); half a unit, and what MPD cannot hold, is free. -/
def State.pdelayDone (s : State) (port seq : Nat) (t1 t2 t3 t4 : Int) : State :=
  let t := s.timePort port
  let d := (t4 - t1) - (t3 - t2)
  let f := s.fresh
  let m := d / 2 + (if d % 2 = 0 then 0 else ((f.1 % 2 : Nat) : Int))
  let v := if 0 ≤ m ∧ m < (2 : Int) ^ 24 then m.toNat else f.1 / 2 % 2 ^ 24
  let s := if d % 2 = 0 ∧ 0 ≤ m ∧ m < (2 : Int) ^ 24 then s else f.2
  let s := s.setTimePort port
    { t with pds := t.pds.filter (fun x => x.seq != seq), pdFollows := t.pdFollows.filter (fun f => !(f.own && f.seqid == seq)) }
  (s.setField (Reg.timePmeas port) 0 24 v).setFlag (Reg.timePmeas port) 48

/-- Whether an answer names this module and the port it came to. -/
def State.answersHere (s : State) (port : Nat) (p : Packet) : Bool := p.ext 160 15 == s.own.node && p.ext 175 4 == port

/-- The exchange open on a port that an answer belongs to. -/
def State.answers (s : State) (port : Nat) (p : Packet) : Option Pdelay :=
  if s.answersHere port p then (s.timePort port).pds.find? (fun x => x.seq == p.ext 12 16) else none

/-- PDELAY_RESP: the responder's receipt time (R254). -/
def execPdelayResp (port vc : Nat) (s : State) : Host.Outcome State Fault Refusal :=
  act (fun s => s.timeIs port vc 0x13) (fun s => s.timeTake port vc (fun r s =>
    match s.answers port r.packet with
    | none => s
    | some x =>
      let t := s.timePort port
      match x.t1, t.pdFollows.find? (fun f => f.own && f.seqid == x.seq) with
      | some t1, some f => s.pdelayDone port x.seq t1 (timeOrigin r.packet) f.origin r.stampA
      | _, _ => s.setTimePort port { t with pds := t.pds.map (fun y =>
          if y.seq = x.seq then { y with t2 := some (timeOrigin r.packet), t4 := (r.stampA : Int) } else y) })) s

/-- PDELAY_RESP_FOLLOW_UP: the exchange is complete and the mean path delay computed (R254). -/
def execPdelayRespFollowUp (port vc : Nat) (s : State) : Host.Outcome State Fault Refusal :=
  act (fun s => s.timeIs port vc 0x14) (fun s => s.timeTake port vc (fun r s =>
    let t := s.timePort port
    let f : PdFollow :=
      { own := s.answersHere port r.packet, seqid := r.packet.ext 12 16, origin := timeOrigin r.packet, count := s.time.count }
    match s.answers port r.packet with
    | some { seq := seq, t1 := some t1, t2 := some t2, t4 := t4, .. } => s.pdelayDone port seq t1 t2 f.origin t4
    | _ => s.setTimePort port { t with pdFollows := t.pdFollows ++ [f] })) s

/-- The grandmaster data a parent announces for a domain (R256): a new grandmaster sends A to HOLDOVER and B to ACQUIRE. -/
def State.announceTo (s : State) (b : Bool) (port gm steps : Nat) : State :=
  if !(s.follows b && s.parentPort b == some port) then s
  else
    let st := s.timeState b
    let fresh := match (s.domain b).announced with | some n => n != gm | none => false
    let s := (s.setDomain b { s.domain b with announced := some gm }).setSteps b (steps + 1)
    if st = tsLocked && fresh then
      if b then (s.setGrandmaster true gm).acquire true else s.enterHoldover false
    else if st = tsHoldover then s
    else s.setGrandmaster b gm

/-- ANNOUNCE: grandmaster data of the parent (R251, R256). -/
def execAnnounce (port vc : Nat) (s : State) : Host.Outcome State Fault Refusal :=
  act (fun s => s.timeIs port vc 0x15) (fun s => s.timeTake port vc (fun r s =>
    let to' (b : Bool) (s : State) : State :=
      if r.packet.ext 4 8 = s.domNum b then s.announceTo b port (r.packet.ext 56 15) (r.packet.ext 72 16) else s
    to' true (to' false s))) s

/-! ### Timers (R252, R256) -/

/-- A signed log2 interval of 8 bits as its negative: k for 2^-k s, `dflt` where it lies outside its range. -/
def logInterval (v lo hi dflt : Nat) : Nat :=
  let k := (256 - v) % 256
  if lo ≤ k ∧ k ≤ hi then k else dflt

/-- Whether 2^-k s have passed since a count. -/
def State.passed (s : State) (k since : Nat) : Bool := decide (10 ^ 9 ≤ 2 ^ k * (s.time.count - since))

/-- LOGSYNC of a domain, as its negative. -/
def State.logSync (s : State) (b : Bool) : Nat := logInterval (s.field (Reg.timeCfg b) 17 8) 4 12 10

/-- Sends a Sync, and with every 16th an Announce, on a port. What PRIO1 and CLASS hold is not stated. -/
def State.sendSync (s : State) (b : Bool) (announce : Bool) (port : Nat) : State :=
  let d := s.domain b
  let s := s.timeSend port 0x10 (s.domNum b) d.seqid []
  let t := s.timePort port
  let s := s.setTimePort port { t with outSyncs := t.outSyncs ++ [(b, d.seqid)] }
  if announce then
    let f := s.fresh
    f.2.timeSend port 0x15 (s.domNum b) d.seqid
      [(320, 8, f.1), (328, 8, f.1 / 256), (344, 15, s.grandmaster b), (360, 16, d.steps)]
  else s

/-- SYNC_SEND_TIMER: a LOCKED or MASTER domain sends Sync, its Follow_Up and every 16 Syncs Announce on every UP port (R252). -/
def execSyncSendTimer (domain : Bool) (s : State) : Host.Outcome State Fault Refusal :=
  act (fun s => (s.timeState domain == tsLocked || s.timeState domain == tsMaster) &&
      s.passed (s.logSync domain) (s.domain domain).lastSend)
    (fun s =>
      let d := s.domain domain
      let s := ((List.range 12).filter s.portUp).foldl (fun s p => s.sendSync domain (d.sends % 16 == 0) p) s
      s.setDomain domain { d with seqid := (d.seqid + 1) % 2 ^ 16, sends := d.sends + 1, lastSend := s.time.count }) s

/-- PDELAY_SEND_TIMER: a Pdelay_Req leaves an UP port every 2^LOGPD s (R252). -/
def execPdelaySendTimer (port : Nat) (s : State) : Host.Outcome State Fault Refusal :=
  act (fun s => decide (port < 12) && s.portUp port &&
      s.passed (logInterval (s.field Reg.timeCtl 12 8) 0 8 4) (s.timePort port).pdCount)
    (fun s =>
      let t := s.timePort port
      let seq := (t.pdSeq + 1) % 2 ^ 16
      let x : Pdelay := { seq := seq, t1 := none, t2 := none, t4 := 0, count := s.time.count }
      let s := s.setTimePort port { t with pdSeq := seq, pds := t.pds ++ [x], pdCount := s.time.count }
      s.timeSend port 0x12 (s.domNum false) seq []) s

/-- Whether an exchange has had no complete response within 10 ms, or a follow-up no message within 1 ms (R252). -/
def State.pdelayOld (s : State) (x : Pdelay) : Bool := decide (x.count + 10000000 < s.time.count)
def State.followOld (s : State) (count : Nat) : Bool := decide (count + 1000000 < s.time.count)

/-- PDELAY_TIMEOUT: exchanges without a complete response within 10 ms have failed; the port keeps its delay (R252). -/
def execPdelayTimeout (port : Nat) (s : State) : Host.Outcome State Fault Refusal :=
  act (fun s => decide (port < 12) && (s.timePort port).pds.any s.pdelayOld)
    (fun s =>
      let t := s.timePort port
      let s1 := s.setTimePort port { t with pds := t.pds.filter (fun x => !s.pdelayOld x) }
      s1.countN Reg.timePdFail (t.pds.filter s.pdelayOld).length) s

/-- FOLLOW_UP_TIMEOUT: follow-ups without their message within 1 ms are discarded (R252). -/
def execFollowUpTimeout (port : Nat) (s : State) : Host.Outcome State Fault Refusal :=
  act (fun s => decide (port < 12) &&
      ((s.timePort port).follows.any (fun f => s.followOld f.count) || (s.timePort port).pdFollows.any (fun f => s.followOld f.count)))
    (fun s =>
      let t := s.timePort port
      let n := (t.follows.filter (fun f => s.followOld f.count)).length + (t.pdFollows.filter (fun f => s.followOld f.count)).length
      let s1 := s.setTimePort port { t with follows := t.follows.filter (fun f => !s.followOld f.count),
                                            pdFollows := t.pdFollows.filter (fun f => !s.followOld f.count) }
      s1.countN Reg.timeDiscSeq n) s

/-- SYNC_LOSS_TIMEOUT: LOSS Sync intervals are over without an accepted Sync, one of the count in which the limit expires among them,
and a LOCKED domain enters HOLDOVER (R256). -/
def execSyncLossTimeout (domain : Bool) (s : State) : Host.Outcome State Fault Refusal :=
  act (fun s => s.timeState domain == tsLocked &&
      decide (10 ^ 9 * max 1 (s.field (Reg.timeCfg domain) 13 4) <
        2 ^ s.logSync domain * (s.time.count - (s.domain domain).lastSync)))
    (fun s => s.enterHoldover domain) s

/-! ### Switching A to B (R260, R261) -/

/-- B - A now. -/
def State.timeDelta (s : State) : Int := (s.nowB : Int) - (s.nowA : Int)

/-- A write of TIME_SWITCH (R260): GO with METHOD. -/
def State.timeSwitchWrite (s : State) (v : Nat) : State :=
  let d := s.timeDelta
  let item := (64, (d % (2 : Int) ^ 64).toNat)
  let st := s.timeState true
  if !bit v 0 then s
  else if s.time.switch.isSome ∨ (st ≠ tsLocked ∧ st ≠ tsMaster) then s.raise 0x8004 (8, 0) [item]
  else if bit v 1 then
    let s := s.setFlag Reg.timeStat 6
    if 0 ≤ d then
      let a := s.time.a.rebase s.time.count
      let a := { a with base := ((a.base : Int) + d).toNat }
      let w : Switch := { meet := true, delta := d, hold := none, before := some (s.time.count, s.nowA) }
      { s with time := { s.time with a := a, switch := some w } }
    else { s with time := { s.time with switch := some { meet := true, delta := d, hold := some s.nowA } } }
  else if d.natAbs < 2 ^ 31 then
    let s := (s.setRate false s.time.b.rate).setSlew false d
    let s := s.setFlag Reg.timeStat 6
    { s with time := { s.time with switch := some { meet := false, delta := d, hold := none } } }
  else s.raise 0x8004 (8, 0) [item]

/-- SWITCH_SLEW: GO with METHOD 0 slews A toward B (R260). -/
def execSwitchSlew (pf : Nat) (s : State) : Host.Outcome State Fault Refusal :=
  hostWrite pf Reg.timeSwitch (fun s => s.timeSwitchWrite 1) s

/-- SWITCH_MEET: GO with METHOD 1 steps A forward to B, or holds A until B meets it (R260). -/
def execSwitchMeet (pf : Nat) (s : State) : Host.Outcome State Fault Refusal :=
  hostWrite pf Reg.timeSwitch (fun s => s.timeSwitchWrite 3) s

/-- SWITCH_COMPLETE: A and B differ by at most 1 ns: A takes B's parameters, role, parent, number, grandmaster and state, without
going back (R260). -/
def execSwitchComplete (s : State) : Host.Outcome State Fault Refusal :=
  act (fun s => s.time.switch.isSome && decide (s.timeDelta.natAbs ≤ 1))
    (fun s =>
      let shown := s.nowA
      let d := match s.time.switch with | some w => w.delta | none => 0
      let own := s.time.a
      let b := s.time.b
      let a := { b with least := some (max shown (b.least.getD 0)), seqid := own.seqid, sends := own.sends, lastSend := own.lastSend }
      let s := { s with time := { s.time with a := a, switch := none } }
      let s := s.setField (Reg.timeCfg false) 0 13 (s.field (Reg.timeCfg true) 0 13)
      let s := s.setField Reg.timeStat 0 3 (s.timeState true)
      let s := (s.setGrandmaster false (s.grandmaster true)).setSteps false b.steps
      (s.setField Reg.timeStat 6 1 0).raise 0x8005 (8, 0) [(64, (d % (2 : Int) ^ 64).toNat)]) s

/-! ### Clock regions (R264, R265) -/

/-- Whether a kind and index name a clock region: a core, an NME or a fabric tile. -/
def isRegion (kind index : Nat) : Bool :=
  (kind == 1 && decide (index < 192)) || (kind == 3 && decide (index < 32)) || (kind == 5 && decide (index < 2))

/-- A reported transition of a region's clock; a stop requested while the clock runs shows in CST (R264). -/
def State.clockChange (s : State) (kind index : Nat) (change : ClockChange) : State :=
  let r := s.region kind index
  match change with
  | .start => s.startClock kind index
  | .stop => s.stopClock kind index
  | .stopRequested => s.setRegion kind index { r with stopReq := true }
  | .frequency mhz => s.setFreq kind index mhz
  | .stretched n =>
    let lc := r.lcyc s.time.count
    s.setRegion kind index { r with cyc := r.cycles s.time.count, mark := s.time.count, stretches := r.stretches + n, stretchAt := some lc }

/-- CLOCK_REGION_TRANSITION: a region clock starts, stops or changes frequency, and is recorded; stretches within 1 us are summed
(R265). -/
def execClockRegionTransition (kind index : Nat) (change : ClockChange) (s : State) : Host.Outcome State Fault Refusal :=
  act (fun _ => isRegion kind index) (fun s => s.clockChange kind index change) s

/-- STRETCH_TOTAL_REPORT: a region's stretch total, at most once in a millisecond while not zero (R265). -/
def execStretchTotalReport (kind index : Nat) (s : State) : Host.Outcome State Fault Refusal :=
  act (fun s => isRegion kind index && decide (0 < (s.region kind index).stretches) &&
      decide ((s.region kind index).reported ≠ s.time.count / 1000000 + 1))
    (fun s =>
      let r := s.region kind index
      let s := s.setRegion kind index { r with stretches := 0, reported := s.time.count / 1000000 + 1 }
      s.raise 0xD004 (kind, index) [(8, kind), (16, index), (32, r.stretches)]) s

end Sys2Proof.Machine
end

