-- ==== Sys2Proof/Machine/Isk.lean ====
section
/-! DEFINITION. The Isrek controller pair with its arbiter (R381-R386), the sensors with the thermal clocks and the trip (R387-R391),
the management ports' links and the I3C port (R392, R393), and the reports of bring-up (R471). -/

namespace Sys2Proof.Machine
open Sys2Proof

/-! ### Main-domain power (R391, R466, R468) -/

/-- Main-domain power is removed: every region clock stops (R265), both fabric tiles, every core and every NME lose their state, HBM
is no longer read, and a bring-up in progress ends. -/
def State.mainOff (s : State) : State :=
  let s := (List.range 192).foldl (fun (s : State) c => s.cutClock 1 c) s
  let s := (List.range 32).foldl (fun (s : State) i => s.cutClock 3 i) s
  let s := [0, 1].foldl (fun (s : State) f => (s.cutClock 5 f).fabricReset f) s
  let s := (List.range 192).foldl (fun (s : State) c => s.coreEnterReset domDevice c 0) s
  let s := (List.range 32).foldl State.nmeReset s
  let s := (List.range 8).foldl State.tileCountersReset s
  { s with host := { s.host with powered := false, running := false, waiting := false, bs5Done := false, bs8Done := false } }

/-! ### Controllers (R381) -/

/-- The state codes of R381. -/
def ctlOff : Nat := 0
def ctlBoot : Nat := 1
def ctlActive : Nat := 2
def ctlStandby : Nat := 3
def ctlStale : Nat := 4
def ctlFailed : Nat := 5

/-- The state of a controller: 0 ISK-A, 1 ISK-B. -/
def State.ctl (s : State) (c : Nat) : Nat := s.field Reg.iskStat (2 + 3 * c) 3

/-- Writes it. -/
def State.setCtl (s : State) (c v : Nat) : State := s.setField Reg.iskStat (2 + 3 * c) 3 v

/-- Whether a controller is ACTIVE: only the owner of the arbiter can be (R384). -/
def State.iskActive (s : State) : Bool :=
  match s.isk.owner with
  | some c => s.ctl c == ctlActive
  | none => false

/-- Changes what is kept beside the registers. -/
def State.modIsk (s : State) (f : Isk → Isk) : State := { s with isk := f s.isk }

/-! ### I3C (R393) -/

/-- Whether a flag bit of any sensor is set. -/
def State.anySensor (s : State) (b : Nat) : Bool := (List.range 0x80).any (fun k => s.flag (Reg.iskSens k) b)

/-- The summary word. -/
def State.i3cSummary (s : State) : Nat :=
  b2n (s.anySensor 33) + 2 * b2n (s.anySensor 34) + 4 * b2n (s.flag Reg.iskStat 48) + 8 * b2n (!s.iskActive) +
    16 * b2n (!s.isk.thermal.isEmpty)

/-- The word at 8 w of the register space. -/
def State.i3cWord (s : State) (w : Nat) : Nat :=
  if w = 0 then s.reg Reg.hifId
  else if w = 1 then s.reg Reg.iskStat
  else if w < 7 then s.reg (Reg.iskSens (w - 2))
  else if w < 11 then s.reg (Reg.iskSens (0x70 + (w - 7)))
  else if w = 0x12 then s.i3cSummary
  else 0

/-- The in-band interrupt of every summary bit that has gone from 0 to 1: with no controller active only that of bit 3, which
the arbiter drives (R386, R393). -/
def State.i3cRefresh (s : State) : State :=
  let now := s.i3cSummary
  let rise := (List.range 5).filter (fun b => bit now b && !bit s.isk.summary b && (s.iskActive || b == 3))
  { s.modIsk (fun (k : Isk) => { k with summary := now }) with out := s.out ++ rise.map Output.i3c }

/-! ### Ownership (R383-R385) -/

/-- An event about a controller, raised by the arbiter. -/
def State.ctlEvent (s : State) (code c : Nat) (more : List (Nat × Nat)) : State := s.raise code (9, c) ((16, c) :: more)

/-- No controller is ACTIVE. -/
def State.noActive (s : State) : State := s.setField Reg.iskStat 0 2 3

/-- The active controller gives up control because a check fails: it signals YIELD and enters FAILED (R383). -/
def State.yieldCheck (s : State) (c check : Nat) : State :=
  let s := (s.setField Reg.iskStat 40 8 check).setCtl c ctlFailed
  let s := s.modIsk (fun (k : Isk) => { k with owner := none, yield := some (c, check), overran := false, copyDue := false })
  (s.noActive.ctlEvent 0x0008 c [(8, check)]).i3cRefresh

/-- The active controller yields in good order for a SWAP; it waits for a copy like any other (R395). -/
def State.yieldSwap (s : State) (c : Nat) : State :=
  let s := s.setCtl c ctlStale
  let s := s.modIsk (fun (k : Isk) => { k with owner := none, yield := some (c, 0), overran := false, copyDue := false })
  s.noActive.i3cRefresh

/-- The number of the management cycle that the domain-A time lies in, from 1 (R382). -/
def State.cycleNow (s : State) : Nat := s.nowA / 1000000 + 1

/-- The arbiter grants ownership; the controller becomes ACTIVE at the start of the next management cycle (R385). -/
def State.grant (s : State) (c : Nat) (old check : Nat) (unowned : Bool) : State :=
  s.modIsk (fun (k : Isk) => { k with owner := some c, next := some (c, old, check), yield := none, lapsed := false,
                                      prefer := none, lastCycle := s.cycleNow, grantAt := if unowned then some s.time.count else none })

/-- A new owner becomes ACTIVE. After a handover it counts and records it, and takes the work after its copy up again: the
completed TAGs are those of the copy, slots and frames above them are pending (R385). -/
def State.takeOver (s : State) (c old check : Nat) : State :=
  let s := (s.setCtl c ctlActive).setField Reg.iskStat 0 2 c
  let s := s.modIsk (fun (k : Isk) => { k with next := none, overran := false, copyDue := false, activeAt := s.time.count })
  let s :=
    if old = 3 then s
    else
      let s := (s.count Reg.iskHandover).raise 0x0007 (9, c) [(16, old), (16, c), (8, check)]
      let above (r : Nat) (d : Datagram) : Bool := decide ((Tab.get s.isk.copied Done.none r).tag < d.tag)
      let again := (List.range 2).foldl (fun (t : Tab (List Datagram)) p =>
        Tab.put t [] p ((Tab.get s.isk.recent [] p).filter (above (1 + p)) ++ Tab.get t [] p)) s.isk.frames
      let copied := (Tab.get s.isk.copied Done.none 0).tag
      let mbox := (List.range 16).foldl (fun (m : Tab Byte) k =>
        let w := ofBytes ((List.range 8).map (fun i => Tab.get m 0 (4096 * k + i)))
        if bit w 0 ∧ copied < bits w 16 32 then Tab.put m 0 (4096 * k) (BitVec.ofNat 8 (setBits (w % 256) 1 3 0)) else m)
        s.isk.mbox
      s.modIsk (fun (k : Isk) => { k with frames := again, recent := [], done := k.copied, mbox := mbox,
                                              swapped := k.swap, swap := none })
  s.i3cRefresh

/-! ### Commands of the controllers -/

/-- MANAGEMENT_CYCLE: a multiple of 1 ms of domain A. A new owner becomes ACTIVE; otherwise the active controller runs its cycle: a
failed check (0x01 to 0x03 as found in this cycle) or a second overrun makes it yield, an overrun is counted, a copy is
sent, and a SWAP ends with the cycle (R382, R383). -/
def execManagementCycle (check : Nat) (overrun : Bool) (s : State) : Host.Outcome State Fault Refusal :=
  act (fun s => decide (s.isk.lastCycle ≠ s.cycleNow) && s.isk.owner.isSome)
    (fun s =>
      let s := s.modIsk (fun (k : Isk) => { k with lastCycle := s.cycleNow, grantAt := none })
      match s.isk.next with
      | some (c, old, chk) => s.takeOver c old chk
      | none =>
        match s.isk.owner with
        | none => s
        | some c =>
          if check = 1 ∨ check = 2 ∨ check = 3 then s.yieldCheck c check
          else
            let s := if overrun then s.count Reg.iskOverrun else s
            if overrun ∧ s.isk.overran then s.yieldCheck c 4
            else
              let s := if s.isk.copyDue && (s.ctl (1 - c) == ctlStandby || s.ctl (1 - c) == ctlStale)
                then s.count Reg.iskCopyFail else s
              let s := s.setField Reg.iskStat 8 32 (s.field Reg.iskStat 8 32 + 1)
              let s := s.modIsk (fun (k : Isk) => { k with overran := overrun, copyDue := true, missed := k.missed + 1 })
              if s.isk.swap.isSome ∧ overrun = false then s.yieldSwap c else s) s

/-- STATE_COPY_RECEIVE: the standby receives the copy of the last cycle. One whose CRC matches is applied and acknowledged: a STALE
controller is STANDBY again. Any other is not acknowledged and is counted (R382, R383, R386). -/
def execStateCopyReceive (good : Bool) (s : State) : Host.Outcome State Fault Refusal :=
  act (fun s => s.isk.copyDue && (match s.isk.owner with
      | some c => s.ctl c == ctlActive && (s.ctl (1 - c) == ctlStandby || s.ctl (1 - c) == ctlStale)
      | none => false))
    (fun s =>
      let other := 1 - s.isk.owner.getD 0
      if good then
        let back := s.isk.diagnosed.contains other
        let s := s.setCtl other ctlStandby
        let s := s.modIsk (fun (k : Isk) => { k with copyDue := false, missed := 0, lastGood := s.field Reg.iskStat 8 32,
                                                     copied := k.done, recent := [], diagnosed := k.diagnosed.filter (· != other) })
        if back then s.ctlEvent 0x000A other [] else s
      else (s.modIsk (fun (k : Isk) => { k with copyDue := false })).count Reg.iskCopyFail) s

/-- STANDBY_STALE: no good copy for three cycles; that of the cycle in progress may still come (R382). -/
def execStandbyStale (s : State) : Host.Outcome State Fault Refusal :=
  act (fun s => decide (3 + b2n s.isk.copyDue ≤ s.isk.missed) && (match s.isk.owner with
      | some c => s.ctl (1 - c) == ctlStandby
      | none => false))
    (fun s =>
      let other := 1 - s.isk.owner.getD 0
      (s.setCtl other ctlStale).ctlEvent 0x0009 other [(32, s.isk.lastGood)]) s

/-- ISK_WATCHDOG_EXPIRE: the active controller's watchdog was not serviced for 1.5 ms; it has been active so long (R383). -/
def execIskWatchdogExpire (controller : Nat) (s : State) : Host.Outcome State Fault Refusal :=
  act (fun s => s.iskActive && s.isk.owner == some controller && decide (s.isk.activeAt + 1500000 ≤ s.time.count)) (fun s => s.yieldCheck controller 5) s

/-- ISK_SUPPLY_LOSS: a supply branch loses power-good. The active controller yields; any other is unpowered (R381, R383). -/
def execIskSupplyLoss (controller : Nat) (s : State) : Host.Outcome State Fault Refusal :=
  act (fun s => decide (controller < 2) && s.ctl controller != ctlOff)
    (fun s =>
      if s.isk.owner = some controller ∧ s.ctl controller = ctlActive then s.yieldCheck controller 6
      else
        let s := s.setCtl controller ctlOff
        if s.isk.owner = some controller then
          s.modIsk (fun (k : Isk) => { k with owner := none, next := none, yield := some (controller, 6) })
        else s) s

/-- HEARTBEAT_LAPSE: the arbiter has had no heartbeat of the owner for 2.5 ms, which it has been active; a claim succeeds from now
on (R384). -/
def execHeartbeatLapse (s : State) : Host.Outcome State Fault Refusal :=
  act (fun s => s.iskActive && !s.isk.lapsed && decide (s.isk.activeAt + 2500000 ≤ s.time.count)) (fun s => s.modIsk (fun (k : Isk) => { k with lapsed := true })) s

/-- A claim of a controller that has completed BOOT: the unowned arbiter goes to the controller that ISK_CTL.PREFER names as soon
as it is out of BOOT, and to the other one at once only where the preferred one is no longer in BOOT (R384). -/
def State.claimBoot (s : State) (c : Nat) : State :=
  let pref := s.field Reg.iskCtl 0 1
  let other := 1 - c
  let s := s.setCtl c ctlStale
  if s.isk.owner.isSome then s
  else if c = pref ∨ s.ctl other ≠ ctlBoot then s.grant c 3 0 true
  else s.modIsk (fun (k : Isk) => { k with prefer := some (c, s.time.count) })

/-- OWNERSHIP_CLAIM: a controller claims the arbiter, out of BOOT or as standby. A claim succeeds if the owner has yielded or its
heartbeat has lapsed; ISK-A wins an unowned arbiter that both claim in one cycle (R384). -/
def execOwnershipClaim (controller : Nat) (s : State) : Host.Outcome State Fault Refusal :=
  act (fun s => decide (controller < 2) &&
      ((s.ctl controller == ctlBoot && s.host.auxIn && decide (1 ≤ s.host.stage) && !s.flag Reg.secBoot 4) ||
        s.ctl controller == ctlStandby || s.ctl controller == ctlStale))
    (fun s =>
      if s.ctl controller = ctlBoot then s.claimBoot controller
      else
        match s.isk.owner with
        | none =>
          let y := s.isk.yield.getD (3, 0)
          s.grant controller y.1 y.2 true
        | some o =>
          if o = controller then s
          else if s.isk.lapsed then
            let s := (s.setCtl o ctlFailed).modIsk (fun (k : Isk) => { k with overran := false, copyDue := false })
            (s.noActive.grant controller o 0 false).i3cRefresh
          else if controller = 0 ∧ s.isk.grantAt = some s.time.count then
            let n := s.isk.next.getD (1, 3, 0)
            s.grant 0 n.2.1 n.2.2 true
          else s) s

/-- BOOT_PREFER_TIMEOUT: the preferred controller is still in BOOT 500 ms after the other completed (R384). -/
def execBootPreferTimeout (s : State) : Host.Outcome State Fault Refusal :=
  act (fun s => match s.isk.prefer with
      | some (c, t) => s.isk.owner.isNone && s.ctl (1 - c) == ctlBoot && decide (t + 500000000 ≤ s.time.count)
      | none => false)
    (fun s => s.grant (s.isk.prefer.getD (0, 0)).1 3 0 true) s

/-- DIAGNOSIS_COMPLETE: a FAILED controller's diagnosis ends. Passed, it is STALE; failed three times within an hour, it stays OFF
(R386). -/
def execDiagnosisComplete (controller : Nat) (pass : Bool) (check : Nat) (s : State) : Host.Outcome State Fault Refusal :=
  act (fun s => decide (controller < 2) && s.ctl controller == ctlFailed)
    (fun s =>
      if pass then
        (s.setCtl controller ctlStale).modIsk (fun (k : Isk) => { k with diagnosed := k.diagnosed ++ [controller] })
      else
        let old := s.isk.failures.filter (fun e => decide (s.time.count ≤ e.2 + 3600000000000))
        let s := s.modIsk (fun (k : Isk) => { k with failures := old ++ [(controller, s.time.count)] })
        let s := s.ctlEvent 0x0008 controller [(8, check)]
        if 3 ≤ (s.isk.failures.filter (fun e => e.1 == controller)).length then s.setCtl controller ctlOff else s) s

/-! ### Bring-up reports (R471) -/

/-- The IMP datagram of a bring-up report: OP 0x0E in response position, with its stage, status, DETAIL and TIME_COUNT. The manual
does not lay its result out. -/
def StagePost.bytes (p : StagePost) : List Byte :=
  toBytes 1 p.stage ++ toBytes 1 p.status ++ toBytes 2 p.detail ++ toBytes 8 p.count

/-- Whether NETCFG has set a report destination for a port; how its payload says so the manual leaves open. -/
def State.reportDest (s : State) (port : Nat) : Bool := bit (Config.reportPorts s.isk.netcfg) port

/-- Sends a report on a port, if a destination is set. -/
def State.sendReport (s : State) (port : Nat) (p : StagePost) : State :=
  if s.reportDest port then { s with out := s.out ++ [Output.imp port 0x0E 0 0 p.bytes] } else s

/-- STATUS codes of HIF_BS. -/
def bsRunning : Nat := 0
def bsDone : Nat := 1
def bsWarned : Nat := 2
def bsWaiting : Nat := 3
def bsFailed : Nat := 4

/-- Posts a stage report: HIF_BS, event 0x001, REPORT on each management port that is up or kept for it, and PF1's cause 1. -/
def State.postReport (s : State) (stage status detail : Nat) : State :=
  let s := ((s.setField Reg.hifBs 0 4 stage).setField Reg.hifBs 4 3 status).setField Reg.hifBs 8 16 detail
  let s := s.raise 0xC001 (8, 0) [(8, stage), (8, status), (16, detail), (64, s.time.count)]
  let p : StagePost := { stage := stage, status := status, detail := detail, count := s.time.count }
  let s := [0, 1].foldl (fun (s : State) port =>
    if s.flag Reg.iskMport port && s.iskActive then s.sendReport port p
    else
      let l := Tab.get s.isk.posts [] port ++ [p]
      s.modIsk (fun (k : Isk) => { k with posts := Tab.put k.posts [] port (l.drop (l.length - 10)) })) s
  s.irq 1 1

/-! ### Sensors (R387, R388) -/

/-- The reading of a sensor in VALUE. -/
def State.reading (s : State) (k : Nat) : Int := signed (s.reg (Reg.iskSens k)) 32

/-- Whether a reading lies within the limits of ISK_SLIM; a limit at the end of its range never trips. -/
def State.aboveHi (s : State) (k : Nat) (v : Int) : Bool := decide (signed (s.reg (Reg.iskSlim k)) 32 < v)
def State.belowLo (s : State) (k : Nat) (v : Int) : Bool := decide (v < signed (s.field (Reg.iskSlim k) 32 32) 32)

/-- Whether the 54 V input lies outside its range, as the input says or as sensor 0x00 reads against its limits. -/
def State.inputOut (s : State) : Bool :=
  !s.host.mainIn || (s.flag (Reg.iskSens 0) 32 && (s.aboveHi 0 (s.reading 0) || s.belowLo 0 (s.reading 0)))

/-- BS2 begins to wait with a report, or is released, from when its limit runs. -/
def State.inputCheck (s : State) : State :=
  if !s.host.running || s.host.stage != 2 then s
  else if s.inputOut && !s.host.waiting then
    ({ s with host := { s.host with waiting := true } }).postReport 2 bsWaiting 0
  else if !s.inputOut && s.host.waiting then
    ({ s with host := { s.host with waiting := false, stageStart := s.time.count } }).setField Reg.hifBs 4 3 bsRunning
  else s

/-- A raw value with the corrections of the calibration set (R477): raw (1 + gain 2^-24) + offset. How the product is rounded to a
whole unit, and what a reading outside 32 bits is, the manual does not say. -/
def State.sensorValue (s : State) (k : Nat) (raw : Int) : Int × State :=
  let w := if s.flag Reg.calStat 2 then s.calWord (0x4000 + 8 * k) 8 else 0
  let p := raw * signed (w / 2 ^ 32) 32
  let v := raw + floorShift p 24 + signed w 32
  let f := s.fresh
  let r : Int × State := if p % (2 : Int) ^ 24 = 0 then (v, s) else (v + (f.1 % 2 : Nat), f.2)
  if (-(2 : Int) ^ 31 ≤ r.1) ∧ (r.1 < (2 : Int) ^ 31) then r
  else let g := r.2.fresh; (signed g.1 32, g.2)

/-- A sensor trips on one side: flag, event and interrupt once until it clears (R388, R465). -/
def State.tripSide (s : State) (k b code : Nat) (v : Int) : State :=
  if s.flag (Reg.iskSens k) b then s
  else ((s.setFlag (Reg.iskSens k) b).raise code (10, k) [(16, k), (32, unsigned v 32)]).irq 1 2

/-- Since when, plus 1, a reading has lain in a band without a break; 0 outside it. -/
def since (inside : Bool) (was now : Nat) : Nat := if !inside then 0 else if was = 0 then now else was

/-- THROT in 1/8 degrees; values above 105 are taken as 105 (R407). -/
def State.throt (s : State) : Int := 8 * (min 105 (s.field Reg.iskCtl 1 8) : Nat)

/-- SENSOR_SAMPLE: the sensor hub takes a reading: corrected, it is VALUE; those of HBM stacks come from NME_STAT.TEMP. While a
controller is active it is compared with the limits (R387, R388). The hub notes since when a junction is above 110 degrees
(R391) and a cluster's at or below THROT - 3 degrees (R390), a rail voltage bounds the clocks of its tile (R390), and BS2 waits on sensor 0x00 (R470). -/
def execSensorSample (sensor : Nat) (reading : Int) (s : State) : Host.Outcome State Fault Refusal :=
  act (fun s => s.host.bs1Done && sensorExists sensor)
    (fun s =>
      let raw := if 0x50 ≤ sensor ∧ sensor ≤ 0x6F then 8 * (s.field (Reg.nmeStat (sensor - 0x50)) 8 8 : Int) else reading
      let c := s.sensorValue sensor raw
      let v := c.1
      let s := c.2
      let s := s.setReg (Reg.iskSens sensor) (setBits (setBits (s.reg (Reg.iskSens sensor)) 0 32 (unsigned v 32)) 32 1 1)
      let now := s.time.count + 1
      let out := s.aboveHi sensor v || s.belowLo sensor v
      let within := since (!out) (Tab.get s.isk.withinAt 0 sensor) now
      let junction := decide (0x20 ≤ sensor) && decide (sensor ≤ 0x4A)
      let hot := since (junction && decide (880 < v)) (Tab.get s.isk.hotAt 0 sensor) now
      let cluster := sensor - 0x20
      let ofCluster := decide (0x20 ≤ sensor) && decide (cluster < 40)
      let cool := since (ofCluster && decide (v ≤ s.throt - 24)) (Tab.get s.isk.coolAt 0 cluster) now
      let s := s.modIsk (fun (k : Isk) => { k with validAt := Tab.put k.validAt 0 sensor now,
                                                   withinAt := Tab.put k.withinAt 0 sensor within, hotAt := Tab.put k.hotAt 0 sensor hot,
                                                   coolAt := if ofCluster then Tab.put k.coolAt 0 cluster cool else k.coolAt })
      let s := if s.iskActive && s.aboveHi sensor v then s.tripSide sensor 33 0xA001 v else s
      let s := if s.iskActive && s.belowLo sensor v then s.tripSide sensor 34 0xA002 v else s
      let s := if 0x10 ≤ sensor ∧ sensor ≤ 0x17 ∧ s.host.powered then s.clockTile (sensor - 0x10) else s
      (if sensor = 0 then s.inputCheck else s).i3cRefresh) s

/-- SENSOR_INVALID_TIMEOUT: a sensor gave no valid reading for 10 ms (R387). -/
def execSensorInvalidTimeout (sensor : Nat) (s : State) : Host.Outcome State Fault Refusal :=
  act (fun s => sensorExists sensor && s.flag (Reg.iskSens sensor) 32 &&
      decide (Tab.get s.isk.validAt 0 sensor + 10000000 ≤ s.time.count + 1))
    (fun s => (s.setField (Reg.iskSens sensor) 32 1 0).raise 0xA007 (10, sensor) [(16, sensor)]) s

/-- SENSOR_CLEAR_TIMEOUT: the readings of a tripped sensor stayed within both limits for 100 ms (R388). -/
def execSensorClearTimeout (sensor : Nat) (s : State) : Host.Outcome State Fault Refusal :=
  act (fun s => s.iskActive && s.flag (Reg.iskSens sensor) 32 && (s.flag (Reg.iskSens sensor) 33 || s.flag (Reg.iskSens sensor) 34) &&
      Tab.get s.isk.withinAt 0 sensor != 0 && decide (Tab.get s.isk.withinAt 0 sensor + 100000000 ≤ s.time.count + 1))
    (fun s =>
      let s := s.setField (Reg.iskSens sensor) 33 2 0
      (s.raise 0xA003 (10, sensor) [(16, sensor), (32, unsigned (s.reading sensor) 32)]).i3cRefresh) s

/-! ### Thermal clocks and the trip (R390, R391) -/

/-- An event of a cluster's throttling. -/
def State.throttleEvent (s : State) (code g : Nat) : State :=
  s.raise code (7, g) [(16, g), (32, unsigned (s.reading (0x20 + g)) 32)]

/-- THERMAL_CLOCK_STEP: the thermal clock of a cluster falls by 100 MHz, once in 1 ms while its junction is above THROT, down to
900 MHz; or rises by 100 MHz, once in 10 ms after 10 ms at or below THROT - 3 degrees, up to its cap (R390). -/
def execThermalClockStep (cluster : Nat) (s : State) : Host.Outcome State Fault Refusal :=
  act (fun s => decide (cluster < 40) && s.host.powered && s.flag (Reg.iskSens (0x20 + cluster)) 32)
    (fun s =>
      let now := s.time.count
      let v := s.reading (0x20 + cluster)
      let was := Tab.find s.isk.thermal cluster
      let clock := s.thermalClock cluster
      let last := (was.map Prod.snd).getD 0
      let cool := Tab.get s.isk.coolAt 0 cluster
      let apply (s : State) : State := (s.clockTile (cluster / 5)).i3cRefresh
      if s.throt < v then
        if was.isSome ∧ now < last + 1000000 then s
        else
          let t := (max 900 (clock - 100), now)
          let s := if was.isNone then s.throttleEvent 0xA004 cluster else s
          apply (s.modIsk (fun (k : Isk) => { k with thermal := Tab.insert k.thermal cluster t }))
      else if was.isNone ∨ s.throt - 24 < v ∨ cool = 0 then s
      else if now + 1 < cool + 10000000 ∨ now < last + 10000000 then s
      else if s.clkCap (cluster / 5) ≤ clock + 100 then
        let s := s.modIsk (fun (k : Isk) => { k with thermal := Tab.erase k.thermal cluster })
        apply (s.throttleEvent 0xA005 cluster)
      else apply (s.modIsk (fun (k : Isk) => { k with thermal := Tab.insert k.thermal cluster (clock + 100, now) }))) s

/-- THERMAL_TRIP: a junction sensor read above 110 degrees for 1 ms: main-domain power is removed until the next cold power-on,
whether a controller is active or not (R391). -/
def execThermalTrip (sensor : Nat) (s : State) : Host.Outcome State Fault Refusal :=
  act (fun s => s.host.powered && s.flag (Reg.iskSens sensor) 32 && Tab.get s.isk.hotAt 0 sensor != 0 &&
      decide (Tab.get s.isk.hotAt 0 sensor + 1000000 ≤ s.time.count + 1))
    (fun s =>
      let s := s.raise 0xA006 (10, sensor) [(16, sensor), (32, unsigned (s.reading sensor) 32)]
      (s.mainOff.setFlag Reg.iskStat 48).i3cRefresh) s

/-! ### Management ports (R392, R471) -/

/-- MGMT_PORT_LINK_CHANGE: a management port goes up or down, and sends the reports kept for it once it is up (R392, R471). -/
def execMgmtPortLinkChange (port : Nat) (up : Bool) (s : State) : Host.Outcome State Fault Refusal :=
  act (fun s => decide (port < 2) && s.host.bs1Done && s.flag Reg.iskMport port != up)
    (fun s =>
      let s := (s.setField Reg.iskMport port 1 (b2n up)).raise 0x000B (8, 0) [(8, port), (8, b2n up)]
      if up && s.iskActive then
        let kept := Tab.get s.isk.posts [] port
        let s := s.modIsk (fun (k : Isk) => { k with posts := Tab.put k.posts [] port [] })
        kept.foldl (fun (s : State) p => s.sendReport port p) s
      else s) s

/-- Bytes of the datagrams that wait on a port. -/
def State.frameBytes (s : State) (port : Nat) : Nat :=
  ((Tab.get s.isk.frames [] port).map (fun (d : Datagram) => 64 + d.payload.length)).foldl (· + ·) 0

/-- IMP_DATAGRAM_RECEIVE: a request arrives on a management port and waits for the active controller. While none is active, 256 KiB
are buffered, and what goes beyond is dropped and counted (R385, R392). -/
def execImpDatagramReceive (port : Nat) (datagram : Datagram) (s : State) : Host.Outcome State Fault Refusal :=
  act (fun s => decide (port < 2) && s.flag Reg.iskMport port && s.host.bs1Done)
    (fun s =>
      if !s.iskActive && decide (262144 < s.frameBytes port + 64 + datagram.payload.length) then s.count Reg.iskMportDrop
      else s.modIsk (fun (k : Isk) => { k with frames := Tab.put k.frames [] port (Tab.get k.frames [] port ++ [datagram]) })) s

end Sys2Proof.Machine
end

