-- ==== Sys2Proof/Machine/Freeze.lean ====
section
/-! DEFINITION. The recorder's freeze (R403), its staging queue (R400), and how a record reads (R397). -/

namespace Sys2Proof.Machine
open Sys2Proof

/-! ### Records (R397) -/

/-- The 64 bytes of a record. -/
def Record.bytes (r : Record) : List Byte :=
  let e := r.event
  let jv := e.job.isSome
  let j := e.job.getD (0, 0, 0)
  toBytes 8 (r.seq % 2 ^ 32 + e.code % 2 ^ 16 * 2 ^ 32 + e.cst % 4 * 2 ^ 48 + b2n r.writer * 2 ^ 50 + b2n jv * 2 ^ 51 +
    b2n e.trunc * 2 ^ 52 + b2n r.noown * 2 ^ 53) ++
  toBytes 8 (e.stamp % 2 ^ 32 + e.skind % 256 * 2 ^ 32 + e.sidx % 2 ^ 16 * 2 ^ 40) ++
  toBytes 8 (e.lcyc % 2 ^ 48) ++ toBytes 8 (j.2.2 % 2 ^ 48) ++ toBytes 8 (j.1 % 4096 + j.2.1 % 256 * 2 ^ 12) ++
  toBytes 24 e.data

/-! ### Freeze (R403) -/

/-- A freeze begins at T: what is stamped from T on is held. Event 0x0005 is stamped now and written when the freeze ends. -/
def State.freezeBegin (s : State) (t : Nat) : State :=
  let e : Event :=
    { code := 0x0005, stamp := s.nowA, count := s.time.count, stampB := s.nowB, skind := 8, sidx := 0, lcyc := 0, cst := 0,
      job := none, data := t, trunc := false }
  let s := if s.reg Reg.recFreeze = t then s.setReg Reg.recFreeze 0 else s
  let left := s.recorder.freezeAt.filter (fun x => decide (s.nowA < x))
  let base := s.field Reg.recFrzDrop 0 48
  { s with recorder := { s.recorder with frozen := some t, frzFrom := t, begun := [e], frzBase := base, freezeAt := left } }

/-- The freeze in progress ends: the held records are written in order with the events of its begin and end. Begins that fell due
meanwhile are ignored, that of REC_FREEZE too, which is cleared. -/
def State.freezeEnd (s : State) : State :=
  match s.recorder.frozen with
  | none => s
  | some t =>
    let d := packItems 0 [(64, t), (32, s.recorder.held.length), (32, s.field Reg.recFrzDrop 0 48 - s.recorder.frzBase)]
    let e : Event :=
      { code := 0x0006, stamp := s.nowA, count := s.time.count, stampB := s.nowB, skind := 8, sidx := 0, lcyc := 0, cst := 0,
        job := none, data := d.1, trunc := d.2 }
    let l := sortBy (fun (x : Event) => x.stamp * 2 ^ 32 + x.skind * 2 ^ 16 + x.sidx) (s.recorder.begun ++ s.recorder.held ++ [e])
    let left := s.recorder.freezeAt.filter (fun x => decide (s.nowA < x))
    let s := if s.reg Reg.recFreeze ≤ s.nowA then s.setReg Reg.recFreeze 0 else s
    l.foldl State.takeEvent { s with recorder := { s.recorder with frozen := none, begun := [], held := [], freezeAt := left } }

/-- RECORDER_FREEZE_BEGIN: domain A has reached the T of a freeze, and none is in progress (R262, R403). -/
def execRecorderFreezeBegin (s : State) : Host.Outcome State Fault Refusal :=
  act (fun s => s.recorder.frozen.isNone && s.freezeDue.isSome) (fun s => s.freezeBegin (s.freezeDue.getD 0)) s

/-- The earliest end of TIME packets that is due. -/
def State.thawDue (s : State) : Option Nat := (s.recorder.thawAt.filter (fun t => decide (t ≤ s.nowA))).min?

/-- An ACT 3 that is due acts: it ends a freeze of an earlier T; a freeze that did not begin earlier ignores it, and it is
recorded (`told`: it has been, as late). -/
def State.thawAct (s : State) (t : Nat) (told : Bool) : State :=
  let s := { s with recorder := { s.recorder with thawAt := s.recorder.thawAt.erase t } }
  match s.recorder.frozen with
  | none => s
  | some t0 => if t0 < t then s.freezeEnd else if told then s else s.raise 0x8007 (8, 0) [(8, 3), (64, t)]

/-- RECORDER_FREEZE_END: domain A has reached the T of an ACT 3 (R403). -/
def execRecorderFreezeEnd (s : State) : Host.Outcome State Fault Refusal :=
  act (fun s => s.thawDue.isSome) (fun s => s.thawAct (s.thawDue.getD 0) false) s

/-- FREEZE_MAX_EXPIRE: FRZMAX seconds after its T a freeze ends (R403, R409). -/
def execFreezeMaxExpire (s : State) : Host.Outcome State Fault Refusal :=
  act (fun s => s.recorder.frozen.isSome &&
      decide (s.recorder.frzFrom + 1000000000 * max 1 (s.field Reg.recCtl 1 8) ≤ s.nowA))
    State.freezeEnd s

/-- A write of REC_CTL: FRZMAX, and THAW ends the freeze in progress (R403, R409). -/
def State.recCtlWrite (s : State) (v : Nat) : State :=
  let s := s.setReg Reg.recCtl (v &&& 0x1FE)
  if bit v 0 then s.freezeEnd else s

/-- THAW: a write of REC_CTL. -/
def execThaw (pf : Nat) (value : BitVec 64) (s : State) : Host.Outcome State Fault Refusal :=
  hostWrite pf Reg.recCtl (fun s => s.recCtlWrite value.toNat) s

/-- FLASH_DRAIN: the staging queue drains records to flash (R400). -/
def execFlashDrain (count : Nat) (s : State) : Host.Outcome State Fault Refusal :=
  act1 (fun s => { s with recorder := { s.recorder with
    flashed := min s.recorder.store.length (s.recorder.flashed + count) } }) s

end Sys2Proof.Machine
end

