-- ==== Sys2Proof/Machine/Stop.lean ====
section
/-! DEFINITION. Programmable counters as software and their own wraps change them (R417), the trace drain and its registers
(R420-R425), global stops (R428-R434), the last parts of a dump (R427), and the TIME packets that announce stops and freezes (R263). -/

namespace Sys2Proof.Machine
open Sys2Proof

/-! ### Counters (R417) -/

/-- The set a unit number names: 0-191 the cores, 192-201 the tiles, 202 the global counters. -/
def pmcUnit (unit : Nat) : PmcSet := if unit < 192 then .core unit else if unit < 202 then .tile (unit - 192) else .global

/-- COUNTER_WRAP: the events of a unit take a counter that holds all ones to 0 (R417, R418). -/
def execCounterWrap (unit index : Nat) (s : State) : Host.Outcome State Fault Refusal :=
  act (fun s =>
      let set := pmcUnit unit
      decide (unit < 203) && decide (index < set.size) && s.flag (set.sel index) 12 &&
        !(index % 2 == 1 && s.flag (set.sel index) 13) && s.field (set.cnt index) 0 set.width == 2 ^ set.width - 1)
    (fun s => s.pmcAdd (pmcUnit unit) index 1) s

/-- The counter a BAR0 offset is, if it is a programmable one. -/
def pmcAt (off : Nat) : Option (PmcSet × Nat) :=
  if 0x3000000 ≤ off ∧ off < 0x30C0000 then
    if off % 0x1000 < 0x80 then some (.core ((off - 0x3000000) / 0x1000), off % 0x1000 / 8) else none
  else if 0x3100000 ≤ off ∧ off < 0x310A000 then
    if off % 0x1000 < 0x200 then some (.tile ((off - 0x3100000) / 0x1000), off % 0x1000 / 8) else none
  else if 0x3180000 ≤ off ∧ off < 0x3180800 then some (.global, (off - 0x3180000) / 8)
  else none

/-- A software write of a counter with the increments of the same cycle: the value written plus those (R417). -/
def State.pmcWrite (s : State) (off v same : Nat) : State :=
  match pmcAt off with
  | some (set, j) => (s.setReg off (v % 2 ^ set.width)).pmcAdd set j same
  | none => s

/-- PMC_COUNTER_WRITE: a write of a programmable counter. -/
def execPmcCounterWrite (pf offset : Nat) (value : BitVec 64) (same : Nat) (s : State) : Host.Outcome State Fault Refusal :=
  if (pmcAt offset).isNone || offset % 8 != 0 then .next s
  else hostWrite pf offset (fun s => s.pmcWrite offset value.toNat same) s

/-! ### Trace (R420-R425) -/

/-- A write of TRC_CTL: clearing EN writes END, setting it starts DROP and the SYNC interval anew. -/
def State.trcCtlWrite (s : State) (c v : Nat) : State :=
  let was := s.flag (Reg.trcCtl c) 0
  let s := if was && !bit v 0 then s.tracePut c 12 0 0 0 else s
  let s := s.setReg (Reg.trcCtl c) (v &&& 0xFFFF7F)
  if !was && bit v 0 then
    (s.setField (Reg.trcStat c) 16 32 0).setTraceBuf c { s.traceBuf c with sinceSync := 0 }
  else s

/-- TRC_CTL_WRITE. -/
def execTrcCtlWrite (pf core : Nat) (value : BitVec 64) (s : State) : Host.Outcome State Fault Refusal :=
  hostWrite pf (if core < 192 then Reg.trcCtl core else 0x3FFFFF8) (fun s => s.trcCtlWrite core value.toNat) s

/-- A write of TRC_RBASE or TRC_RSIZE zeroes TRC_RWR and TRC_RRD. -/
def State.trcRingWrite (s : State) (c : Nat) (base : Bool) (v : Nat) : State :=
  let s := if base then s.setReg (Reg.trcRbase c) (v % 2 ^ 48) else s.setReg (Reg.trcRsize c) (v % 2 ^ 32)
  (s.setReg (Reg.trcRwr c) 0).setReg (Reg.trcRrd c) 0

/-- TRC_RING_WRITE. -/
def execTrcRingWrite (pf core : Nat) (base : Bool) (value : BitVec 64) (s : State) : Host.Outcome State Fault Refusal :=
  hostWrite pf (if core < 192 then (if base then Reg.trcRbase core else Reg.trcRsize core) else 0x3FFFFF8)
    (fun s => s.trcRingWrite core base value.toNat) s

/-- The 16 bytes of a trace record. -/
def traceBytes (r : Word × Word × Nat) : List Byte := toBytes 8 r.1.toNat ++ toBytes 8 r.2.1.toNat

/-- How many records of a buffer may leave it now: `n` once it holds them, or all of them once the oldest is 100 us old. -/
def State.drainable (s : State) (c n : Nat) : Nat :=
  let l := (s.traceBuf c).recs
  if n ≤ l.length then n
  else match l with
    | r :: _ => if r.2.2 + 100000 ≤ s.time.count then l.length else 0
    | [] => 0

/-- Takes records off a buffer. -/
def State.traceTake (s : State) (c n : Nat) : State :=
  let t := s.traceBuf c
  s.setTraceBuf c { t with recs := t.recs.drop n }

/-- The ring of a core takes a block: its records are written at TRC_RWR, which advances by the block's 4 KiB; where that reaches
TRC_RRD, WRAP moves TRC_RRD past the oldest block and WRAP = 0 holds the drain (R422). -/
def State.drainRing (s : State) (c : Nat) : State :=
  let n := s.drainable c 256
  let size := s.field (Reg.trcRsize c) 0 32
  let wr := s.field (Reg.trcRwr c) 0 32
  let rd := s.field (Reg.trcRrd c) 0 32
  if n = 0 ∨ size < 8192 ∨ size % 4096 ≠ 0 then s
  else
    let next := (wr + 4096) % size
    let full := next == rd
    if full && !s.flag (Reg.trcCtl c) 2 then s
    else
      let s := s.memWrite (s.field (Reg.trcRbase c) 0 48 + wr) (((s.traceBuf c).recs.take n).flatMap traceBytes)
      let s := (s.traceTake c n).setReg (Reg.trcRwr c) next
      if full then s.setReg (Reg.trcRrd c) ((rd + 4096) % size) else s

/-- A frame of the trace port: header, up to 15 records, zero records (R424). -/
def traceFrame (c seq lost : Nat) (recs : List (Word × Word × Nat)) : List Byte :=
  let body := recs.flatMap traceBytes
  let body := body ++ List.replicate (240 - body.length) 0
  let head := toBytes 2 0xA5C3 ++ toBytes 1 (c / 24) ++ toBytes 1 (c % 24) ++ toBytes 4 seq ++ toBytes 4 lost
  head ++ toBytes 4 (crc32c (head ++ [0, 0, 0, 0] ++ body)) ++ body

/-- The trace port sends a frame of a core. -/
def State.drainPort (s : State) (c : Nat) : State :=
  let n := s.drainable c 15
  if n = 0 ∨ !s.flag Reg.trcPort 0 then s
  else
    let t := s.traceBuf c
    let s := { s with out := s.out ++ [Output.trace c (traceFrame c t.frameSeq t.frameLost (t.recs.take n))] }
    (s.setTraceBuf c { t with frameSeq := (t.frameSeq + 1) % 2 ^ 32, frameLost := 0 }).traceTake c n

/-- Whether a capture in progress reads a unit of a tile: it has priority on the tile's debug ring (R424). -/
def State.ringCapturing (s : State) (tile : Nat) : Bool :=
  !s.gstop.capturing.isEmpty || (List.range 8).any (fun q => s.recState q == 1 &&
    (s.recEntry q).records.any (fun r => (r.kind == 0 || r.kind == 3) && r.index / 24 == tile))

/-- TRACE_DRAIN_BLOCK: the drain of a core copies a block to its ring or, while no capture has the debug ring, sends a frame (R422,
R424); it stands still while the buffer is HELD (R423). -/
def execTraceDrainBlock (core : Nat) (s : State) : Host.Outcome State Fault Refusal :=
  act (fun s => decide (core < 192) && !s.flag (Reg.trcStat core) 13)
    (fun s =>
      if s.flag (Reg.trcCtl core) 1 then (if s.ringCapturing (core / 24) then s else s.drainPort core)
      else s.drainRing core) s

/-! ### Global stop (R428-R433) -/

/-- The cores a stop of a job halts: all of them for JOB 0, else those that run its programs (R428). -/
def State.stopCores (s : State) (job : Nat) : List Nat :=
  (List.range 192).filter (fun c => job == 0 || s.runsJob c job)

/-- The units the capture of a stop reads. -/
def State.stopUnits (s : State) (job : Nat) : List (Nat × Nat) :=
  if job = 0 then s.captureUnits domDevice 0 [] else (s.stopCores job).map (fun c => (0, c))

/-- Work of a core's matrix engine done before it stands still for a stop (R429): of the oldest pass the entries of its first rows
(drained too where the pass drains), of the oldest drain its first rows. How many of the operation's rows these are, the
64 cycles of the run-on decide: a free number. -/
def State.runOnMat (s : State) (c : Nat) : State :=
  let f := s.fresh
  let g := f.2.fresh
  let k := s.core c
  let rows := match k.mat.passes with
    | r :: _ => if (PassRun.feed k r).fed then f.1 % (r.op.count + 1) else 0
    | [] => 0
  let drained := match k.mat.drains with
    | o :: _ => g.1 % (o.count + 1)
    | [] => 0
  g.2.modCore c (fun (k : Core) =>
    let k := match k.mat.passes with
      | r :: _ =>
        let r := PassRun.feed k r
        let x := passResult r
        let x := { x with data := x.data.map (List.take rows), checks := x.checks.map (List.take rows) }
        let k := { k with mat := writeEntries k.mat r x f.1 }
        if r.op.doc then (drainRows k r.op rows).1 else k
      | [] => k
    let k := match k.mat.drains with
      | o :: _ => (drainRows k o drained).1
      | [] => k
    { k with points := [rows, drained] })

/-- Cuts pieces of a copy into writes of at most 64 bytes. -/
def cut64 (l : List ((Nat × Nat) × (Nat × Nat))) : List ((Nat × Nat) × (Nat × Nat)) :=
  l.flatMap (fun x => (List.range ((x.1.2 + 63) / 64)).map (fun j =>
    ((x.1.1 + 64 * j, min 64 (x.1.2 - 64 * j)), (x.2.1 + 64 * j, min 64 (x.2.2 - 64 * j)))))

/-- Work of a core's DMA engine done before it stands still: the first 64-byte writes of the DMAC in execution, a free number. -/
def State.runOnDma (s : State) (c : Nat) : State :=
  match (s.core c).dma with
  | [] => s.modCore c (fun (k : Core) => { k with points := k.points ++ [0] })
  | op :: _ =>
    match dFmt op.dA with
    | none => s
    | some f =>
      let l := cut64 ((dSegs op.dA f).zip (dSegs op.dD f))
      let g := s.fresh
      let n := g.1 % (l.length + 1)
      (g.2.copySegs (dPlace op.dA c) (dPlace op.dD c) (l.take n)).2.modCore c (fun (k : Core) => { k with points := k.points ++ [n] })

/-- A core of a stop's scope runs on to its item boundaries, which the capture records, and stands still (R429). -/
def State.runOn (s : State) (c : Nat) : State :=
  let k := s.core c
  if s.coreState c != 2 && !k.package then s else (s.runOnMat c).runOnDma c

/-- The capture of the oldest stop not yet written begins: its units are read (R433). -/
def State.stopCapture (s : State) : State :=
  match s.gstop.capturing with
  | [] => { s with gstop := { s.gstop with records := [] } }
  | (job, _) :: _ => { s with gstop := { s.gstop with records := s.captureAll (s.stopUnits job) [] } }

/-- The stop of a scope at T: its units finish the items begun and take no new work, and its capture begins. Requests of equal T and JOB are one stop; a scope
already stopped is not stopped again (R428, R429, R433). -/
def State.globalStop (s : State) (t job : Nat) : State :=
  let s := if s.reg Reg.trcGstopT = t ∧ s.field Reg.trcGstopJ 0 12 = job then s.setReg Reg.trcGstopT 0 else s
  let s := { s with gstop := { s.gstop with sched := s.gstop.sched.filter (fun x => x != (t, job)) } }
  if s.stoppedBy job then s
  else
    let s := (s.stopCores job).foldl (fun (s : State) c => ((s.runOn c).shadowCore c).holdTrace c 2) s
    let s := if job = 0 then (List.range 10).foldl State.shadowTile s else s
    let first := s.gstop.capturing.isEmpty
    let s := { s with gstop := { s.gstop with stopped := s.gstop.stopped ++ [(job, t)], capturing := s.gstop.capturing ++ [(job, t)] } }
    if first then s.stopCapture else s

/-- GSTOP_REQUEST_WRITE: a write of TRC_GSTOP_T schedules a stop of the scope TRC_GSTOP_J names (R428). -/
def execGstopRequestWrite (pf : Nat) (value : BitVec 64) (s : State) : Host.Outcome State Fault Refusal :=
  hostWrite pf Reg.trcGstopT (fun s => s.setReg Reg.trcGstopT value.toNat) s

/-- GLOBAL_STOP: domain A has reached the T of a stop (R262, R429). -/
def execGlobalStop (s : State) : Host.Outcome State Fault Refusal :=
  act (fun s => !s.stopsDue.isEmpty)
    (fun s => match s.stopsDue with
      | (t, job) :: _ => s.globalStop t job
      | [] => s) s

/-- GLOBAL_STOP_CAPTURE_COMPLETE: the capture of a stop is written as a dump with CAUSE 0x3A; no reset follows (R433). -/
def execGlobalStopCaptureComplete (s : State) : Host.Outcome State Fault Refusal :=
  act (fun s => !s.gstop.capturing.isEmpty)
    (fun s => match s.gstop.capturing with
      | [] => s
      | (job, t) :: more =>
        let dump : Dump :=
          { Dump.blank with qent := 7, dom := 7, cause := 0x3A, tf := t, job := job, records := s.gstop.records, cores := s.stopCores job,
                            tiles := if job = 0 then List.range 10 else [] }
        let s := s.makeDump dump
        { s with gstop := { s.gstop with capturing := more } }.stopCapture) s

/-! ### The last parts of a dump (R426, R427, R432) -/

/-- Part 4: the shadows of the cores and tiles, the global counters, and the domain-A time of their reading, first and last. -/
def State.dumpCounters (s : State) (d : Dump) : List Byte :=
  d.cores.flatMap (fun c => (List.range 24).flatMap (fun j => toBytes 8 (s.reg (Reg.pmcCore c + 0x200 + 8 * j)))) ++
  d.tiles.flatMap (fun t => (List.range 64).flatMap (fun j => toBytes 8 (s.reg (Reg.pmcTile t + 0x600 + 8 * j)))) ++
  (List.range 256).flatMap (fun j => toBytes 8 (s.reg (Reg.pmcGlobal + 8 * j))) ++ toBytes 8 s.nowA ++ toBytes 8 s.nowA

/-- Part 5: the held trace buffers that have records. -/
def State.dumpTraces (s : State) (d : Dump) : List Byte :=
  (d.cores.filter (fun c => !(s.traceBuf c).recs.isEmpty)).flatMap (fun c =>
    let l := (s.traceBuf c).recs
    toBytes 8 (c + l.length * 2 ^ 8) ++ toBytes 4 (s.field (Reg.trcRwr c) 0 32) ++ toBytes 4 (s.field (Reg.trcRrd c) 0 32) ++
      l.flatMap traceBytes)

/-- A word of every count of R432: ENQ of the queues that have taken an item, TXF and RXF. Their order and the layout of the queue
contents that follow them no rule gives. -/
def QueueCounts.size (q : QueueCounts) : Nat := 16 * (q.enq.length + q.txf.length + q.rxf.length)

/-- Completes a dump: parts 4 to 6 behind what it holds, the copy of the first four parts to flash, COMPLETE last; the held trace
buffers are released, and of the dumps in flash the two most recent stay. -/
def State.completeDump (s : State) (slot : Nat) (d : Dump) : State :=
  let p4 := s.dumpCounters d
  let p5 := s.dumpTraces d
  let n6 := if d.qent = 7 then 8 + s.queues.size else 0
  let o4 := d.len
  let o5 := o4 + p4.length
  let o6 := o5 + p5.length
  let s := (s.dumpWrite d o4 p4).dumpWrite d o5 p5
  let s := match d.base with
    | some b => if n6 = 0 then s else s.memFree (b + o6) n6
    | none => s
  let d := { d with counters := p4, off4 := o4, off5 := if p5.isEmpty then 0 else o5, off6 := if n6 = 0 then 0 else o6, len := o6 + n6,
                    flashed := true, complete := true }
  let s := (s.dumpWrite d 0 d.header).setDump slot d
  let s := s.releaseTraces d.cores
  { s with rst := { s.rst with flashDumps := (d :: s.rst.flashDumps).take 2 } }

/-- DUMP_COMPLETE: the last parts of the dump of a slot are written (R427). Slot 4 is the dump that reached flash only. -/
def execDumpComplete (slot : Nat) (s : State) : Host.Outcome State Fault Refusal :=
  act (fun s => match Tab.find s.rst.dumps slot with
      | some d => !d.complete && d.off3 != 0
      | none => false)
    (fun s => match Tab.find s.rst.dumps slot with
      | some d => s.completeDump slot d
      | none => s) s

/-! ### TIME packets (R263) -/

/-- Acts at once on what a late TIME packet asked for. -/
def State.timeLate (s : State) (act t : Nat) : State :=
  (s.count Reg.timeActLate).raise 0x8007 (8, 0) [(8, act), (64, t)]

/-- A TIME packet is delivered: ACT 1 schedules a stop of the packet's JOB, ACT 2 the begin of a freeze unless one is in progress,
ACT 3 its end, at T. One that arrives after T acts at once. Another ACT fails check 5. -/
def State.timeDeliver (s : State) (p : Packet) : State :=
  let a := p.ext 0 4
  let t := p.ext 4 64
  if a = 0 ∨ 3 < a then s.count Reg.fabDiscType
  else
    let late := decide (t < s.nowA)
    let s := if late then s.timeLate a t else s
    if a = 1 then
      let s := { s with gstop := { s.gstop with sched := if s.gstop.sched.contains (t, p.job) then s.gstop.sched
                                                          else s.gstop.sched ++ [(t, p.job)] } }
      if late then s.globalStop t p.job else s
    else if a = 2 then
      if s.recorder.frozen.isSome then s
      else
        let s := { s with recorder := { s.recorder with freezeAt := s.recorder.freezeAt ++ [t] } }
        if late then s.freezeBegin t else s
    else
      let s := { s with recorder := { s.recorder with thawAt := s.recorder.thawAt ++ [t] } }
      if late then s.thawAct t true else s

/-- TIME_PACKET: a flooded TIME packet at the head of a buffer is forwarded and delivered (R226, R263). -/
def execTimePacket (port vc : Nat) (s : State) : Host.Outcome State Fault Refusal :=
  actLive (fun s => s.floodIs port vc (fun p => p.type == tyTime))
    (fun s => s.arriveNotice port vc (fun r s => s.timeDeliver r.packet)) s

end Sys2Proof.Machine
end

