-- ==== Sys2Proof/Machine/HostRegs.lean ====
section
/-! DEFINITION. BAR0 as software sees it (R10-R15, R460-R462): what each register reads as, what a write does, and the accesses that
are refused. -/

namespace Sys2Proof.Machine
open Sys2Proof

/-! ### Reading -/

/-- A word of the record window: zero behind the last record (R402). -/
def State.recWindow (s : State) (off : Nat) : Nat :=
  match s.recorder.store[(off - Reg.recWin) / 64]? with
  | some r => ofBytes ((r.bytes.drop (off % 64)).take 8)
  | none => 0

/-- REC_STAT: the counts of the recorder beside CLEARGEN (R409). -/
def State.recStat (s : State) : Nat :=
  let r := s.recorder
  r.store.length + b2n r.full * 2 ^ 17 + b2n r.frozen.isSome * 2 ^ 18 + r.staged * 2 ^ 19 + s.field Reg.recStat 32 16 * 2 ^ 32 +
    r.held.length * 2 ^ 48

/-- The value of a register whose offset is mapped, as a function sees it (2 for Isrek): most read as stored; live state is put
in where the layouts name it. -/
def State.regRead (s : State) (pf off : Nat) : Nat :=
  let v := s.reg (regKey pf off)
  if off < 0x600000 then
    match arrayIndex off 0x2000 0x20 192 with
    | some c => setBits v 0 3 (s.coreShown c)
    | none => v
  else if off = Reg.timeNow false then s.nowA
  else if off = Reg.timeNow true then s.nowB
  else if off = Reg.timeCount then s.time.count
  else if off = Reg.timeRate false then unsigned s.time.a.rate 32
  else if off = Reg.timeRate true then unsigned s.time.b.rate 32
  else if off = Reg.timeSlew false then unsigned s.time.a.slew 32
  else if off = Reg.timeSlew true then unsigned s.time.b.slew 32
  else if 0x1000000 ≤ off ∧ off < 0x1200000 ∧ off % 0x10000 = 8 then
    setBits v 16 16 (min 65535 (s.nme ((off - 0x1000000) / 0x10000)).armed.length)
  else if (arrayIndex off (Reg.fabPisteA 0) 0x10 16).isSome then setBits v 23 1 (b2n (s.drained ((off - Reg.fabPisteA 0) / 0x10)))
  else if off = Reg.recStat then s.recStat
  else if Reg.recWin ≤ off ∧ off < Reg.recWin + 65536 * 64 then s.recWindow off
  else if 0x3400000 ≤ off ∧ off < 0x3403000 ∧ off % 0x40 = 8 then
    setBits v 0 13 (s.traceBuf ((off - 0x3400000) / 0x40)).recs.length
  else if off = Reg.trcPort then setBits v 1 1 (v % 2)
  else if off = Reg.secNonce then (if pf = 0 then 0 else v)
  else if off = Reg.secKeyDev then keyId devIdKeys
  else if off = Reg.secKeyAlias then keyId s.aliasKeys
  else v

/-- Whether an offset is one of a counter of the PMC block: programmable, fixed, of a tile or global (R416). -/
def isCounter (off : Nat) : Bool :=
  (pmcAt off).isSome || (decide (0x3000000 ≤ off ∧ off < 0x30C0000) && (arrayIndex (off % 0x1000) 0x100 8 8).isSome)

/-- Why a read of one register is refused, if it is (R415, R460). -/
def State.readRefusal (s : State) (pf off : Nat) : Option Nat :=
  if pf < 2 ∧ !s.host.bs1Done ∧ 0x600000 ≤ off then some 5
  else match regInfo off with
    | none => some 4
    | some i => if pf = 0 ∧ i.priv then some 3 else none

/-- Reads one register for a function: its value, or 0 where the access is refused. A counter read leaves its time in PMC_LASTT
(R416). -/
def State.readOne (s : State) (pf off : Nat) : Nat × State :=
  match s.readRefusal pf off with
  | some k => (0, s.refuse k pf false off)
  | none => (s.regRead pf off, if isCounter off then s.setReg (Reg.pmcLastt pf) s.nowA else s)

/-- A completed read. -/
def State.readDone (s : State) (pf off v : Nat) : State := { s with out := s.out ++ [Output.read pf off (BitVec.ofNat 64 v)] }

/-- Reads n registers in ascending order (R460). -/
def State.readMany (s : State) (pf off : Nat) : Nat → State
  | 0 => s
  | n + 1 =>
    let r := s.readOne pf off
    (r.2.readDone pf off r.1).readMany pf (off + 8) n

/-- REGISTER_READ: a BAR0 read of one function: half a register, a register, or several whole ones; a narrower or misaligned read
returns 0 and is refused (R11, R460). -/
def execRegisterRead (pf offset bytes : Nat) (s : State) : Host.Outcome State Fault Refusal :=
  act (fun _ => decide (pf < 2))
    (fun s =>
      if bytes = 4 ∧ offset % 4 = 0 then
        let r := s.readOne pf (offset - offset % 8)
        r.2.readDone pf offset (bits r.1 (offset % 8 * 8) 32)
      else if bytes ≠ 0 ∧ bytes % 8 = 0 ∧ offset % 8 = 0 then s.readMany pf offset (bytes / 8)
      else (s.refuse 7 pf false offset).readDone pf offset 0) s

/-! ### Interrupt enables and the MSI-X table (R457, R463, R465) -/

/-- The causes of a function whose message is owed. -/
def State.owed (s : State) (pf : Nat) : Nat := if pf = 0 then s.host.owed0 else s.host.owed1

/-- Writes them. -/
def State.setOwed (s : State) (pf v : Nat) : State :=
  if pf = 0 then { s with host := { s.host with owed0 := v } } else { s with host := { s.host with owed1 := v } }

/-- A write of HIF_IRQ_EN: a cause latched while the link was down sends its message once it is enabled again. -/
def State.irqEnWrite (s : State) (pf v : Nat) : State :=
  let s := s.setReg (regKey pf Reg.hifIrqEn) (v &&& 0xFF)
  let send := (List.range 8).filter (fun b => bit (s.owed pf) b && bit v b && s.flag (regKey pf Reg.hifIrqStat) b)
  if s.flag Reg.hifStat 0 then
    let s := send.foldl (fun (s : State) b => s.msix pf b) s
    s.setOwed pf (send.foldl (fun m b => setBits m b 1 0) (s.owed pf))
  else s

/-- A write of HIF_IRQ_STAT: ones clear causes. -/
def State.irqStatWrite (s : State) (pf v : Nat) : State :=
  let k := regKey pf Reg.hifIrqStat
  let keep (x : Nat) : Nat := x - (x &&& (v &&& 0xFF))
  (s.setReg k (keep (s.reg k))).setOwed pf (keep (s.owed pf))

/-- A write of the MSI-X table: a message left pending is sent when its vector is unmasked. -/
def State.msixWrite (s : State) (pf off v : Nat) : State :=
  let n := (off - Reg.msixTable) / 16
  if off % 16 = 0 then s.setReg (regKey pf off) v
  else
    let s := s.setReg (regKey pf off) (v &&& 0x1FFFFFFFF)
    if !bit v 32 && s.flag (regKey pf Reg.msixPba) n && s.flag Reg.hifStat 0 then
      (s.setField (regKey pf Reg.msixPba) n 1 0).msix pf n
    else s

/-! ### HIF_OFFLINE (R467, R468) -/

/-- A write of HIF_OFFLINE: GO withdraws both fabric tiles at once, unless a piste entry is ACTIVE. Event 0xC00B carries 0
accepted, 1 refused, 2 ready. -/
def State.offlineWrite (s : State) (v : Nat) : State :=
  if !bit v 0 || s.host.offlineT.isSome then s
  else if (List.range 16).any (fun e => pisteCode (s.reg (Reg.fabPisteA e)) == 0) then s.raise 0xC00B (8, 0) [(8, 1)]
  else
    let s := { s with host := { s.host with offlineT := some (s.nowA + 10000) } }
    let s := [0, 1].foldl (fun (s : State) f => if s.tileUp f then s.announce f else s) s
    s.raise 0xC00B (8, 0) [(8, 0)]

/-! ### Writing -/

/-- Whether a write of a register has an effect of its own. Each clause hands it to the unit. -/
def State.unitWrite (s : State) (pf off v : Nat) : Option State :=
  if off = Reg.hifIrqEn then some (s.irqEnWrite pf v)
  else if off = Reg.hifIrqStat then some (s.irqStatWrite pf v)
  else if 0x4000 ≤ off ∧ off < 0x4080 then some (s.msixWrite pf off v)
  else if off = Reg.hifOffline then some (s.offlineWrite v)
  else if (arrayIndex off 0x2008 0x20 192).isSome then some (s.cexc0Write ((off - 0x2008) / 0x20) v)
  else if off = Reg.timeCfg false then some (s.timeCfgWrite false v)
  else if off = Reg.timeCfg true then some (s.timeCfgWrite true v)
  else if off = Reg.timeSet false then some (s.timeSetWrite false v)
  else if off = Reg.timeSet true then some (s.timeSetWrite true v)
  else if off = Reg.timeRate false then some (s.timeRateWrite false v)
  else if off = Reg.timeRate true then some (s.timeRateWrite true v)
  else if off = Reg.timeSlew false then some (s.timeSlewWrite false v)
  else if off = Reg.timeSlew true then some (s.timeSlewWrite true v)
  else if off = Reg.timeSwitch then some (s.timeSwitchWrite v)
  else if 0x1000000 ≤ off ∧ off < 0x1200000 ∧ off % 0x10000 = 0x28 then some (s.wspillWrite ((off - 0x1000000) / 0x10000) v)
  else if 0x1000000 ≤ off ∧ off < 0x1200000 ∧ off % 0x10000 = 0x30 then
    let i := (off - 0x1000000) / 0x10000
    let x := s.reg off
    let s := s.setReg off (x - (x &&& (v &&& 0x3000000)))
    some (s.setField (Reg.nmeStat i) 1 1 (b2n (s.flag off 24)))
  else if off = Reg.fabNode then some (s.fabNodeWrite v)
  else if off = Reg.fabWithdraw then some (s.fabWithdrawWrite v)
  else if (arrayIndex off (Reg.fabPisteA 0) 0x10 16).isSome then some (s.pisteWrite ((off - Reg.fabPisteA 0) / 0x10) v)
  else if (arrayIndex off (Reg.fabPort 0) 0x10000 12).isSome then some (s.portCtlWrite ((off - Reg.fabPort 0) / 0x10000) v)
  else if off = Reg.gateCtl then some (s.gateCtlWrite v)
  else if off = Reg.gateLoad then some (s.gateLoadWrite v)
  else if off = Reg.gateResolve then some (s.gateResolveWrite v)
  else if off = Reg.grmCmd then some (s.grmCmdWrite v)
  else if off = Reg.grmProb then some (s.grmProbWrite v)
  else if off = Reg.rstReq then some (s.rstReqWrite v)
  else if off = Reg.rstIsol then some (s.rstIsolWrite v)
  else if off = Reg.ckpCmd then some (s.ckpCmdWrite v)
  else if off = Reg.recCtl then some (s.recCtlWrite v)
  else if (arrayIndex off (Reg.iskClkcap 0) 8 8).isSome then
    some ((s.setReg off (v &&& 0xFFF)).clockTile ((off - Reg.iskClkcap 0) / 8))
  else if (pmcAt off).isSome then some (s.pmcWrite off v 0)
  else if 0x3400000 ≤ off ∧ off < 0x3403000 ∧ off % 0x40 = 0 then some (s.trcCtlWrite ((off - 0x3400000) / 0x40) v)
  else if 0x3400000 ≤ off ∧ off < 0x3403000 ∧ off % 0x40 = 0x10 then some (s.trcRingWrite ((off - 0x3400000) / 0x40) true v)
  else if 0x3400000 ≤ off ∧ off < 0x3403000 ∧ off % 0x40 = 0x18 then some (s.trcRingWrite ((off - 0x3400000) / 0x40) false v)
  else none

/-- A 64-bit write of a mapped register: RW bits take the value, ones clear W1C bits, RO and RSV bits keep theirs (R13, R14), or
what its unit does with it. -/
def State.regWrite (s : State) (pf off v : Nat) : State :=
  match s.unitWrite pf off v with
  | some s => s
  | none =>
    match regInfo off with
    | none => s
    | some i =>
      let k := regKey pf off
      let x := s.reg k
      s.setReg k (((x - (x &&& i.rw)) - ((x - (x &&& i.rw)) &&& (v &&& i.w1c))) + (v &&& i.rw))

/-- A write of one register by a function: performed, or refused (R460). -/
def State.writeReg (s : State) (pf off v : Nat) : State :=
  match s.writeRefusal pf off with
  | some k => s.refuse k pf false off
  | none => s.regWrite pf off v

/-- Writes registers in ascending order (R460). -/
def State.writeMany (s : State) (pf off : Nat) : List (BitVec 64) → State
  | [] => s
  | v :: t => (s.writeReg pf off v.toNat).writeMany pf (off + 8) t

/-- REGISTER_WRITE: a BAR0 write. One narrower than 64 bits is refused, and so is a misaligned one (R11, R460). -/
def execRegisterWrite (pf offset bytes : Nat) (values : List (BitVec 64)) (s : State) : Host.Outcome State Fault Refusal :=
  act1 (fun s =>
    if bytes < 8 then s.refuse 1 pf false offset
    else if bytes % 8 ≠ 0 ∨ offset % 8 ≠ 0 then s.refuse 7 pf false offset
    else s.writeMany pf offset (values.take (bytes / 8))) s

/-- HIF_APER_WRITE: moves a function's BAR2 window (R461). -/
def execHifAperWrite (pf : Nat) (value : BitVec 64) (s : State) : Host.Outcome State Fault Refusal :=
  hostWrite pf Reg.hifAper (fun s => s.regWrite pf Reg.hifAper value.toNat) s

/-- OFFLINE_GO: a write of HIF_OFFLINE (R468). -/
def execOfflineGo (pf : Nat) (value : BitVec 64) (s : State) : Host.Outcome State Fault Refusal :=
  hostWrite pf Reg.hifOffline (fun s => s.offlineWrite value.toNat) s

/-- OFFLINE_POWER_REMOVE: 2,000 ns after the T of the withdrawal, main-domain power is removed, the staging queue is in flash, and
READY is set (R468). -/
def execOfflinePowerRemove (s : State) : Host.Outcome State Fault Refusal :=
  act (fun s => match s.host.offlineT with
      | some t => decide (t + 2000 ≤ s.nowA)
      | none => false)
    (fun s =>
      let s := s.mainOff
      let s := { s with recorder := { s.recorder with flashed := s.recorder.store.length }, host := { s.host with offlineT := none } }
      ((s.setFlag Reg.hifStat 8).setFlag Reg.hifOffline 1).raise 0xC00B (8, 0) [(8, 2)]) s

/-! ### BAR2 (R458, R461) -/

/-- The device address of a BAR2 offset of a function. -/
def State.bar2Addr (s : State) (pf off : Nat) : Nat := s.field (regKey pf Reg.hifAper) 30 18 * 2 ^ 30 + off % 2 ^ 36

/-- Why a BAR2 request is refused: before BS5, or an address outside the backed map. -/
def State.bar2Refusal (s : State) (pf off n : Nat) : Option Nat :=
  if !s.host.bs5Done then some 5 else if !s.backed (s.bar2Addr pf off) n then some 6 else none

/-- BAR2_WRITE: lands in HBM, in the order of the commands (R461). -/
def execBar2Write (pf offset : Nat) (data : List Byte) (s : State) : Host.Outcome State Fault Refusal :=
  act1 (fun s => match s.bar2Refusal pf offset data.length with
    | some k => s.refuse k pf true offset
    | none => s.memWrite (s.bar2Addr pf offset) data) s

/-- BAR2_READ: the data of HBM; 0xFF bytes where refused; a poisoned completion, counted, where HBM gives no data (R457, R461). -/
def execBar2Read (pf offset bytes : Nat) (s : State) : Host.Outcome State Fault Refusal :=
  act1 (fun s => match s.bar2Refusal pf offset bytes with
    | some k =>
      let s := s.refuse k pf true offset
      { s with out := s.out ++ [Output.bar2 pf offset (List.replicate bytes 0xFF) false] }
    | none =>
      match s.memRead (s.bar2Addr pf offset) bytes with
      | (l, none, s) => { s with out := s.out ++ [Output.bar2 pf offset l false] }
      | (_, some _, s) =>
        let s := s.count Reg.hifBar2Poison
        { s with out := s.out ++ [Output.bar2 pf offset [] true] }) s

/-! ### The link (R456, R463) -/

/-- PCI Express state of a function takes its reset: HIF_APER, HIF_IRQ_EN, the MSI-X table and PBA; the causes latched owe a
message (R463, R464). -/
def State.functionReset (s : State) (pf : Nat) : State :=
  let s := (s.resetReg (regKey pf Reg.hifAper)).resetReg (regKey pf Reg.hifIrqEn)
  let s := (s.resetRegs (regKey pf 0x4000) (regKey pf 0x4000 + 0x80)).resetReg (regKey pf Reg.msixPba)
  s.setOwed pf (s.reg (regKey pf Reg.hifIrqStat))

/-- The link goes down or is reset: both functions take their resets; the loss of a link that was up is counted and recorded. -/
def State.linkLost (s : State) (cause : Nat) : State :=
  let was := s.flag Reg.hifStat 0
  let s := (s.functionReset 0).functionReset 1
  if was then
    ((s.setField Reg.hifStat 0 8 0).count Reg.hifLinkdown).raise 0xC006 (8, 0) [(8, cause)]
  else s

/-- LINK_UP: the link is in L0 at a rate code and width; below 128 GT/s or x8 it is reported degraded (R456, R463, R465). -/
def execLinkUp (rate width : Nat) (s : State) : Host.Outcome State Fault Refusal :=
  act (fun s => s.host.auxIn && !s.flag Reg.hifStat 0)
    (fun s =>
      let s := s.setField Reg.hifStat 0 8 (1 + rate % 8 * 2 + width % 16 * 16)
      let s := [0, 1].foldl (fun (s : State) pf => s.setOwed pf (s.reg (regKey pf Reg.hifIrqStat))) s
      let s := s.raise 0xC005 (8, 0) [(8, rate), (8, width)]
      if rate < 6 ∨ width < 8 then s.raise 0xC007 (8, 0) [(8, rate), (8, width)] else s) s

/-- LINK_DOWN: the link goes down by surprise (R463). -/
def execLinkDown (s : State) : Host.Outcome State Fault Refusal :=
  act (fun s => s.flag Reg.hifStat 0) (fun s => s.linkLost 0) s

/-- PERST_ASSERT (R463). -/
def execPerstAssert (s : State) : Host.Outcome State Fault Refusal := act1 (fun s => s.linkLost 2) s

/-- HOT_RESET (R463). -/
def execHotReset (s : State) : Host.Outcome State Fault Refusal :=
  act (fun s => s.flag Reg.hifStat 0) (fun s => s.linkLost 1) s

/-- FUNCTION_LEVEL_RESET: one function only (R463). -/
def execFunctionLevelReset (pf : Nat) (s : State) : Host.Outcome State Fault Refusal :=
  act (fun s => decide (pf < 2) && s.flag Reg.hifStat 0)
    (fun s => (s.functionReset pf).raise 0xC006 (8, 0) [(8, 3)]) s

end Sys2Proof.Machine
end

