-- ==== Sys2Proof/Machine/Mbox.lean ====
section
/-! DEFINITION. The Isrek mailbox and IMP (R392, R394, R395): how a request is taken from its slot or frame, run once by its TAG, and
answered; and the register writes of a command that a handover repeats (R385). A place is 0-15 for a slot of BAR4, 16 and 17
for the frame at the head of a management port's buffer, 18 for DOE. -/

namespace Sys2Proof.Machine
open Sys2Proof

/-! ### Slots (R394) -/

/-- The requester of a place: 0 the mailbox, 1 + p port p, 3 DOE. -/
def requester (src : Nat) : Nat := if src < 16 then 0 else src - 15

/-- Writes bytes of the mailbox. -/
def State.mboxPut (s : State) (off : Nat) (l : List Byte) : State :=
  s.modIsk (fun (k : Isk) => { k with mbox := putBytes k.mbox off l })

/-- The slot as its host completed it: header and payload. -/
def State.slotFill (s : State) (src : Nat) (q : Datagram) : State :=
  if src < 16 then
    let head := toBytes 8 (1 + q.op % 256 * 2 ^ 8 + q.tag % 2 ^ 32 * 2 ^ 16) ++ toBytes 8 (q.payload.length % 2 ^ 13) ++
      toBytes 8 0 ++ toBytes 8 q.word18.toNat ++ toBytes 8 q.word20.toNat ++ List.replicate 24 0
    s.mboxPut (4096 * src) (head ++ q.payload.take 4032)
  else s

/-- Writes STATE of a slot, with ERR, RLEN and the result. -/
def State.slotState' (s : State) (src op tag st err : Nat) (r : List Byte) : State :=
  if src < 16 then
    let s := s.mboxPut (4096 * src) (toBytes 8 (1 + st * 2 + op % 256 * 2 ^ 8 + tag % 2 ^ 32 * 2 ^ 16))
    (s.mboxPut (4096 * src + 16) (toBytes 8 (err % 256 + r.length % 2 ^ 13 * 2 ^ 8))).mboxPut (4096 * src + 64) r
  else s

/-- Hands a completed command's answer to its requester: a slot is written back with the interrupt of cause 5, a frame is answered
on its port and leaves the buffer. -/
def State.reply (s : State) (src op tag err : Nat) (r : List Byte) : State :=
  if src < 16 then (s.slotState' src op tag (if err = 0 then 1 else 2) err r).irq 1 5
  else if src < 18 then
    let p := src - 16
    let s := s.modIsk (fun (k : Isk) => { k with frames := Tab.put k.frames [] p ((Tab.get k.frames [] p).drop 1),
                                                 recent := Tab.put k.recent [] p (Tab.get k.recent [] p ++ (Tab.get k.frames [] p).take 1) })
    { s with out := s.out ++ [Output.imp p op tag err r] }
  else { s with out := s.out ++ [Output.doe r] }

/-- A command completes: its result is kept under its TAG; a refusal is counted and recorded (R394, R405). -/
def State.answer (s : State) (src op tag err : Nat) (r : List Byte) : State :=
  let r := r.take 4032
  let s := s.modIsk (fun (k : Isk) => { k with done := Tab.insert k.done (requester src) { tag := tag, err := err, result := r } })
  let s := s.globalEvent 0x007
  let s := if err = 0 then s else (s.count Reg.iskMbxRej).raise 0x000C (8, 0) [(8, op), (8, err), (32, tag)]
  s.reply src op tag err r

/-! ### Running a command -/

/-- The frame at the head of a port's buffer. -/
def State.frameHead (s : State) (p : Nat) : Option Datagram := (Tab.get s.isk.frames [] p).head?

/-- Whether the active controller can take a request of one of the OPs: mailbox and ports are in service, the place holds the
request and runs no other command (R386, R394). -/
def State.mboxTakes (s : State) (src : Nat) (q : Datagram) (ops : Nat → Bool) : Bool :=
  s.host.bs1Done && s.iskActive && ops q.op && decide (q.tag < 2 ^ 32) && decide (src < 18) &&
  (decide (src < 16) || s.frameHead (src - 16) == some q) &&
  !s.isk.long.any (fun (l : LongCmd) => l.src == src) && s.isk.swap.all (fun x => x.1 != src)

/-- Runs a request once: one whose TAG is not above the last completed one is answered from the recorded result; otherwise the
body answers with ERR and a result, or leaves the command running (STATE 3). -/
def State.mboxRun (s : State) (src : Nat) (q : Datagram)
    (body : State → Option (Nat × List Byte) × State) : State :=
  let s := s.slotFill src q
  match Tab.find s.isk.done (requester src) with
  | some d => if q.tag ≤ d.tag then s.reply src q.op q.tag d.err d.result else fresh s
  | none => fresh s
where
  /-- A request not yet completed. -/
  fresh (s : State) : State :=
    if 4032 < q.payload.length then s.answer src q.op q.tag 1 []
    else match body s with
      | (some (e, r), s) => s.answer src q.op q.tag e r
      | (none, s) => s.slotState' src q.op q.tag 3 0 []

/-- A mailbox or IMP command. -/
def mbox (ops : Nat → Bool) (src : Nat) (q : Datagram) (body : State → Option (Nat × List Byte) × State) (s : State) :
    Host.Outcome State Fault Refusal :=
  act (fun s => s.mboxTakes src q ops) (fun s => s.mboxRun src q body) s

/-- Whether the arbiter has seen register write number `k` of the command under this TAG pass already (R385). -/
def State.writePassed (s : State) (src tag k : Nat) : Bool :=
  match s.isk.passed with
  | some (r, t, n) => r == requester src && t == tag && decide (k < n)
  | none => false

/-- Register write number `k` of a command: skipped where it has passed already (R385). -/
def State.onceWrite (s : State) (src tag k : Nat) (f : State → State) : State :=
  if s.writePassed src tag k then s
  else (f s).modIsk (fun (x : Isk) => { x with passed := some (requester src, tag, k + 1) })

/-! ### Commands without signatures (R395) -/

/-- 64-bit words of a payload. -/
def payloadWords (l : List Byte) : List Nat := (List.range (l.length / 8)).map (fun i => wordAt l (8 * i))

/-- INFO: identification, status, MAC addresses, and the controllers' image versions, whose values no rule gives. -/
def execInfo (src : Nat) (request : Datagram) (s : State) : Host.Outcome State Fault Refusal :=
  mbox (· == 0x01) src request (fun s =>
    let f := s.fresh
    let g := f.2.fresh
    (some (0, toBytes 8 (s.reg Reg.hifId) ++ toBytes 8 (s.reg Reg.iskStat) ++ toBytes 8 (s.reg (Reg.fuseMac 0)) ++
      toBytes 8 (s.reg (Reg.fuseMac 1)) ++ toBytes 8 f.1 ++ toBytes 8 g.1), g.2)) s

/-- RDREG: the values of up to 64 registers, given by 64-bit offsets. -/
def execRdreg (src : Nat) (request : Datagram) (s : State) : Host.Outcome State Fault Refusal :=
  mbox (· == 0x02) src request (fun s =>
    let l := request.payload
    if l.length % 8 ≠ 0 ∨ 512 < l.length then (some (1, []), s)
    else
      (some (0, (payloadWords l).flatMap (fun off => toBytes 8 (match s.readRefusal 2 off with
        | some _ => 0
        | none => s.regRead 2 off))), s)) s

/-- Writes (offset, value) pairs in order until one is refused: whether all were written. A write that has passed is not judged
again. -/
def State.writeList (s : State) (src tag k : Nat) : List Nat → Bool × State
  | off :: v :: t =>
    if s.writePassed src tag k then s.writeList src tag (k + 1) t
    else
      match s.writeRefusal 2 off with
      | some _ => (false, s)
      | none => (s.onceWrite src tag k (fun s => s.regWrite 2 off v)).writeList src tag (k + 1) t
  | _ => (true, s)

/-- WRREG: up to 64 register writes in order; the first refused one stops the list with ERR 4. -/
def execWrreg (src : Nat) (request : Datagram) (s : State) : Host.Outcome State Fault Refusal :=
  mbox (· == 0x03) src request (fun s =>
    let l := request.payload
    if l.length % 16 ≠ 0 ∨ 1024 < l.length then (some (1, []), s)
    else
      let r := s.writeList src request.tag 0 (payloadWords l)
      (some (if r.1 then 0 else 4, []), r.2)) s

/-- RDREC: up to 62 records from a SEQ on (R402). -/
def execRdrec (src : Nat) (request : Datagram) (s : State) : Host.Outcome State Fault Refusal :=
  mbox (· == 0x04) src request (fun s =>
    let first := request.word18.toNat % 2 ^ 32
    let l := (s.recorder.store.filter (fun r => decide (first ≤ r.seq))).take 62
    (some (0, l.flatMap Record.bytes), s)) s

/-- SENSORS: every ISK_SENS_k with VALID = 1, each behind its number. -/
def execSensors (src : Nat) (request : Datagram) (s : State) : Host.Outcome State Fault Refusal :=
  mbox (· == 0x06) src request (fun s =>
    let l := (List.range 0x80).filter (fun k => s.flag (Reg.iskSens k) 32)
    (some (0, l.flatMap (fun k => toBytes 8 k ++ toBytes 8 (s.reg (Reg.iskSens k)))), s)) s

/-- FREEZE: T is written to REC_FREEZE (R403). -/
def execFreeze (src : Nat) (request : Datagram) (s : State) : Host.Outcome State Fault Refusal :=
  mbox (· == 0x07) src request (fun s =>
    (some (0, []), s.onceWrite src request.tag 0 (fun s => s.setReg Reg.recFreeze request.word18.toNat))) s

/-- SWAP: an orderly handover to a STANDBY controller, at the end of this cycle; repeated by the new controller, it finds the
handover complete (R385). -/
def execSwap (src : Nat) (request : Datagram) (s : State) : Host.Outcome State Fault Refusal :=
  mbox (· == 0x08) src request (fun s =>
    if s.isk.swapped = some (src, request.tag) then (some (0, []), s.modIsk (fun (k : Isk) => { k with swapped := none }))
    else if s.ctl (1 - s.isk.owner.getD 0) = ctlStandby ∧ s.isk.swap.isNone then
      (none, s.modIsk (fun (k : Isk) => { k with swap := some (src, request.tag) }))
    else (some (3, []), s)) s

/-- NETCFG: the addresses, DHCP and NTP settings of the ports; their layout the manual leaves open. -/
def execNetcfg (src : Nat) (request : Datagram) (s : State) : Host.Outcome State Fault Refusal :=
  mbox (· == 0x0C) src request (fun s =>
    (some (0, []), s.onceWrite src request.tag 0 (fun s => s.modIsk (fun (k : Isk) => { k with netcfg := request.payload })))) s

/-- REPORT: a request with OP 0x0E, or any OP of no command, is refused with ERR 1. -/
def execReport (src : Nat) (request : Datagram) (s : State) : Host.Outcome State Fault Refusal :=
  mbox (fun op => op == 0 || decide (0x0E ≤ op)) src request (fun s => (some (1, []), s)) s

end Sys2Proof.Machine
end

