-- ==== Sys2Proof/Machine/Envelope.lean ====
section
/-! DEFINITION. Signed envelopes (R439-R441), measurement registers (R446), the firmware banks (R449, R450), Groomer packages
(R311), and the derivation of Alias (R438). -/

namespace Sys2Proof.Machine
open Sys2Proof

/-! ### Envelopes (R440) -/

/-- A little-endian field of `n` bytes. -/
def le (l : List Byte) (off n : Nat) : Nat := ofBytes ((l.drop off).take n)

def envType (h : List Byte) : Nat := le h 4 1
def envKslot (h : List Byte) : Nat := le h 5 1
def envSvn (h : List Byte) : Nat := le h 8 4
def envLen (h : List Byte) : Nat := le h 0xC 4
def envTarget (h : List Byte) : Nat := le h 0x10 2
def envNonce (h : List Byte) : Nat := le h 0x18 8
def envKeys (h : List Byte) : List Byte := (h.drop 0x80).take 1984
def envMessage (h : List Byte) : List Byte := h.take 0x840
def envSigEd (h : List Byte) : List Byte := (h.drop 0x840).take 64
def envSigMd (h : List Byte) : List Byte := (h.drop 0x880).take 3309

/-- Whether a range of bytes is zero. -/
def zeroBytes (h : List Byte) (off n : Nat) : Bool := ((h.drop off).take n).all (· == 0)

/-- Whether KSLOT names a vendor slot. -/
def vendorSlot (k : Nat) : Bool := decide (k < 4)

/-- Whether KSLOT names an owner slot. -/
def ownerSlot (k : Nat) : Bool := decide (0x10 ≤ k ∧ k ≤ 0x13)

/-- Check 0x01: MAGIC, reserved bytes and field ranges. -/
def envFormOk (h : List Byte) : Bool :=
  let t := envType h
  decide (h.length = envBytes) && le h 0 4 == 0x47534B31 && decide (1 ≤ t ∧ t ≤ 7) &&
  (vendorSlot (envKslot h) || ownerSlot (envKslot h)) && decide (envSvn h ≤ 63) && (decide (t ≤ 5) || envSvn h == 0) &&
  decide (envLen h ≤ 64 * 2 ^ 20) && (!bit (envTarget h) 15 || decide (t ≤ 6)) && (t == 7 || envNonce h == 0) &&
  zeroBytes h 6 2 && zeroBytes h 0x12 6 && zeroBytes h 0x50 0x30 && zeroBytes h 0x156D 0x13

/-- The counter of TYPE 0x01-0x05 in SEC_FUSE (R453). -/
def State.svnFuse (s : State) (t : Nat) : Nat := s.field Reg.secFuse (6 * t - 4) 6

/-- KEPOCH. -/
def State.kepoch (s : State) : Nat := s.field Reg.secFuse 0 2

/-- Check 0x03: the keys are those fused or installed for KSLOT. -/
def State.envKeyOk (s : State) (h : List Byte) : Bool :=
  let k := envKslot h
  if vendorSlot k then ofBytes (sha384 (envKeys h)) == (Config.vendorHash k).toNat
  else match Tab.find s.sec.owners (k - 0x10) with
    | some keys => keys == envKeys h
    | none => false

/-- The checks of R441 in order: the first failing code, 0 where all pass. `allowed` is check 0x02, what the path permits. -/
def State.envVerify (s : State) (h payload : List Byte) (allowed : Bool) : Nat :=
  let t := envType h
  if !envFormOk h then 0x01
  else if !allowed then 0x02
  else if !s.envKeyOk h then 0x03
  else if vendorSlot (envKslot h) && decide (envKslot h < s.kepoch) then 0x04
  else if !edOk (envKeys h) (envMessage h) (envSigEd h) then 0x05
  else if !mdOk (envKeys h) (envMessage h) (envSigMd h) then 0x06
  else if (h.drop 0x20).take 48 != sha384 payload then 0x07
  else if decide (t ≤ 5) && decide (envSvn h < s.svnFuse t) then 0x08
  else if !bit (envTarget h) 15 && envTarget h != s.own.node then 0x09
  else if t == 7 && envNonce h != s.reg Reg.secNonce then 0x0A
  else 0

/-- An object has been judged: counted; a rejection leaves its code in SEC_BOOT and, but for a signed command, event 0x003. -/
def State.objectJudged (s : State) (h : List Byte) (code : Nat) : State :=
  if code = 0 then s.count Reg.secAccept
  else
    let s := (s.count Reg.secReject).setField Reg.secBoot 5 8 code
    if envType h = 7 then s else s.raise 0xB003 (8, 0) [(8, envType h), (8, code), (8, envKslot h)]

/-! ### Free digests -/

/-- Fresh free bytes. -/
def State.freshBytes (s : State) (n : Nat) : List Byte × State :=
  ((List.range n).map (fun i => BitVec.ofNat 8 (Config.freeValue (s.freeIndex + i))), { s with freeIndex := s.freeIndex + n })

/-- Extends a register with a digest whose input no rule lays out: the owner store, the fuse counters. -/
def State.extendFree (s : State) (r : Nat) : State :=
  let f := s.freshBytes 48
  f.2.extend r f.1

/-! ### Groomer packages (R311) -/

/-- The longest TLIM of a KIND. -/
def sectionLimit (kind : Nat) : Nat := ([2, 200, 500, 15000][kind]?).getD 0

/-- A section entry of 32 bytes. -/
def sectionOf (l : List Byte) (k : Nat) : Section :=
  let w0 := le l (16 + 32 * k) 4
  { kind := bits w0 0 2, engine := bits w0 2 2, sub := bits w0 4 8, tlim := bits w0 16 16, imoff := le l (20 + 32 * k) 4,
    imlen := le l (24 + 32 * k) 4, csbase := le l (28 + 32 * k) 3, cslen := le l (32 + 32 * k) 3, misr := le l (40 + 32 * k) 8 }

/-- The engine and SUB pairs HIF_CEXC1 can report: residue stages of the arrays and of the vector unit, the three matrix
checks, and 0. -/
def targetPairs : List (Nat × Nat) :=
  [(0, 0), (1, 0), (1, 1), (1, 2), (1, 3), (1, 4), (1, 5), (1, 6), (2, 0), (2, 7), (3, 0)]

/-- A package of a payload: none where its header, a limit or the sections it must have are not right. -/
def packageOf (l : List Byte) : Option Package :=
  let n := le l 8 2
  let secs := (List.range n).map (sectionOf l)
  let ok := decide (1 ≤ n ∧ n ≤ 64 ∧ 16 + 32 * n ≤ l.length) &&
    secs.all (fun (x : Section) => decide (x.tlim ≤ sectionLimit x.kind ∧ x.imoff % 8 = 0 ∧ x.csbase % 64 = 0 ∧ x.cslen ≤ 2 * 2 ^ 20)) &&
    [0, 1, 3].all (fun k => secs.any (fun (x : Section) => x.kind == k)) &&
    targetPairs.all (fun p => secs.any (fun (x : Section) => x.kind == 2 && x.engine == p.1 && x.sub == p.2))
  if ok then some { id := le l 0 4, version := le l 4 4, sections := secs, pdig := [], svn := 0, len := l.length } else none

/-! ### Flash areas (R449, R450) -/

/-- Bytes of a bank, and of the Groomer package area. -/
def bankSize : Nat := 64 * 2 ^ 20
def pkgSize : Nat := 16 * 2 ^ 20

/-- A bank. -/
def Sec.bank (x : Sec) (b : Nat) : Bank := if b = 0 then x.bank0 else x.bank1

/-- Writes a bank. -/
def Sec.setBank (x : Sec) (b : Nat) (k : Bank) : Sec := if b = 0 then { x with bank0 := k } else { x with bank1 := k }

/-- Where the envelope of a TYPE lies in a bank: the first place aligned to 4 KiB with MAGIC and that TYPE. -/
def bankFind (t : Tab Byte) (type : Nat) : Option Nat :=
  ((List.range (bankSize / 4096)).map (4096 * ·)).find? (fun o =>
    le (areaBytes t o 4) 0 4 == 0x47534B31 && Tab.get t 0 (o + 4) == BitVec.ofNat 8 type)

/-- What a bank holds of a TYPE: the code of its verification, its PDIG and its SVN. As shipped, images are of vendor slot 0 and
SVN 0. -/
def State.bankImage (s : State) (b type : Nat) : Nat × List Byte × Nat :=
  let k := s.sec.bank b
  if k.shipped then
    (if 0 < s.kepoch then 0x04 else if 0 < s.svnFuse type then 0x08 else 0,
      toBytes 48 (Config.shippedDigest type).toNat, 0)
  else match bankFind k.bytes type with
    | none => (0x01, [], 0)
    | some o =>
      let h := areaBytes k.bytes o envBytes
      let p := areaBytes k.bytes (o + envBytes) (min (envLen h) bankSize)
      (s.envVerify h p (vendorSlot (envKslot h)), (h.drop 0x20).take 48, envSvn h)

/-- The first TYPE of a bank that fails, with its code. -/
def State.bankFails (s : State) (b : Nat) : Option (Nat × Nat) :=
  ([1, 2, 3, 4].map (fun t => (t, (s.bankImage b t).1))).find? (fun x => x.2 != 0)

/-- The running bank, and the idle one. -/
def State.bankCur (s : State) : Nat := s.field Reg.secBoot 0 1
def State.bankIdle (s : State) : Nat := 1 - s.bankCur

end Sys2Proof.Machine
end

