-- ==== Sys2Proof/Machine/Sec.lean ====
section
/-! DEFINITION. Signed commands (R443, R444), CLRREC (R404), firmware and package staging (R449), and the end of commands that run
on (R394). -/

namespace Sys2Proof.Machine
open Sys2Proof

/-! ### Fragments (R443) -/

/-- The fragments of an envelope a request adds to, as (offset, bytes); none where it would pass the end of the buffer. -/
def State.withFragment (s : State) (src : Nat) (q : Datagram) : Option (List (Nat × List Byte)) :=
  let off := q.word18.toNat % 2 ^ 32
  if 65536 < off + q.payload.length then none
  else some (Tab.get s.sec.frags [] (requester src) ++ [(off, q.payload)])

/-- The bytes of an assembly buffer. -/
def assembled (l : List (Nat × List Byte)) : Tab Byte := l.foldl (fun t x => putBytes t x.1 x.2) []

/-- Whether every byte below n is present. -/
def covered (l : List (Nat × List Byte)) (n : Nat) : Bool :=
  (List.range n).all (fun i => l.any (fun x => decide (x.1 ≤ i ∧ i < x.1 + x.2.length)))

/-- LEN of the envelope in an assembly buffer. -/
def assembledLen (l : List (Nat × List Byte)) : Nat := le (areaBytes (assembled l) 0xC 4) 0 4

/-- Whether a request completes its envelope: the last fragment has come, and every byte up to the end of the payload. -/
def State.completes (s : State) (src : Nat) (q : Datagram) : Bool :=
  match s.withFragment src q with
  | none => false
  | some l =>
    (s.sec.lasts.contains (requester src) || q.word18.getLsbD 32) &&
      (covered l envBytes && (decide (60032 < assembledLen l) || covered l (envBytes + assembledLen l)))

/-- CMD of the envelope a request completes. -/
def State.completedCmd (s : State) (src : Nat) (q : Datagram) : Nat :=
  match s.withFragment src q with
  | some l => (Tab.get (assembled l) 0 envBytes).toNat
  | none => 0

/-! ### The commands (R444) -/

/-- Whether an owner slot is installed. -/
def State.ownerIn (s : State) (k : Nat) : Bool := (Tab.find s.sec.owners k).isSome

/-- OWNERS and NKEYS of SEC_FUSE. -/
def State.storesShown (s : State) : State :=
  let m := ((List.range 4).map (fun k => b2n (s.ownerIn k) * 2 ^ k)).foldl (· + ·) 0
  (s.setField Reg.secFuse 32 4 m).setField Reg.secFuse 36 7 s.sec.keys.length

/-- Check 0x02 of a signed command: TYPE 0x07, and a key its CMD permits. -/
def State.cmdPermits (s : State) (h p : List Byte) : Bool :=
  let k := envKslot h
  let cmd := le p 0 1
  envType h == 7 &&
  (if cmd = 1 then ownerSlot k || [0, 1, 2, 3].all (fun j => !s.ownerIn j)
   else if cmd = 2 then ownerSlot k && k != 0x10 + le p 1 1
   else if cmd = 3 then vendorSlot k && decide (le p 1 1 ≤ k)
   else decide (4 ≤ cmd ∧ cmd ≤ 7) && ownerSlot k)

/-- The owner store has changed: event 0x007, and SEC_MEAS_5 is extended (R445, R446). -/
def State.ownerChanged (s : State) (k keyid : Nat) : State :=
  (s.storesShown.extendFree 5).raise 0xB007 (8, 0) [(8, k), (64, keyid)]

/-- OWNERSET: installs or replaces an owner slot. The answer is an ERR code and the state. -/
def State.cmdOwnerSet (s : State) (p : List Byte) : Nat × State :=
  let k := le p 1 1
  if 3 < k ∨ p.length ≠ 0x7D0 then (0x01, s)
  else
    let keys := (p.drop 0x10).take 1984
    (0, ({ s with sec := { s.sec with owners := Tab.insert s.sec.owners k keys } }).ownerChanged k (keyId keys))

/-- OWNERDEL: removes a slot. -/
def State.cmdOwnerDel (s : State) (p : List Byte) : Nat × State :=
  let k := le p 1 1
  if 3 < k then (0x01, s)
  else match Tab.find s.sec.owners k with
    | none => (0, s)
    | some keys => (0, ({ s with sec := { s.sec with owners := Tab.erase s.sec.owners k } }).ownerChanged k (keyId keys))

/-- A fuse counter advances (0 KEPOCH, t SVNt): event 0x006, and SEC_MEAS_7 is extended. -/
def State.fuseBlown (s : State) (counter v : Nat) : State :=
  (s.extendFree 7).raise 0xB006 (8, 0) [(8, counter), (8, v)]

/-- REVOKE: KEPOCH fuses are blown up to a value. -/
def State.cmdRevoke (s : State) (p : List Byte) : Nat × State :=
  let v := le p 1 1
  if v = 0 ∨ 3 < v then (0x01, s)
  else if v ≤ s.kepoch then (0, s)
  else (0, (s.setField Reg.secFuse 0 2 v).fuseBlown 0 v)

/-- The SVN of a TYPE in the running bank, of TYPE 0x05 that of the active package. -/
def State.runningSvn (s : State) (t : Nat) : Nat := if t = 5 then (s.grm.package.map Package.svn).getD 0 else (s.bankImage s.bankCur t).2.2

/-- SVNCOMMIT: SVN fuses of a TYPE are blown up to a value, which may not exceed what runs. -/
def State.cmdSvnCommit (s : State) (p : List Byte) : Nat × State :=
  let t := le p 1 1
  let v := le p 2 1
  if t = 0 ∨ 5 < t then (0x01, s)
  else if 63 < v ∨ s.runningSvn t < v then (0x02, s)
  else if v ≤ s.svnFuse t then (0, s)
  else (0, (s.setField Reg.secFuse (6 * t - 4) 6 v).fuseBlown t v)

/-- KEYINST: the embedded certificate object is verified, and the DevID keys of its chain are stored. -/
def State.cmdKeyInst (s : State) (p : List Byte) : Nat × State :=
  let h := (p.drop 0x10).take envBytes
  let chain := (p.drop (0x10 + envBytes)).take (envLen h)
  let code := s.envVerify h chain (envType h == 6 && vendorSlot (envKslot h))
  let s := s.objectJudged h code
  if code ≠ 0 then (code, s)
  else
    let keys := Config.chainKeys chain
    let rest := s.sec.keys.filter (fun k => keyId k != keyId keys)
    if 64 ≤ rest.length then (0x02, s)
    else
      (0, ({ s with sec := { s.sec with keys := rest ++ [keys] } }).storesShown.raise 0xB008 (8, 0) [(64, keyId keys)])

/-- KEYDEL: an installed key is removed. -/
def State.cmdKeyDel (s : State) (p : List Byte) : Nat × State :=
  let id := le p 8 8
  if s.sec.keys.any (fun k => keyId k == id) then
    (0, ({ s with sec := { s.sec with keys := s.sec.keys.filter (fun k => keyId k != id) } }).storesShown.raise 0xB008 (8, 0)
      [(64, id)])
  else (0, s)

/-- What a tile waits for follows its quarantined cores (R321, R322). -/
def State.sparesShown (s : State) (n : Nat) : State :=
  let waits := b2n (!(s.waitingForSpare n).isEmpty && (s.darkSpare n).isSome)
  (s.setField (Reg.grmTile n) 5 1 waits).setField Reg.grmStat (2 + n) 1 waits

/-- CORESET: a core enters RESCREEN at a level, out of quarantine if it was there; or a tile's floor is lowered (R323). -/
def State.cmdCoreSet (s : State) (p : List Byte) : Nat × State :=
  let c := le p 1 2
  let level := le p 3 1
  if 7 < level then (0x01, s)
  else if c / 256 = 0xFF then
    let n := c / 16 % 16
    if 7 < n ∨ c % 16 ≠ 0 then (0x01, s)
    else if level < s.field (Reg.grmTile n) 6 3 then
      let s := s.setField (Reg.grmTile n) 6 3 level
      (0, ((List.range 25).map (· + 25 * n)).foldl (fun (s : State) p => s.applyLevel p) s)
    else (0, s)
  else if 200 ≤ c ∨ s.grmState c = 6 ∨ s.grmState c = 7 then (0x01, s)
  else
    let was := s.grmState c
    let s := ((s.setGrmState c 2).setField (Reg.grmCore c) 3 3 level).setField (Reg.grmCore c) 7 1 0
    let k : Classify :=
      { before := 2, kind := 1, engine := 0, sub := 0, left := s.rsn, rescreen := true, held := false }
    let s := { s with grm := { s.grm with classify := Tab.insert s.grm.classify c k } }
    let s := if was = 4 then (s.grmEvent 0x00C c).probRefresh else s
    let s := match was, s.logicalOf c with
      | 5, some k => s.ensureClock 1 k
      | _, _ => s
    (0, ((s.applyLevel c).sparesShown (c / 25)).groom c)

/-- The effect of a verified signed command. -/
def State.cmdEffect (s : State) (p : List Byte) : Nat × State :=
  match le p 0 1 with
  | 1 => s.cmdOwnerSet p
  | 2 => s.cmdOwnerDel p
  | 3 => s.cmdRevoke p
  | 4 => s.cmdSvnCommit p
  | 5 => s.cmdKeyInst p
  | 6 => s.cmdKeyDel p
  | 7 => s.cmdCoreSet p
  | _ => (0x02, s)

/-- Draws a new nonce. -/
def State.drawNonce (s : State) (key : Nat) : State :=
  let f := s.fresh
  f.2.setReg key f.1

/-- A complete signed command is verified and takes effect or is refused; a new SEC_NONCE is drawn. The answer is ERR of the slot. -/
def State.signedRun (s : State) (src tag : Nat) (h p : List Byte) : Nat × State :=
  let cmd := le p 0 1
  let code := s.envVerify h p (s.cmdPermits h p)
  let s := s.objectJudged h code
  let r : Nat × State := if code ≠ 0 then (code, s) else s.cmdEffect p
  let s := r.2
  let s :=
    if r.1 = 0 then (s.count Reg.secCmdOk).raise 0xB004 (8, 0) [(8, cmd), (8, envKslot h), (64, keyId (envKeys h))]
    else ((s.count Reg.secCmdRej).setField Reg.secBoot 5 8 r.1).raise 0xB005 (8, 0) [(8, cmd), (8, r.1)]
  let err := if r.1 = 0 then 0 else 2
  let s := s.drawNonce Reg.secNonce
  (err, { s with sec := { s.sec with cmdDone := some (requester src, tag, err) } })

/-- A fragment of a signed command: kept, refused with ERR 1, or the one that completes it. One repeated after a handover returns
the result recorded with its consumed nonce (R385, R443). -/
def State.signedFragment (s : State) (src : Nat) (q : Datagram) : Option (Nat × List Byte) × State :=
  let r := requester src
  let repeated := match s.sec.cmdDone with
    | some (r', t, _) => r' == r && t == q.tag
    | none => false
  if repeated then (some ((s.sec.cmdDone.getD (0, 0, 0)).2.2, []), s)
  else match s.withFragment src q with
    | none => (some (1, []), s)
    | some l =>
      if s.completes src q then
        let s := { s with sec := { s.sec with frags := Tab.erase s.sec.frags r, lasts := s.sec.lasts.filter (· != r) } }
        let n := assembledLen l
        if 60032 < n then (some (1, []), s)
        else
          let t := assembled l
          let x := s.signedRun src q.tag (areaBytes t 0 envBytes) (areaBytes t envBytes n)
          (some (x.1, []), x.2)
      else
        let lasts := if q.word18.getLsbD 32 && !s.sec.lasts.contains r then s.sec.lasts ++ [r] else s.sec.lasts
        (some (0, []), { s with sec := { s.sec with frags := Tab.insert s.sec.frags r l, lasts := lasts } })

/-- A fragment, of any signed command or of one with a given CMD that it completes. -/
def signedFor (cmd : Option Nat) (src : Nat) (q : Datagram) (s : State) : Host.Outcome State Fault Refusal :=
  act (fun s => s.mboxTakes src q (· == 0x09) && (match cmd with
      | some k => s.completes src q && s.completedCmd src q == k
      | none => true))
    (fun s => s.mboxRun src q (fun s => s.signedFragment src q)) s

/-- SIGNED: a fragment of a signed command envelope (R443). -/
def execSigned (src : Nat) (request : Datagram) (s : State) : Host.Outcome State Fault Refusal := signedFor none src request s

/-- OWNERSET: the fragment that completes it (R444). -/
def execOwnerset (src : Nat) (request : Datagram) (s : State) : Host.Outcome State Fault Refusal :=
  signedFor (some 1) src request s

/-- OWNERDEL. -/
def execOwnerdel (src : Nat) (request : Datagram) (s : State) : Host.Outcome State Fault Refusal :=
  signedFor (some 2) src request s

/-- REVOKE. -/
def execRevoke (src : Nat) (request : Datagram) (s : State) : Host.Outcome State Fault Refusal :=
  signedFor (some 3) src request s

/-- SVNCOMMIT. -/
def execSvncommit (src : Nat) (request : Datagram) (s : State) : Host.Outcome State Fault Refusal :=
  signedFor (some 4) src request s

/-- KEYINST. -/
def execKeyinst (src : Nat) (request : Datagram) (s : State) : Host.Outcome State Fault Refusal :=
  signedFor (some 5) src request s

/-- KEYDEL. -/
def execKeydel (src : Nat) (request : Datagram) (s : State) : Host.Outcome State Fault Refusal :=
  signedFor (some 6) src request s

/-- CORESET (R323). -/
def execCoreset (src : Nat) (request : Datagram) (s : State) : Host.Outcome State Fault Refusal :=
  signedFor (some 7) src request s

/-! ### CLRREC (R404) -/

/-- The items of a CLRREC payload: node ID and LASTSEQ in 32 bits each, NONCE, the two signatures. -/
def clrMessage (p : List Byte) : List Byte := p.take 16

/-- The owner slot whose keys verify both signatures, tried in order 0-3. -/
def State.clrSigner (s : State) (p : List Byte) : Option (List Byte) :=
  ((List.range 4).filterMap (fun k => Tab.find s.sec.owners k)).find? (fun keys =>
    edOk keys (clrMessage p) ((p.drop 16).take 64) && mdOk keys (clrMessage p) ((p.drop 80).take 3309))

/-- CLRREC: accepted, it runs for up to 2.5 s while records wait; refused, event 0x004 and a new nonce. -/
def execClrrec (src : Nat) (request : Datagram) (s : State) : Host.Outcome State Fault Refusal :=
  mbox (· == 0x05) src request (fun s =>
    let p := request.payload
    let repeated := match s.sec.cmdDone with
      | some (r, t, _) => r == requester src && t == request.tag
      | none => false
    let refuse (err : Nat) (s : State) : Option (Nat × List Byte) × State :=
      let s := (s.raise 0x0004 (8, 0) [(8, err)]).drawNonce Reg.recNonce
      (some (err, []), { s with sec := { s.sec with cmdDone := some (requester src, request.tag, err) } })
    if repeated then (some ((s.sec.cmdDone.getD (0, 0, 0)).2.2, []), s)
    else if p.length ≠ 3389 then refuse 1 s
    else match s.clrSigner p with
      | none => refuse 2 s
      | some keys =>
        if le p 8 8 ≠ s.reg Reg.recNonce then refuse 2 s
        else if le p 0 4 ≠ s.own.node then refuse 1 s
        else if s.recorder.frozen.isSome ∨ s.recorder.clearing ∨ (le p 4 4 + 1) % 2 ^ 32 ≠ s.nextSeq then refuse 3 s
        else
          let l : LongCmd := { src := src, tag := request.tag, op := 0x05, kind := 0, data := keyId keys }
          (none, { s with recorder := { s.recorder with clearing := true }, isk := { s.isk with long := s.isk.long ++ [l] } })) s

/-- A clear is complete: the store is empty, event 0x003 is written into it, REC_DROPPED is zero, CLEARGEN and the nonce are new,
and the records that waited follow. -/
def State.clearDone (s : State) (keyid : Nat) : State :=
  let first := s.field Reg.recSeq 0 32
  let waiting := s.recorder.waiting
  let s := s.setField Reg.recSeq 0 32 s.nextSeq
  let s := { s with recorder := { s.recorder with store := [], flashed := 0, waiting := [], clearing := false, tref := none } }
  let d := packItems 0 [(32, first), (32, s.nextSeq + 2 ^ 32 - 1), (64, s.field Reg.recDropped 0 48), (64, keyid)]
  let e : Event :=
    { code := 0x0003, stamp := s.nowA, count := s.time.count, stampB := s.nowB, skind := 8, sidx := 0, lcyc := 0, cst := 0,
      job := none, data := d.1, trunc := d.2 }
  let s := s.takeEvent e
  let s := s.setReg Reg.recDropped 0
  let s := (s.setField Reg.recStat 32 16 (s.field Reg.recStat 32 16 + 1)).drawNonce Reg.recNonce
  waiting.foldl State.takeEvent s

/-! ### Staging (R449, R450) -/

/-- ACTION and AREA of an FWSTAGE. -/
def fwAction (q : Datagram) : Nat := q.word18.toNat % 4
def fwArea (q : Datagram) : Nat := b2n (q.word18.getLsbD 2)

/-- An FWSTAGE with an ACTION; in recovery mode only AREA 0 through the mailbox is served (R450). -/
def fwstage (action src : Nat) (q : Datagram) (body : State → Option (Nat × List Byte) × State) (s : State) :
    Host.Outcome State Fault Refusal :=
  act (fun s => q.op == 0x0B && fwAction q == action &&
      (if s.flag Reg.secBoot 4 then decide (src < 16) && decide (q.tag < 2 ^ 32) && !s.isk.long.any (fun (l : LongCmd) => l.src == src)
       else s.mboxTakes src q (· == 0x0B)))
    (fun s => s.mboxRun src q (fun s => if s.flag Reg.secBoot 4 && fwArea q == 1 then (some (3, []), s) else body s)) s

/-- FWSTAGE_BEGIN: erases the idle bank or the Groomer package area; its slot reads running until the erase completes. -/
def execFwstageBegin (src : Nat) (request : Datagram) (s : State) : Host.Outcome State Fault Refusal :=
  fwstage 0 src request (fun s =>
    if s.sec.staging.isSome then (some (3, []), s)
    else
      let l : LongCmd := { src := src, tag := request.tag, op := 0x0B, kind := 1, data := fwArea request }
      (none, { s with sec := { s.sec with staging := some (fwArea request), erasing := true },
                      isk := { s.isk with long := s.isk.long ++ [l] } })) s

/-- An area is erased. -/
def State.eraseArea (s : State) (area : Nat) : State :=
  let x := if area = 1 then { s.sec with pkgArea := [] } else s.sec.setBank s.bankIdle { shipped := false, bytes := [] }
  { s with sec := { x with erasing := false } }

/-- FWSTAGE_DATA: writes the payload at OFFSET of the area being staged. -/
def execFwstageData (src : Nat) (request : Datagram) (s : State) : Host.Outcome State Fault Refusal :=
  fwstage 1 src request (fun s =>
    let area := fwArea request
    let off := request.word20.toNat % 2 ^ 32
    if s.sec.staging ≠ some area ∨ s.sec.erasing then (some (3, []), s)
    else if (if area = 1 then pkgSize else bankSize) < off + request.payload.length then (some (1, []), s)
    else if area = 1 then (some (0, []), { s with sec := { s.sec with pkgArea := putBytes s.sec.pkgArea off request.payload } })
    else
      let b := s.bankIdle
      (some (0, []), { s with sec := s.sec.setBank b { shipped := false, bytes := putBytes (s.sec.bank b).bytes off request.payload } })) s

/-- Verifies every envelope of the idle bank: the bank is staged, or the first failing code is returned and STAGED cleared. -/
def State.finishBank (s : State) : Nat × State :=
  let b := s.bankIdle
  match s.bankFails b with
  | none =>
    let s := s.countN Reg.secAccept 4
    (0, ((s.setField Reg.secBoot 2 1 1).setField Reg.secBoot 1 1 b).raise 0xB009 (8, 0) [(8, 0), (8, b), (8, 0)])
  | some (t, code) =>
    let kslot := match bankFind (s.sec.bank b).bytes t with
      | some o => (Tab.get (s.sec.bank b).bytes 0 (o + 5)).toNat
      | none => 0
    let s := ((s.count Reg.secReject).setField Reg.secBoot 5 8 code).raise 0xB003 (8, 0) [(8, t), (8, code), (8, kslot)]
    (code, (s.setField Reg.secBoot 2 1 0).raise 0xB009 (8, 0) [(8, 0), (8, b), (8, code)])

/-- The package in the flash area: the code of its verification, its envelope header, its payload and what it holds. -/
def State.flashPackage (s : State) : Nat × List Byte × List Byte × Option Package :=
  let h := areaBytes s.sec.pkgArea 0 envBytes
  let p := areaBytes s.sec.pkgArea envBytes (min (envLen h) pkgSize)
  let code := s.envVerify h p (envType h == 5 && vendorSlot (envKslot h))
  let k := (packageOf p).map (fun (x : Package) => { x with pdig := (h.drop 0x20).take 48, svn := envSvn h })
  (if code ≠ 0 then code else if k.isNone then 0x01 else 0, h, p, k)

/-- Verifies the staged package: it becomes active at the next screen (R311). -/
def State.finishPackage (s : State) : Nat × State :=
  match s.flashPackage with
  | (code, h, _, k) =>
    let s := s.objectJudged h code
    let s : State := if code = 0 then { s with grm := { s.grm with staged := k } } else s.setField Reg.secBoot 2 1 0
    let s := s.raise 0x200D (0, 0) [(16, 0), (8, b2n (code == 0)), (8, 0)]
    (code, s.raise 0xB009 (8, 0) [(8, 1), (8, 0), (8, code)])

/-- FWSTAGE_FINISH: every envelope of the area is verified; ERR is the failing code of R441. -/
def execFwstageFinish (src : Nat) (request : Datagram) (s : State) : Host.Outcome State Fault Refusal :=
  fwstage 2 src request (fun s =>
    if s.sec.staging ≠ some (fwArea request) ∨ s.sec.erasing then (some (3, []), s)
    else
      let s := { s with sec := { s.sec with staging := none } }
      let r := if fwArea request = 1 then s.finishPackage else s.finishBank
      (some (r.1, []), r.2)) s

/-- FWSTAGE_CANCEL: closes an open staging; one whose erase runs on is not cancelled. -/
def execFwstageCancel (src : Nat) (request : Datagram) (s : State) : Host.Outcome State Fault Refusal :=
  fwstage 3 src request (fun s =>
    if s.sec.erasing then (some (3, []), s) else (some (0, []), { s with sec := { s.sec with staging := none } })) s

end Sys2Proof.Machine
end

