-- ==== Sys2Proof/Machine/Spdm.lean ====
section
/-! DEFINITION. SPDM (R447, R448): messages come by mailbox or IMP with OP 0x0A, or by DOE (place 18). The manual names SPDM 1.3 and
lays no message out; request codes, headers and fields are those of that standard (PRESUMED, log entry 45), and what neither
gives is free. -/

namespace Sys2Proof.Machine
open Sys2Proof

/-! ### Messages -/

/-- Request codes. -/
def spdmGetDigests : Nat := 0x81
def spdmGetCertificate : Nat := 0x82
def spdmChallenge : Nat := 0x83
def spdmGetVersion : Nat := 0x84
def spdmGetMeasurements : Nat := 0xE0
def spdmGetCapabilities : Nat := 0xE1
def spdmNegotiate : Nat := 0xE3
def spdmVendor : Nat := 0xFE

/-- The code of a request message. -/
def spdmCode (l : List Byte) : Nat := le l 1 1

/-- A response header. -/
def spdmHead (version code p1 p2 : Nat) : List Byte := toBytes 1 version ++ toBytes 1 code ++ toBytes 1 p1 ++ toBytes 1 p2

/-- ERROR with a code: 1 InvalidRequest, 7 UnsupportedRequest. -/
def spdmError (code data : Nat) : List Byte := spdmHead 0x13 0x7F code data

/-- The vendor-defined requests of R448: StandardID IANA, VendorID 0x0001_A7E3; the operation. -/
def spdmVendorOp (l : List Byte) : Option Nat :=
  if spdmCode l = spdmVendor ∧ le l 4 2 = 4 ∧ le l 6 1 = 4 ∧ le l 7 4 = 0x0001A7E3 then some (le l 13 1) else none

/-- A vendor-defined response. -/
def spdmVendorResponse (l : List Byte) : List Byte :=
  spdmHead 0x13 0x7E 0 0 ++ toBytes 2 4 ++ toBytes 1 4 ++ toBytes 4 0x0001A7E3 ++ toBytes 2 l.length ++ l

/-- Whether a request is one the device answers with a message of its own. -/
def spdmSupported (l : List Byte) : Bool :=
  let c := spdmCode l
  c == spdmGetVersion || c == spdmGetCapabilities || c == spdmNegotiate || c == spdmGetDigests || c == spdmGetCertificate ||
  c == spdmChallenge || c == spdmGetMeasurements || (match spdmVendorOp l with | some op => op == 1 || op == 2 | none => false)

/-! ### Answers -/

/-- The Ed25519 chain of slot 0, and the ML-DSA-65 chain, both ending at Alias (R438, R447). -/
def State.chain (s : State) (alg : Nat) : List Byte := Config.certChain alg s.aliasKeys

/-- Signs a response: Ed25519 in the message, ML-DSA-65 kept for the same transport. What is signed, the SPDM prefix and transcript
hash, is free here. -/
def State.spdmSign (s : State) (src : Nat) : List Byte × State :=
  let m := s.freshBytes 148
  let s := m.2
  let tail := s.aliasTail
  let md := sigMd infoAlias tail m.1
  (sigEd infoAlias tail m.1,
    { s with sec := { s.sec with kept := Tab.insert s.sec.kept (requester src) (s.time.count, md) } })

/-- GET_VERSION: version 1.3. -/
def spdmVersion : List Byte := spdmHead 0x10 0x04 0 0 ++ toBytes 2 0x0100 ++ toBytes 2 0x1300

/-- GET_CAPABILITIES: CERT_CAP, CHAL_CAP and MEAS_CAP signed; times and sizes are free. -/
def State.spdmCapabilities (s : State) : List Byte × State :=
  let f := s.freshBytes 9
  (spdmHead 0x13 0x61 0 0 ++ toBytes 1 0 ++ f.1.take 1 ++ toBytes 2 0 ++ toBytes 4 0x16 ++ f.1.drop 1, f.2)

/-- NEGOTIATE_ALGORITHMS: Ed25519, SHA-384 for messages and measurements. -/
def spdmAlgorithms : List Byte :=
  spdmHead 0x13 0x63 0 0 ++ toBytes 2 36 ++ toBytes 1 1 ++ toBytes 1 0 ++ toBytes 4 0x4 ++ toBytes 4 0x200 ++ toBytes 4 0x2 ++
    List.replicate 12 0 ++ toBytes 4 0

/-- GET_DIGESTS: the digest of the chain of slot 0. -/
def State.spdmDigests (s : State) : List Byte := spdmHead 0x13 0x01 1 1 ++ sha384 (s.chain 0)

/-- GET_CERTIFICATE: part of the chain of slot 0. -/
def State.spdmCertificate (s : State) (l : List Byte) : List Byte :=
  let c := s.chain 0
  let off := le l 4 2
  if le l 2 1 % 16 ≠ 0 ∨ c.length ≤ off then spdmError 1 0
  else
    let part := (c.drop off).take (min (le l 6 2) 4024)
    spdmHead 0x13 0x02 0 0 ++ toBytes 2 part.length ++ toBytes 2 (c.length - off - part.length) ++ part

/-- CHALLENGE: chain hash, nonce, summary of all measurements, signature with Alias. -/
def State.spdmChallengeAuth (s : State) (src : Nat) (l : List Byte) : List Byte × State :=
  if le l 2 1 % 16 ≠ 0 then (spdmError 1 0, s)
  else
    let nonce := s.freshBytes 32
    let summary := nonce.2.freshBytes 48
    let sig := summary.2.spdmSign src
    (spdmHead 0x13 0x03 0 1 ++ sha384 (s.chain 0) ++ nonce.1 ++ summary.1 ++ toBytes 2 0 ++ sig.1, sig.2)

/-- Measurement block k: 1-8 the registers, 9 the raw fuse values; the type byte is free. -/
def State.measBlock (s : State) (k : Nat) : List Byte × State :=
  let v := if k = 9 then toBytes 8 (s.reg Reg.secFuse % 2 ^ 32) else s.meas (k - 1)
  let f := s.freshBytes 1
  (toBytes 1 k ++ toBytes 1 1 ++ toBytes 2 (3 + v.length) ++ f.1 ++ toBytes 2 v.length ++ v, f.2)

/-- Blocks in a row. -/
def State.measBlocks (s : State) : List Nat → List Byte × State
  | [] => ([], s)
  | k :: t =>
    let b := s.measBlock k
    let r := b.2.measBlocks t
    (b.1 ++ r.1, r.2)

/-- GET_MEASUREMENTS: the number of blocks, all of them or one, signed where the request asks for it. -/
def State.spdmMeasurements (s : State) (src : Nat) (l : List Byte) : List Byte × State :=
  let op := le l 3 1
  if 9 < op ∧ op ≠ 0xFF then (spdmError 1 0, s)
  else
    let ks := if op = 0 then [] else if op = 0xFF then [1, 2, 3, 4, 5, 6, 7, 8, 9] else [op]
    let b := s.measBlocks ks
    let nonce := b.2.freshBytes 32
    let body := spdmHead 0x13 0x60 (if op = 0 then 9 else 0) 0 ++ toBytes 1 ks.length ++ toBytes 3 b.1.length ++ b.1 ++
      nonce.1 ++ toBytes 2 0
    if bit (le l 2 1) 0 then
      let sig := nonce.2.spdmSign src
      (body ++ sig.1, sig.2)
    else (body, nonce.2)

/-- GET_MD_SIG: the kept ML-DSA-65 signature of this transport, for 1 s (R448). -/
def State.spdmMdSig (s : State) (src : Nat) : List Byte :=
  match Tab.find s.sec.kept (requester src) with
  | some (t, sig) => if s.time.count ≤ t + 1000000000 then spdmVendorResponse sig else spdmError 1 0
  | none => spdmError 1 0

/-- GET_MD_CERT: part of the ML-DSA-65 chain (R448). -/
def State.spdmMdCert (s : State) (l : List Byte) : List Byte :=
  spdmVendorResponse (((s.chain 1).drop (le l 14 4)).take (min (le l 18 2) 4019))

/-- The response to a message (R447, R448). -/
def State.spdmAnswer (s : State) (src : Nat) (l : List Byte) : List Byte × State :=
  let c := spdmCode l
  if c = spdmGetVersion then (spdmVersion, s)
  else if c = spdmGetCapabilities then s.spdmCapabilities
  else if c = spdmNegotiate then (spdmAlgorithms, s)
  else if c = spdmGetDigests then (s.spdmDigests, s)
  else if c = spdmGetCertificate then (s.spdmCertificate l, s)
  else if c = spdmChallenge then s.spdmChallengeAuth src l
  else if c = spdmGetMeasurements then s.spdmMeasurements src l
  else match spdmVendorOp l with
    | some 1 => (s.spdmMdSig src, s)
    | some 2 => (s.spdmMdCert l, s)
    | some _ => (spdmError 1 0, s)
    | none => (spdmError 7 c, s)

/-- An SPDM message of a kind, over mailbox, IMP or DOE. -/
def spdm (kind : List Byte → Bool) (src : Nat) (q : Datagram) (s : State) : Host.Outcome State Fault Refusal :=
  act (fun s => kind q.payload && q.op == 0x0A &&
      (if src = 18 then s.host.bs1Done && s.iskActive else s.mboxTakes src q (· == 0x0A)))
    (fun s =>
      let body (s : State) : Option (Nat × List Byte) × State :=
        let r := s.spdmAnswer src q.payload
        (some (0, r.1), r.2)
      if src = 18 then
        let r := s.spdmAnswer src q.payload
        r.2.reply src q.op q.tag 0 r.1
      else s.mboxRun src q body) s

/-! ### The commands -/

/-- SPDM: any message. -/
def execSpdm (src : Nat) (request : Datagram) (s : State) : Host.Outcome State Fault Refusal :=
  spdm (fun _ => true) src request s

/-- GET_VERSION. -/
def execGetVersion (src : Nat) (request : Datagram) (s : State) : Host.Outcome State Fault Refusal :=
  spdm (fun l => spdmCode l == spdmGetVersion) src request s

/-- GET_CAPABILITIES. -/
def execGetCapabilities (src : Nat) (request : Datagram) (s : State) : Host.Outcome State Fault Refusal :=
  spdm (fun l => spdmCode l == spdmGetCapabilities) src request s

/-- NEGOTIATE_ALGORITHMS. -/
def execNegotiateAlgorithms (src : Nat) (request : Datagram) (s : State) : Host.Outcome State Fault Refusal :=
  spdm (fun l => spdmCode l == spdmNegotiate) src request s

/-- GET_DIGESTS. -/
def execGetDigests (src : Nat) (request : Datagram) (s : State) : Host.Outcome State Fault Refusal :=
  spdm (fun l => spdmCode l == spdmGetDigests) src request s

/-- GET_CERTIFICATE. -/
def execGetCertificate (src : Nat) (request : Datagram) (s : State) : Host.Outcome State Fault Refusal :=
  spdm (fun l => spdmCode l == spdmGetCertificate) src request s

/-- CHALLENGE. -/
def execChallenge (src : Nat) (request : Datagram) (s : State) : Host.Outcome State Fault Refusal :=
  spdm (fun l => spdmCode l == spdmChallenge) src request s

/-- GET_MEASUREMENTS. -/
def execGetMeasurements (src : Nat) (request : Datagram) (s : State) : Host.Outcome State Fault Refusal :=
  spdm (fun l => spdmCode l == spdmGetMeasurements) src request s

/-- GET_MD_SIG (R448). -/
def execGetMdSig (src : Nat) (request : Datagram) (s : State) : Host.Outcome State Fault Refusal :=
  spdm (fun l => spdmVendorOp l == some 1) src request s

/-- GET_MD_CERT (R448). -/
def execGetMdCert (src : Nat) (request : Datagram) (s : State) : Host.Outcome State Fault Refusal :=
  spdm (fun l => spdmVendorOp l == some 2) src request s

/-- SPDM_UNSUPPORTED_REQUEST: answered with ERROR (R447). -/
def execSpdmUnsupportedRequest (src : Nat) (request : Datagram) (s : State) : Host.Outcome State Fault Refusal :=
  spdm (fun l => !spdmSupported l) src request s

end Sys2Proof.Machine
end

