-- ==== Sys2Proof/Machine/Calio.lean ====
section
/-! DEFINITION. The calibration set (R477-R480): how a set is checked and loaded, CALIO, and the completion of the commands that run
on (R394). -/

namespace Sys2Proof.Machine
open Sys2Proof

/-! ### The set (R477) -/

/-- Bytes of the set. -/
def calSize : Nat := 327680

/-- Offset and length of the sections. -/
def calSection (k : Nat) : Nat × Nat :=
  ([(0x1000, 6528), (0x3000, 96), (0x4000, 1024), (0x10000, 262144), (0x5000, 25600)][k]?).getD (0, 0)

/-- A little-endian field of a set. -/
def calField (t : Tab Byte) (off n : Nat) : Nat := le (areaBytes t off n) 0 n

/-- Whether the header of a set is valid for this module: MAGIC, VERSION, its CRC, and SERIAL. -/
def calHeaderOk (t : Tab Byte) (serial : Nat) : Bool :=
  calField t 0 4 == 0x4C414347 && calField t 4 4 == 1 && calField t 0xFC 4 == crc32c (areaBytes t 0 0xFC) &&
  calField t 8 8 == serial

/-- Whether OFF, LEN and CRC of a section match. -/
def calSectionOk (t : Tab Byte) (k : Nat) : Bool :=
  let x := calSection k
  let o := 0x20 + 16 * k
  calField t o 4 == x.1 && calField t (o + 4) 4 == x.2 && calField t (o + 8) 4 == crc32c (areaBytes t x.1 x.2)

/-- The sections of a set that load. -/
def calValid (t : Tab Byte) (serial : Nat) : List Nat :=
  if calHeaderOk t serial then (List.range 5).filter (calSectionOk t) else []

/-- Loads the set in flash at BS1: CAL_STAT, each defaulted section with events 0xC008, TIME_PCAL, and SEC_MEAS_6 (R446, R477). -/
def State.calLoad (s : State) : State :=
  let t := s.host.calFlash
  let ok := calValid t (s.reg Reg.fuseSerial)
  let head := calHeaderOk t (s.reg Reg.fuseSerial)
  let s := { s with host := { s.host with calLoaded := t } }
  let mask := (ok.map (fun k => 2 ^ k)).foldl (· + ·) 0
  let s := s.setReg Reg.calStat (mask + (if head then calField t 0x14 4 % 2 * 2 ^ 5 + calField t 0x10 4 * 2 ^ 8 else 0))
  let s := ((List.range 5).filter (fun k => !ok.contains k)).foldl (fun (s : State) k => s.raise 0xC008 (8, 0) [(8, k)]) s
  let s := (List.range 12).foldl (fun (s : State) p =>
    s.setReg (Reg.timePcal p) (if ok.contains 1 then calField t (0x3000 + 8 * p) 8 % 2 ^ 32 else 0x00A000A0)) s
  s.extend 6 (sha384 (areaBytes t 0 calSize))

/-! ### CALIO (R479) -/

/-- A CALIO with an ACTION, and what refuses every one: READY = 0. A refusal is recorded as event 0xC00A. -/
def calio (action src : Nat) (q : Datagram) (body : State → Option (Nat × List Byte) × State) (s : State) :
    Host.Outcome State Fault Refusal :=
  act (fun s => q.word18.toNat % 8 == action && s.mboxTakes src q (· == 0x0D))
    (fun s => s.mboxRun src q (fun s =>
      let r := if !s.flag Reg.hifBs 7 then (some (3, []), s) else body s
      match r with
      | (some (e, l), s) => (some (e, l), if e = 0 then s else s.raise 0xC00A (8, 0) [(8, action), (8, e)])
      | (none, s) => (none, s))) s

/-- OFFSET of a CALIO, and its section. -/
def calOff (q : Datagram) : Nat := q.word20.toNat % 2 ^ 32
def calSec (q : Datagram) : Nat := bits q.word18.toNat 4 3

/-- CALIO_READ: up to 4,032 bytes of the set in flash. -/
def execCalioRead (src : Nat) (request : Datagram) (s : State) : Host.Outcome State Fault Refusal :=
  calio 0 src request (fun s =>
    if calSize ≤ calOff request then (some (1, []), s)
    else (some (0, areaBytes s.host.calFlash (calOff request) (min 4032 (calSize - calOff request))), s)) s

/-- CALIO_OPEN: the set in flash becomes the staging copy. -/
def execCalioOpen (src : Nat) (request : Datagram) (s : State) : Host.Outcome State Fault Refusal :=
  calio 1 src request (fun s =>
    if s.host.calBusy then (some (3, []), s)
    else (some (0, []), ({ s with host := { s.host with calStage := some s.host.calFlash } }).setFlag Reg.calStat 6)) s

/-- CALIO_WRITE: the payload goes into the staging copy. -/
def execCalioWrite (src : Nat) (request : Datagram) (s : State) : Host.Outcome State Fault Refusal :=
  calio 2 src request (fun s => match s.host.calStage with
    | none => (some (3, []), s)
    | some t =>
      if s.host.calBusy then (some (3, []), s)
      else if calSize < calOff request + request.payload.length then (some (1, []), s)
      else (some (0, []), { s with host := { s.host with calStage := some (putBytes t (calOff request) request.payload) } })) s

/-- The current contents of a section: TIME_PCAL for 1; equalisation and training results are opaque records. -/
def State.calCurrent (s : State) (k : Nat) : List Byte × State :=
  if k = 1 then ((List.range 12).flatMap (fun p => toBytes 8 (s.reg (Reg.timePcal p))), s)
  else s.freshBytes (calSection k).2

/-- CALIO_CAPTURE: current values of section 0, 1 or 3 go into the staging copy with their CRC and ORIGIN = 1. Of section 0 only
the ports that are UP change. -/
def execCalioCapture (src : Nat) (request : Datagram) (s : State) : Host.Outcome State Fault Refusal :=
  calio 3 src request (fun s => match s.host.calStage with
    | none => (some (3, []), s)
    | some t =>
      let k := calSec request
      if s.host.calBusy then (some (3, []), s)
      else if k ≠ 0 ∧ k ≠ 1 ∧ k ≠ 3 then (some (1, []), s)
      else
        let x := calSection k
        let v := s.calCurrent k
        let s := v.2
        let t := if k = 0 then
            ((List.range 12).filter s.portUp).foldl (fun t p => putBytes t (0x1000 + 544 * p) ((v.1.drop (544 * p)).take 544)) t
          else putBytes t x.1 v.1
        let o := 0x20 + 16 * k
        let t := putBytes t o (toBytes 4 x.1 ++ toBytes 4 x.2 ++ toBytes 4 (crc32c (areaBytes t x.1 x.2)))
        let t := putBytes t 0x14 (toBytes 4 1)
        let t := putBytes t 0xFC (toBytes 4 (crc32c (areaBytes t 0 0xFC)))
        (some (0, []), { s with host := { s.host with calStage := some t } })) s

/-- CALIO_COMMIT: a staging copy that checks in full is written to flash, within 2.5 s; its slot reads running. -/
def execCalioCommit (src : Nat) (request : Datagram) (s : State) : Host.Outcome State Fault Refusal :=
  calio 4 src request (fun s => match s.host.calStage with
    | none => (some (3, []), s)
    | some t =>
      if s.host.calBusy then (some (3, []), s)
      else if calValid t (s.reg Reg.fuseSerial) ≠ [0, 1, 2, 3, 4] then (some (1, []), s)
      else
        let l : LongCmd := { src := src, tag := request.tag, op := 0x0D, kind := 2, data := 0 }
        let s := { s with host := { s.host with calBusy := true }, isk := { s.isk with long := s.isk.long ++ [l] } }
        (none, s.setFlag Reg.calStat 7)) s

/-- CALIO_CANCEL: the staging copy is discarded. -/
def execCalioCancel (src : Nat) (request : Datagram) (s : State) : Host.Outcome State Fault Refusal :=
  calio 5 src request (fun s =>
    if s.host.calBusy then (some (3, []), s)
    else (some (0, []), ({ s with host := { s.host with calStage := none } }).setField Reg.calStat 6 1 0)) s

/-- A COMMIT is complete: the copy, GEN one higher, is the set in flash; STAGING and BUSY clear. -/
def State.calCommitted (s : State) : State :=
  match s.host.calStage with
  | none => s
  | some t =>
    let gen := (calField s.host.calFlash 0x10 4 + 1) % 2 ^ 32
    let t := putBytes t 0x10 (toBytes 4 gen)
    let t := putBytes t 0xFC (toBytes 4 (crc32c (areaBytes t 0 0xFC)))
    let s := { s with host := { s.host with calFlash := t, calStage := none, calBusy := false } }
    (s.setField Reg.calStat 6 2 0).raise 0xC009 (8, 0) [(32, gen)]

/-! ### Completion (R394) -/

/-- MAILBOX_COMMAND_COMPLETE: a command that ran on finishes and is answered with success. -/
def execMailboxCommandComplete (src : Nat) (s : State) : Host.Outcome State Fault Refusal :=
  act (fun s => (s.iskActive || s.flag Reg.secBoot 4) && s.isk.long.any (fun (l : LongCmd) => l.src == src))
    (fun s => match s.isk.long.find? (fun (l : LongCmd) => l.src == src) with
      | none => s
      | some l =>
        let s := s.modIsk (fun (k : Isk) => { k with long := k.long.filter (fun (x : LongCmd) => x.src != src) })
        let s :=
          if l.kind = 0 then
            let s := s.clearDone l.data
            { s with sec := { s.sec with cmdDone := some (requester src, l.tag, 0) } }
          else if l.kind = 1 then s.eraseArea l.data
          else s.calCommitted
        s.answer src l.op l.tag 0 []) s

end Sys2Proof.Machine
end

