-- ==== Sys2Proof/Machine/Bringup.lean ====
section
/-! DEFINITION. Power inputs and bring-up (R466, R470-R476, R488): cold power-on with what flash and fuses keep, the work of the
stages BS0 to BS9, their reports, and the loss of an input. -/

namespace Sys2Proof.Machine
open Sys2Proof

/-! ### Cold power-on (R12, R243, R320, R399, R400, R445, R450) -/

/-- The bits of a register that fuses or flash keep without power. -/
def flashMask (key : Nat) : Nat :=
  if 0x3A00000 ≤ key ∧ key < 0x3C00000 then all64
  else if key = Reg.recStat then 0xFFFF00000000
  else if key = Reg.recSeq ∨ key = Reg.recDropped then all64
  else if key = Reg.grmStat then 0x3FFFC
  else if (arrayIndex key (Reg.grmTile 0) 8 8).isSome then 0x1FF
  else if (arrayIndex key (Reg.grmCore 0) 8 200).isSome then 0x1FE001FBF
  else if key = Reg.secBoot then 3
  else if key = Reg.secFuse then 0x7FFFFFFFFFF
  else 0

/-- The register file at cold power-on: every register at its Reset value but for what fuses and flash keep. -/
def flashRegs (t : Tab Word) : Tab Word :=
  t.foldl (fun (r : Tab Word) e =>
    let m := flashMask e.1
    if m = 0 then r
    else Tab.put r (regReset e.1) e.1 (BitVec.ofNat 64 ((e.2.toNat &&& m) ||| ((regReset e.1).toNat &&& (all64 - m))))) []

/-- The recorder reloaded from flash: NEXTSEQ follows from FIRSTSEQ and the records flash holds. -/
def State.reloadRecorder (s : State) (r : Recorder) : State :=
  let store := r.store.take r.flashed
  let s := { s with recorder := { Recorder.reset with store := store, flashed := store.length, boots := r.boots + 1 } }
  s.setField Reg.recSeq 32 32 (s.field Reg.recSeq 0 32 + store.length)

/-- A classification that power loss cut is given up: the core is HEALTHY, or DERATED at a level. -/
def State.settleCore (s : State) (p : Nat) : State :=
  if s.grmState p = 1 ∨ s.grmState p = 2 then s.setGrmState p (if s.field (Reg.grmCore p) 3 3 = 0 then 0 else 3) else s

/-- A key store whose tag fails is empty: 0 the owner slots, 1 the module keys. -/
def State.dropStore (s : State) (k : Nat) : State :=
  let s := if k = 0 then { s with sec := { s.sec with owners := [] } } else { s with sec := { s.sec with keys := [] } }
  s.raise 0xB00A (8, 0) [(8, k)]

/-- The module starts cold: everything is as after reset but for fuses, flash and what has left the module; the first records are a
time reference and event 0x001; bring-up runs from BS0 with both controllers in BOOT. -/
def State.coldStart (s : State) (badStores : List Nat) : State :=
  let kept : State := { State.reset with pending := s.pending, out := s.out, freeIndex := s.freeIndex, regs := flashRegs s.regs }
  let sec := { s.sec with frags := [], lasts := [], cmdDone := none, kept := [], staging := none, erasing := false }
  let host := { HostUnit.reset with mainIn := true, mainLost := false, auxIn := true, running := true, calFlash := s.host.calFlash }
  let nmes := s.nmes.foldl (fun (t : Tab Nme) e => Tab.put t Nme.reset e.1 { Nme.reset with repaired := e.2.repaired }) []
  let t := { kept with sec := sec, host := host, nmes := nmes, rst := { Rst.reset with flashDumps := s.rst.flashDumps } }
  let t := (t.modIsk (fun (k : Isk) => { k with netcfg := s.isk.netcfg })).reloadRecorder s.recorder
  let t := (List.range 200).foldl State.settleCore t
  let t := t.raise 0x0001 (8, 0) [(32, t.recorder.boots)]
  let t := ([0, 1].filter (fun k => badStores.contains k)).foldl State.dropStore t
  let t := (t.storesShown.drawNonce Reg.recNonce).drawNonce Reg.secNonce
  (t.setCtl 0 ctlBoot).setCtl 1 ctlBoot

/-- COLD_POWER_ON: both inputs come into range, the 12 V input from absence or the 54 V input after its loss in service (R466,
R470, R488). `badStores` names the key stores whose tag fails (R445). -/
def execColdPowerOn (badStores : List Nat) (s : State) : Host.Outcome State Fault Refusal :=
  act (fun s => !s.host.auxIn || (s.host.mainLost && !s.host.running)) (fun s => s.coldStart badStores) s

/-! ### Reports (R471, R472) -/

/-- Records a warning or failure of a stage with its unit. -/
def State.stageCode (s : State) (x : Nat × Nat) : State := s.raise 0xC002 (8, 0) [(16, x.1), (16, x.2)]

/-- Warnings are counted in NWARN. -/
def State.stageWarning (s : State) (x : Nat × Nat) : State := (s.stageCode x).countField Reg.hifBs 24 8

/-- The stage fails: bring-up stops there. -/
def State.stageFail (s : State) (detail : Nat) : State :=
  let k := s.host.stage
  let s := s.setReg (Reg.hifBst k) s.time.count
  let s := { s with host := { s.host with running := false, waiting := false } }
  s.postReport k bsFailed detail

/-! ### The work of the stages (R470) -/

/-- What the work of a stage leaves: the state, the warnings it found itself, and a failure. -/
structure StageWork where
  state : State
  warnings : List (Nat × Nat)
  failure : Option (Nat × Nat)

/-- Work without findings. -/
def StageWork.plain (s : State) : StageWork := { state := s, warnings := [], failure := none }

/-- An image that fails its boot: counted, with ERR and event 0x003. -/
def State.bootReject (s : State) (x : Nat × Nat) : State :=
  ((s.count Reg.secReject).setField Reg.secBoot 5 8 x.2).raise 0xB003 (8, 0) [(8, x.1), (8, x.2), (8, 0)]

/-- A bank boots: it is CUR, its images are accepted, and the Isrek firmware is measured (R436, R446). -/
def State.bootFrom (s : State) (b : Nat) : State :=
  ((s.countN Reg.secAccept 4).setField Reg.secBoot 0 1 b).extend 0 (s.bankImage b 1).2.1

/-- BS0: both ROMs boot NEXT, or fall back to the other bank, or stay in recovery mode (R436, R450). -/
def State.work0 (s : State) : StageWork :=
  let b := s.field Reg.secBoot 1 1
  match s.bankFails b with
  | none => .plain (s.bootFrom b)
  | some x =>
    let s := (s.bootReject x).raise 0xB002 (8, 0) [(8, b), (8, x.1), (8, x.2)]
    let s := (s.setField Reg.secBoot 1 1 (1 - b)).setFlag Reg.secBoot 3
    match s.bankFails (1 - b) with
    | none => .plain (s.bootFrom (1 - b))
    | some y =>
      let s := (s.bootReject y).setFlag Reg.secBoot 4
      let s := (s.raise 0xB00B (8, 0) [(8, 0)]).raise 0xB00B (8, 0) [(8, 1)]
      { state := s, warnings := [], failure := some (0x2002, 0) }

/-- The package in flash becomes the active one if it verifies, and is measured (R311, R436, R446). -/
def State.loadPackage (s : State) : State :=
  if s.sec.pkgArea.isEmpty then s
  else match s.flashPackage with
    | (code, h, _, k) =>
      let s := s.objectJudged h code
      if code = 0 then
        (({ s with grm := { s.grm with package := k } }).setFlag Reg.grmStat 1).extend 4 ((h.drop 0x20).take 48)
      else s.raise 0x200D (0, 0) [(16, 0), (8, 0), (8, 0)]

/-- BS1: the other images are measured, the key and fuse measurements taken, the package and the calibration set loaded; the
defaulted sections and a link not in L0 are warnings (R446, R472, R477). -/
def State.work1 (s : State) : StageWork :=
  let s := [1, 2, 3].foldl (fun (s : State) r => s.extend r (s.bankImage s.bankCur (r + 1)).2.1) s
  let s := ((s.loadPackage).extendFree 5).extendFree 7
  let s := s.raise 0xB001 (8, 0) ([(8, s.bankCur), (8, s.kepoch)] ++ [1, 2, 3, 4, 5].map (fun t => (8, s.svnFuse t)))
  let s := s.calLoad
  let defaulted := ((List.range 5).filter (fun k => !s.flag Reg.calStat k)).map (fun k => (0x1101, k))
  let link := if s.flag Reg.hifStat 0 then [] else [(0x1102, 0)]
  { state := { s with host := { s.host with bs1Done := true } }, warnings := defaulted ++ link, failure := none }

/-- The row a repair warning of BS3 names: a fused row k, or row k - 256 of the in-service lists in order: stack, pseudo-channel,
row (R171, R473, R476). -/
def State.repairRow (s : State) (k : Nat) : Nat × Nat × Nat :=
  if k < 256 then
    let f := s.reg (Reg.fuseHrow k)
    (bits f 1 5, bits f 6 5, bits f 17 18)
  else
    let l := (List.range 32).flatMap (fun i => (s.nme i).repaired.map (fun r => (i, r.1 / 2 ^ 24, r.1 / 16 % 2 ^ 18)))
    (l[k - 256]?).getD (0, 0, 0)

/-- BS3: each row repair applied is recorded. -/
def State.work3 (s : State) (reported : List (Nat × Nat)) : StageWork :=
  .plain ((reported.filter (fun x => x.1 == 0x1302 || x.1 == 0x1303)).foldl (fun (s : State) x =>
    let r := s.repairRow x.2
    s.raise 0xC00C (8, 0) [(8, r.1), (8, r.2.1), (32, r.2.2)]) s)

/-- The logical map of a tile with a core fused off, under the sparing record: core b reads FUSED, the cores behind it move down by
one, and there is no dark spare (R474). A tile without one keeps what the record holds. -/
def State.fuseMap (s : State) (n : Nat) : State :=
  let b := s.field (Reg.fuseCore n) 0 5
  if 24 < b then s
  else
    let s := (List.range 25).foldl (fun (s : State) m =>
      let p := 25 * n + m
      if m = b then (s.setGrmState p 7).setField (Reg.grmCore p) 8 5 31
      else
        let s := if s.grmState p = 6 then s.setGrmState p 0 else s
        s.setField (Reg.grmCore p) 8 5 (if m < b then m else m - 1)) s
    s.setField (Reg.grmTile n) 0 5 31

/-- A core's memories are zeroed, and its logical number is in service, its clock running, or unavailable (R389). -/
def State.startCore (s : State) (c : Nat) : State :=
  let s := s.modCore c (fun (k : Core) =>
    { k with store := [], mat := { k.mat with acc := [], plane0 := Plane.empty, plane1 := Plane.empty } })
  if s.unavailable c then (s.setCoreState c 5).cutClock 1 c
  else
    let s := if s.coreState c = 5 then s.setCoreState c (if s.host.warm then 4 else 0) else s
    s.ensureClock 1 c

/-- BS4: the fuse and sparing maps, the derate levels and the clocks are applied, and every usable core is zeroed; a tile with an
unavailable logical core is a warning. -/
def State.work4 (s : State) : StageWork :=
  let s := (List.range 8).foldl State.fuseMap s
  let s := (List.range 200).foldl (fun (s : State) p =>
    { s with grm := { s.grm with levels := Tab.put s.grm.levels 0 p (s.level p) } }) s
  let s := (List.range 8).foldl State.clockTile s
  let s := (List.range 192).foldl State.startCore s
  let holes := (List.range 8).filter (fun n => (List.range 24).any (fun m => s.unavailable (24 * n + m)))
  { state := s.probRefresh, warnings := holes.map (fun n => (0x1401, n)), failure := none }

/-- BS5: the NMEs start at 1.6 GHz, SPREAD is latched, and at cold power-on HBM is written to zero. -/
def State.work5 (s : State) : StageWork :=
  let sp := s.field Reg.nmeMap 0 8
  let s := s.setField Reg.nmeMap 8 8 (min sp 128)
  let s := if s.host.warm then s else { s with hbm := [], ecc := [] }
  let s := (List.range 32).foldl (fun (s : State) i =>
    let s := if (s.region 3 i).mhz = 1600 then s else s.setFreq 3 i 1600
    (s.ensureClock 3 i).nmeReady i) s
  .plain { s with host := { s.host with bs5Done := true } }

/-- The last 16 MiB of CT7's backed tile-local region; none where the spread share leaves it empty. -/
def State.pkgDefault (s : State) : Option Nat :=
  if s.spread < 128 then some (7 * 2 ^ 39 + 4 * (128 - s.spread) * 2 ^ 30 - pkgSize) else none

/-- BS6: GRM_PKG_BASE takes its default, the active package is copied there, and every usable core has one QUICK run; a core that
fails it is charged with source 4, a module without a package is a warning. -/
def State.work6 (s : State) (reported : List (Nat × Nat)) : StageWork :=
  let s := if s.field Reg.grmPkgBase 0 48 = 0 then
      (match s.pkgDefault with
       | some a => s.setReg Reg.grmPkgBase a
       | none => s)
    else s
  let s := s.setFlag Reg.grmStat 0
  if s.grm.package.isNone && s.grm.staged.isNone then { state := s, warnings := [(0x1602, 0)], failure := none }
  else
    let copy := areaBytes s.sec.pkgArea envBytes (min (envLen (areaBytes s.sec.pkgArea 0 envBytes)) pkgSize)
    let s := if s.sec.staging = some 1 then s else s.memWrite (s.field Reg.grmPkgBase 0 48) copy
    let s := s.usePackage.setFlag Reg.grmStat 1
    let usable := (List.range 200).filter s.grmUsable
    let failed := usable.filter (fun p => reported.contains (0x1601, p))
    let s := s.countN Reg.grmScreens usable.length
    let s := usable.foldl (fun (s : State) p =>
      { s with grm := { s.grm with quickAt := Tab.put s.grm.quickAt 0 p s.time.count } }) s
    .plain (failed.foldl (fun (s : State) p => (s.count Reg.grmScreenFail).charge p 4 0 0) s)

/-- BS7: the fabric tiles start, but for one that failed; both failed is a failure. A tile whose withdrawal still runs enters reset
first. -/
def State.work7 (s : State) (reported : List (Nat × Nat)) : StageWork :=
  let failed := [0, 1].filter (fun f => reported.contains (0x1701, f))
  if failed.length = 2 then { state := s, warnings := [], failure := some (0x2701, 0) }
  else
    let s := [0, 1].foldl (fun (s : State) f => if s.flag Reg.fabStat (2 + f) then s.fabricReset f else s) s
    let s := ([0, 1].filter (fun f => !failed.contains f)).foldl State.fabricOut s
    .plain (failed.foldl (fun (s : State) f => s.setFlag Reg.rstStat (18 + f)) s)

/-- The codes only the hardware of a stage can find (R472); the others the work finds itself. -/
def stageCodes (stage : Nat) (warm : Bool) : List Nat :=
  if stage = 0 then [0x2001] else if stage = 2 then [0x2201]
  else if stage = 3 then (if warm then [0x1301, 0x2301] else [0x1301, 0x1302, 0x1303, 0x2301])
  else if stage = 5 then (if warm then [] else [0x2501])
  else if stage = 6 then [0x1601]
  else if stage = 7 then [0x1701, 0x2701]
  else []

/-- The work of a stage. -/
def State.stageWork (s : State) (k : Nat) (reported : List (Nat × Nat)) : StageWork :=
  if k = 0 then s.work0
  else if k = 1 then s.work1
  else if k = 2 then .plain { s with host := { s.host with powered := true } }
  else if k = 3 then s.work3 reported
  else if k = 4 then s.work4
  else if k = 5 then s.work5
  else if k = 6 then s.work6 reported
  else if k = 7 then s.work7 reported
  else if k = 8 then .plain { s with host := { s.host with bs8Done := true } }
  else .plain s

/-- A stage that ended without a failure: its report, and the next stage, or READY with event 0x003 after BS9. -/
def State.stageDone (s : State) (k : Nat) (warnings : List (Nat × Nat)) : State :=
  let s := s.setReg (Reg.hifBst k) s.time.count
  let s := if k = 9 then s.setFlag Reg.hifBs 7 else s
  let s := match warnings with
    | [] => s.postReport k bsDone 0
    | x :: _ => s.postReport k bsWarned x.1
  if k = 9 then
    let s := { s with host := { s.host with running := false } }
    s.raise 0xC003 (8, 0) [(8, s.field Reg.hifBs 24 8), (64, s.time.count - s.reg Reg.hifBstart)]
  else ({ s with host := { s.host with stage := k + 1, stageStart := s.time.count } }).inputCheck

/-- BRINGUP_STAGE_COMPLETE: the stage's work ends with what its hardware found, its warnings and failure are recorded, its report is
posted, and the next stage begins (R470-R472); BS2 waits instead while the 54 V input is out of range. Codes that are not the stage's are no part of a report. -/
def execBringupStageComplete (report : StageReport) (s : State) : Host.Outcome State Fault Refusal :=
  act (fun s => s.host.running && !s.host.waiting)
    (fun s => if s.host.stage == 2 && s.inputOut then s.inputCheck else
      let k := s.host.stage
      let known (x : Nat × Nat) : Bool := (stageCodes k s.host.warm).contains x.1
      let reported := report.warnings.filter (fun x => known x && decide (x.1 < 0x2000) &&
        (x.1 != 0x1601 || ((s.grm.package.isSome || s.grm.staged.isSome) && decide (x.2 < 200) && s.grmUsable x.2)))
      let fails := report.failure.filter (fun x => known x && decide (0x2000 ≤ x.1))
      let w : StageWork := match fails with
        | some f => { state := s, warnings := [], failure := some f }
        | none => s.stageWork k reported
      let warnings := w.warnings ++ reported
      let s := warnings.foldl State.stageWarning w.state
      match w.failure with
      | some f => (s.stageCode f).stageFail ((warnings.map (fun x => x.1) ++ [f.1]).headD 0)
      | none => s.stageDone k warnings) s

/-! ### Limits (R470) -/

/-- The limit of a stage in ms. -/
def stageLimit (stage : Nat) (warm : Bool) : Nat :=
  if warm then ([700, 400, 300, 600, 400, 50, 200, 200, 300, 50][stage]?).getD 0
  else ([700, 400, 400, 3600, 400, 300, 200, 200, 300, 50][stage]?).getD 0

/-- BRINGUP_STAGE_TIMEOUT: a stage exceeds its limit and ends FAILED. -/
def execBringupStageTimeout (s : State) : Host.Outcome State Fault Refusal :=
  act (fun s => s.host.running && !s.host.waiting &&
      decide (s.host.stageStart + stageLimit s.host.stage s.host.warm * 1000000 < s.time.count))
    (fun s =>
      let code := 0x20FF + s.host.stage * 0x100
      (s.stageCode (code, 0)).stageFail code) s

/-! ### The inputs (R400, R466, R488) -/

/-- MAIN_INPUT_RANGE_CHANGE: the 54 V input comes into range, which releases the wait of BS2 or, after its loss in service, starts
the module cold; it sags, which no detector signals; or it is lost, which takes main-domain power away (R466, R488). -/
def execMainInputRangeChange (input : MainInput) (s : State) : Host.Outcome State Fault Refusal :=
  act1 (fun s => match input with
    | .inRange =>
      if s.host.auxIn && s.host.mainLost && !s.host.running then s.coldStart []
      else ({ s with host := { s.host with mainIn := true, mainLost := false } }).inputCheck
    | .sagging => ({ s with host := { s.host with mainIn := false } }).inputCheck
    | .lost =>
      let t : State := { s with host := { s.host with mainIn := false, mainLost := true } }
      if t.host.powered then t.mainOff else t.inputCheck) s

/-- AUX_INPUT_LOSS: the 12 V input falls out of range: ST empties the staging queue to flash on its hold-up, then stops, and
main-domain power goes with it (R400, R488). -/
def execAuxInputLoss (s : State) : Host.Outcome State Fault Refusal :=
  act (fun s => s.host.auxIn)
    (fun s =>
      let flashed := s.recorder.store.length
      let t := s.mainOff
      let t := { t with recorder := { t.recorder with flashed := flashed, raised := [] }, host := { t.host with auxIn := false, bs1Done := false } }
      t.setField Reg.hifStat 0 8 0) s

end Sys2Proof.Machine
end

