-- ==== Sys2Proof/Machine/LoadStore.lean ====
section
/-! DEFINITION. Load and store instructions (class 0x02 of R119, R116, R123): scalars, vectors with their widening and
narrowing, and tile descriptors. -/

namespace Sys2Proof.Machine
open Sys2Proof

/-- Whether a core-store access of n bytes is aligned to n and inside core store (R123). -/
def csOk (a n : Nat) : Bool := a % n == 0 && decide (a + n ≤ coreStoreSize)

/-- The address sA + sext(IMM). -/
def csAddr (k : Core) (x : Fki) : Nat := (k.sr x.a.toNat + x.sext).toNat

/-- LDS: sD = cs64[sA + sext(IMM)]; a misaligned or outside address raises ALIGN (R119, R123). -/
def execLds (x : Fki) (s : State) : Host.Outcome State Fault Refusal :=
  fki x 0 2 0x00 [x.d.toNat, x.a.toNat] [] (rsvOk [x.b.toNat, x.c.toNat])
    (fun s =>
      let a := csAddr (s.core x.core) x
      if csOk a 8 then
        s.retire x.core (fun k => k.setS x.d.toNat (BitVec.ofNat 64 (ofBytes (k.bytes a 8))))
      else s.ctlExcept x.core excAlign a) s

/-- STS: cs64[sA + sext(IMM)] = sD. -/
def execSts (x : Fki) (s : State) : Host.Outcome State Fault Refusal :=
  fki x 0 2 0x01 [x.d.toNat, x.a.toNat] [] (rsvOk [x.b.toNat, x.c.toNat])
    (fun s =>
      let a := csAddr (s.core x.core) x
      if csOk a 8 then s.retire x.core (fun k => k.putBytes a (toBytes 8 (k.sr x.d.toNat).toNat))
      else s.ctlExcept x.core excAlign a) s

/-- LDT: tD = cs256[sA + sext(IMM)]; the register's anchor slot becomes empty (R116, R125). -/
def execLdt (x : Fki) (s : State) : Host.Outcome State Fault Refusal :=
  fki x 0 2 0x08 [x.a.toNat] [x.d.toNat] (rsvOk [x.b.toNat, x.c.toNat] && decide (x.d.toNat < 16))
    (fun s =>
      let a := csAddr (s.core x.core) x
      if csOk a 32 then s.retire x.core (fun k => k.setT x.d.toNat (BitVec.ofNat 256 (ofBytes (k.bytes a 32))))
      else s.ctlExcept x.core excAlign a) s

/-- STT: cs256[sA + sext(IMM)] = tD. -/
def execStt (x : Fki) (s : State) : Host.Outcome State Fault Refusal :=
  fki x 0 2 0x09 [x.a.toNat] [x.d.toNat] (rsvOk [x.b.toNat, x.c.toNat] && decide (x.d.toNat < 16))
    (fun s =>
      let a := csAddr (s.core x.core) x
      if csOk a 32 then s.retire x.core (fun k => k.putBytes a (toBytes 32 (k.tr x.d.toNat).toNat))
      else s.ctlExcept x.core excAlign a) s

/-- TSET: field IMM[3:0] of tD takes the low bits of sA; the anchor slot becomes empty (R116, R125). A field number above 9 is
reserved. -/
def execTset (x : Fki) (s : State) : Host.Outcome State Fault Refusal :=
  fki x 0 2 0x0A [x.a.toNat] [x.d.toNat]
    (rsvOk [x.b.toNat, x.c.toNat, x.immBits 4 28] && decide (x.d.toNat < 16) && decide (x.immBits 0 4 ≤ 9))
    (fun s => s.retire x.core (fun k =>
      k.setT x.d.toNat (dSetField (k.tr x.d.toNat) (x.immBits 0 4) (k.sr x.a.toNat).toNat))) s

/-! ### Vector loads and stores (R123) -/

/-- A vector-engine exception at the instruction CTL executes. -/
def State.vecExcept (s : State) (c code : Nat) (addr : Nat := 0) : State :=
  s.except c { code := code, engine := 2, pc := (s.core c).pc, addr := addr }

/-- Why an LDV or STV cannot run: FORMAT (R43), or ALIGN with the address (R123). An IMM[15:0] that must be a multiple of 32 and is not
raises ALIGN with the descriptor's BASE (DESIGN CHOICE, log 90: the rule names no exception). -/
def vecMemCheck (k : Core) (x : Fki) : Option (Nat × Nat) :=
  let d := k.tr x.a.toNat
  let row := (k.sr x.b.toNat).toNat
  let first := x.immBits 0 16
  match dFmt d with
  | none => some (excFormat, 0)
  | some f =>
    if !f.vectorMem then some (excFormat, 0)
    else if f.isMx ∧ first % 32 ≠ 0 then some (excAlign, dBase d)
    else
      let n := min (first + 64) (dD0 d)
      match dAlign d f row row n with
      | some a => some (excAlign, a)
      | none => none

/-- The binary32 or int32 pattern of an element an LDV widens: exact, an int32 lane for integer formats, subnormals flushed under
FTZ; a scaled MX element outside binary32 is a value the spec does not state, and free. -/
def widen (ftz : Bool) (f : Fmt) (code : Nat) (x : Num) (free : Nat) : Lane32 :=
  if f.isInt then BitVec.ofInt 32 (signed code f.width)
  else if f = .fp32 then fpFlush ftz (BitVec.ofNat 32 code)
  else match x with
    | .nan => fpNan
    | .inf neg => fpInf neg
    | .fin neg m e =>
      let r := Fmt.fp32.roundTo .rne neg m e
      if r.overflow || r.inexact then BitVec.ofNat 32 free
      else fpFlush ftz (BitVec.ofNat 32 (Fmt.fp32.withSign neg r.code))

/-- Lane l of an LDV. -/
def ldvLane (k : Core) (x : Fki) (free l : Nat) : Lane32 :=
  let d := k.tr x.a.toNat
  let e := x.immBits 0 16 + l
  match dFmt d with
  | none => 0
  | some f =>
    if dD0 d ≤ e then 0
    else
      let row := (k.sr x.b.toNat).toNat
      widen k.ctx.ftz f (k.codeAt f (dRow d row) e) (k.elemAt d f row e) free

/-- LDV: up to 64 elements of row sB of tA, from D0 index IMM[15:0], into vD (R123). -/
def execLdv (x : Fki) (s : State) : Host.Outcome State Fault Refusal :=
  fki x 2 2 0x04 [x.b.toNat] [x.a.toNat] (rsvOk [x.c.toNat, x.immBits 16 16] && decide (x.a.toNat < 16))
    (fun s =>
      match vecMemCheck (s.core x.core) x with
      | some (code, a) => s.vecExcept x.core code a
      | none =>
        let k := s.core x.core
        let base := s.freeIndex
        let lanes := (List.range 64).map (fun l => ldvLane k x (Config.freeValue (base + l)) l)
        let s := { s with freeIndex := base + 64 }
        let s := s.coreEvent x.core 0x020 1
        let s := s.retire x.core (fun k => (k.setVec x.d.toNat lanes).retired 2 k.pc)
        s.traceRetired x.core 2 k.pc k.vsts) s

/-- The value of a lane as STV reads it: int32 for an integer destination, else binary32 (FTZ applied), times 2^OSC. -/
def stvValue (ftz : Bool) (f : Fmt) (osc : Int) (lane : Lane32) : Num :=
  (if f.isInt then Num.ofInt lane.toInt 0 else fpIn ftz lane).scale osc

/-- The rounding of STV for a destination element: the attribute of IMM[17:16], or R61 with IMM[18]. -/
def stvRounding (k : Core) (x : Fki) (d : BitVec 256) (row e : Nat) : Rounding :=
  if x.immBits 18 1 = 1 then .sr (srBits k.ctx.job k.ctx.step (dTensor d) (dIndex d row e))
  else .ofField (x.immBits 16 2)

/-- Flags a narrowing to a floating-point destination sets (R68). -/
def narrowFlags (f : Fmt) (r : Rounding) (v : Num) : Nat :=
  match v with
  | .fin neg m e =>
    if f.isInt then 0
    else
      let c := f.roundTo r neg m e
      (if c.overflow then flagOverflow + flagInexact else 0) +
      (if !c.overflow && c.inexact then flagInexact + (if c.tiny then flagUnderflow else 0) else 0)
  | _ => 0

/-- VSTS after an instruction that sets flags, and the counts of a conversion (R120). -/
def vstsFlags (w : Word) (flags : Nat) : Word := w ||| BitVec.ofNat 64 (flags % 32)

/-- VSTS with the counts of the last STV or VCVTFI. -/
def vstsCounts (w : Word) (c : ConvCount) : Word :=
  BitVec.ofNat 64 (setBits (setBits w.toNat 16 16 (min 65535 c.ovf)) 32 16 (min 65535 c.inv))

/-- Whether an element code is subnormal in its format. -/
def Fmt.subnormal (f : Fmt) (code : Nat) : Bool :=
  let mag := code % 2 ^ (f.width - 1)
  !f.isInt && decide (0 < mag) && decide (mag < 2 ^ f.layout.2.1)

/-- A result as it is stored: under FTZ a subnormal one is zero of its sign, underflowed and inexact (R67). -/
def Fmt.flushed (f : Fmt) (ftz : Bool) (code : Nat) : Nat × Nat :=
  if ftz && f.subnormal code then (code - code % 2 ^ (f.width - 1), flagUnderflow + flagInexact) else (code, 0)

/-- STV of a destination that is no MX format: each element converted and stored, flags and counts summed. -/
def stvPlain (k : Core) (x : Fki) (d : BitVec 256) (f : Fmt) (row : Nat) : Core :=
  let first := x.immBits 0 16
  let n := min 64 (dD0 d - first)
  let osc := signed (x.immBits 20 8) 8
  let r := (List.range n).foldl (fun (a : Core × Nat × ConvCount) l =>
      let v := stvValue k.ctx.ftz f osc (k.vr x.d.toNat l)
      let rd := stvRounding k x d row (first + l)
      let c := f.convert rd (x.immBits 19 1 == 1) v
      let z := f.flushed k.ctx.ftz c.1
      (a.1.putCode f (dRow d row) (first + l) z.1, a.2.1 ||| narrowFlags f rd v ||| z.2, a.2.2.add c.2)) (k, 0, ConvCount.zero)
  { r.1 with vsts := vstsCounts (vstsFlags k.vsts r.2.1) r.2.2 }

/-- The flags of the elements of an MX block under its scale byte, none in a block of scale 0xFF (R68). -/
def mxFlags (f : Fmt) (rs : Nat → Rounding) (vals : List (Num × Bool)) (scale : Nat) : Nat :=
  if scale = 0xFF then 0
  else vals.zipIdx.foldl (fun a v => a ||| narrowFlags f (rs v.2) (v.1.1.scale (127 - (scale : Int)))) 0

/-- One MX block of an STV: 32 lanes from `l0`, elements beyond D0 formed as +0 and not stored (R64, R123); its flags and counts. -/
def stvBlock (k : Core) (x : Fki) (d : BitVec 256) (f : Fmt) (row l0 : Nat) (out : Core × Nat × ConvCount) : Core × Nat × ConvCount :=
  let first := x.immBits 0 16 + l0
  if dD0 d ≤ first then out
  else
    let n := min 32 (dD0 d - first)
    let osc := signed (x.immBits 20 8) 8
    let vals := (List.range 32).map (fun i =>
      (if i < n then stvValue k.ctx.ftz f osc (k.vr x.d.toNat (l0 + i)) else Num.zero false, false))
    let rs (i : Nat) : Rounding := stvRounding k x d row (first + i)
    let b := f.convertMx rs vals
    let codes := (b.2.1.take n).map (f.flushed k.ctx.ftz)
    let c := codes.zipIdx.foldl (fun c ci => c.putCode f (dRow d row) (first + ci.2) ci.1.1) out.1
    let flags := codes.foldl (fun a z => a ||| z.2) (out.2.1 ||| mxFlags f rs vals b.1)
    (c.putBytes (dScaleAddr d row first) [BitVec.ofNat 8 b.1], flags, out.2.2.add b.2.2)

/-- The core as an STV leaves its core store and VSTS. -/
def stvCore (k : Core) (x : Fki) : Core :=
  let d := k.tr x.a.toNat
  let row := (k.sr x.b.toNat).toNat
  match dFmt d with
  | none => k
  | some f =>
    if f.isMx then
      let o := stvBlock k x d f row 32 (stvBlock k x d f row 0 (k, 0, ConvCount.zero))
      { o.1 with vsts := vstsCounts (vstsFlags k.vsts o.2.1) o.2.2 }
    else stvPlain k x d f row

/-- STV: vD to row sB of tA from D0 index IMM[15:0], narrowing under the rounding, SR, OVS and OSC fields (R123). -/
def execStv (x : Fki) (s : State) : Host.Outcome State Fault Refusal :=
  fki x 2 2 0x05 [x.b.toNat] [x.a.toNat] (rsvOk [x.c.toNat, x.immBits 28 4] && decide (x.a.toNat < 16))
    (fun s =>
      match vecMemCheck (s.core x.core) x with
      | some (code, a) => s.vecExcept x.core code a
      | none =>
        let k := s.core x.core
        let s := s.coreEvent x.core 0x020 1
        let s := s.retire x.core (fun k => (stvCore k x).retired 2 k.pc)
        s.traceRetired x.core 2 k.pc (stvCore k x).vsts) s

end Sys2Proof.Machine
end

