-- ==== Sys2Proof/Machine/Scalar.lean ====
section
/-! DEFINITION. Scalar and branch instructions (classes 0x00 and 0x01 of R119), the special registers (R120), the end of a
program (R151), and a word that is no instruction. -/

namespace Sys2Proof.Machine
open Sys2Proof

/-- A scalar instruction of two sources: sD takes the result, C and IMM are zero. R118 asks zero of unused register fields; an unused
IMM must be zero as well (DESIGN CHOICE, log 91: the rule does not name it), here and in JR, NOP, END and every other instruction
whose IMM has no use. -/
def scalar2 (x : Fki) (fn : Nat) (f : Word → Word → Word) (s : State) : Host.Outcome State Fault Refusal :=
  fki x 0 0 fn [x.d.toNat, x.a.toNat, x.b.toNat] [] (rsvOk [x.c.toNat, x.im])
    (fun s => s.retire x.core (fun k => k.setS x.d.toNat (f (k.sr x.a.toNat) (k.sr x.b.toNat)))) s

/-- A scalar instruction of one source and the immediate: B and C are zero. -/
def scalarI (x : Fki) (fn : Nat) (f : Word → Word) (s : State) : Host.Outcome State Fault Refusal :=
  fki x 0 0 fn [x.d.toNat, x.a.toNat] [] (rsvOk [x.b.toNat, x.c.toNat])
    (fun s => s.retire x.core (fun k => k.setS x.d.toNat (f (k.sr x.a.toNat)))) s

/-- The shift amount sB[5:0]. -/
def shiftAmount (w : Word) : Nat := w.toNat % 64

/-- A comparison as the scalar 0 or 1. -/
def boolWord (b : Bool) : Word := if b then 1 else 0

/-- ADD: sD = sA + sB (R119). -/
def execAdd (x : Fki) (s : State) : Host.Outcome State Fault Refusal :=
  scalar2 x 0x0 (fun a b => a + b) s

/-- SUB: sD = sA - sB (R119). -/
def execSub (x : Fki) (s : State) : Host.Outcome State Fault Refusal :=
  scalar2 x 0x1 (fun a b => a - b) s

/-- MUL: the low 64 bits of the product (R119). -/
def execMul (x : Fki) (s : State) : Host.Outcome State Fault Refusal :=
  scalar2 x 0x2 (fun a b => a * b) s

/-- MULHU: the high 64 bits of the unsigned product (R119). -/
def execMulhu (x : Fki) (s : State) : Host.Outcome State Fault Refusal :=
  scalar2 x 0x3 (fun a b => BitVec.ofNat 64 (a.toNat * b.toNat / 2 ^ 64)) s

/-- AND: bitwise AND (R119). -/
def execAnd (x : Fki) (s : State) : Host.Outcome State Fault Refusal :=
  scalar2 x 0x4 (fun a b => a &&& b) s

/-- OR: bitwise OR (R119). -/
def execOr (x : Fki) (s : State) : Host.Outcome State Fault Refusal :=
  scalar2 x 0x5 (fun a b => a ||| b) s

/-- XOR: bitwise XOR (R119). -/
def execXor (x : Fki) (s : State) : Host.Outcome State Fault Refusal :=
  scalar2 x 0x6 (fun a b => a ^^^ b) s

/-- SHL: left shift by sB[5:0] (R119). -/
def execShl (x : Fki) (s : State) : Host.Outcome State Fault Refusal :=
  scalar2 x 0x7 (fun a b => a <<< shiftAmount b) s

/-- SHR: logical right shift by sB[5:0] (R119). -/
def execShr (x : Fki) (s : State) : Host.Outcome State Fault Refusal :=
  scalar2 x 0x8 (fun a b => a >>> shiftAmount b) s

/-- SAR: arithmetic right shift by sB[5:0] (R119). -/
def execSar (x : Fki) (s : State) : Host.Outcome State Fault Refusal :=
  scalar2 x 0x9 (fun a b => a.sshiftRight (shiftAmount b)) s

/-- SLT: signed less-than (R119). -/
def execSlt (x : Fki) (s : State) : Host.Outcome State Fault Refusal :=
  scalar2 x 0xa (fun a b => boolWord (a.slt b)) s

/-- SLTU: unsigned less-than (R119). -/
def execSltu (x : Fki) (s : State) : Host.Outcome State Fault Refusal :=
  scalar2 x 0xb (fun a b => boolWord (a.ult b)) s

/-- MIN: signed minimum (R119). -/
def execMin (x : Fki) (s : State) : Host.Outcome State Fault Refusal :=
  scalar2 x 0xc (fun a b => if a.slt b then a else b) s

/-- MAX: signed maximum (R119). -/
def execMax (x : Fki) (s : State) : Host.Outcome State Fault Refusal :=
  scalar2 x 0xd (fun a b => if a.slt b then b else a) s

/-- ADDI: sD = sA + sext(IMM) (R119). -/
def execAddi (x : Fki) (s : State) : Host.Outcome State Fault Refusal :=
  scalarI x 0x10 (fun a => a + x.sext) s

/-- ANDI: sD = sA AND zext(IMM) (R119). -/
def execAndi (x : Fki) (s : State) : Host.Outcome State Fault Refusal :=
  scalarI x 0x11 (fun a => a &&& x.zext) s

/-- ORI: sD = sA OR zext(IMM) (R119). -/
def execOri (x : Fki) (s : State) : Host.Outcome State Fault Refusal :=
  scalarI x 0x12 (fun a => a ||| x.zext) s

/-- LUI: IMM over the low half of sA (R119). -/
def execLui (x : Fki) (s : State) : Host.Outcome State Fault Refusal :=
  scalarI x 0x13 (fun a => (a &&& 0xFFFFFFFF#64) ||| (x.zext <<< 32)) s

/-- MOVI: sD = sext(IMM); A, B and C are zero (R119). -/
def execMovi (x : Fki) (s : State) : Host.Outcome State Fault Refusal :=
  fki x 0 0 0x14 [x.d.toNat] [] (rsvOk [x.a.toNat, x.b.toNat, x.c.toNat])
    (fun s => s.retire x.core (fun k => k.setS x.d.toNat x.sext)) s

/-- NOP: every field zero; only the PC advances (R119). -/
def execNop (x : Fki) (s : State) : Host.Outcome State Fault Refusal :=
  fki x 0 0 0x1F [] [] (rsvOk [x.d.toNat, x.a.toNat, x.b.toNat, x.c.toNat, x.im])
    (fun s => s.retire x.core id) s

/-! ### Special registers (R120) -/

/-- The core cycles since launch, 64 bits (SR CYC). -/
def State.cyc (s : State) (c : Nat) : Nat := ((s.region 1 c).cycles s.time.count - (s.core c).ctx.startCyc) % 2 ^ 64

/-- The content of a special register, if the number names one. -/
def State.specialReg (s : State) (c n : Nat) : Option Word :=
  let k := s.core c
  if n = 0x00 then some (BitVec.ofNat 64 (c % 24 + c / 24 * 32))
  else if n = 0x01 then some (BitVec.ofNat 64 (k.ctx.job % 2 ^ 12 + k.ctx.epoch % 2 ^ 8 * 2 ^ 12))
  else if n = 0x02 then some (BitVec.ofNat 64 (k.ctx.step % 2 ^ 48))
  else if n = 0x03 then some (BitVec.ofNat 64 k.ctx.grec)
  else if n = 0x04 then some k.msts
  else if n = 0x05 then some k.vsts
  else if n = 0x06 then some (BitVec.ofNat 64 (s.cyc c))
  else if n = 0x07 then some (BitVec.ofNat 64 k.pc)
  else if n = 0x10 then some k.misr
  else none

/-- Clears the bit fields and counts a write of ones covers: a single bit by its own bit, a count by any of its bits (R120). -/
def clearCounts (w v : Word) : Word :=
  let w := w &&& ~~~(v &&& 0xFFFF#64)
  let w := if bits v.toNat 16 16 ≠ 0 then w &&& ~~~0xFFFF0000#64 else w
  if bits v.toNat 32 16 ≠ 0 then w &&& ~~~0xFFFF00000000#64 else w

/-- RDSR: sD = SR[IMM[7:0]]; a number not listed raises ILLEGAL (R120). MISR reads only in a screening package (R142). -/
def execRdsr (x : Fki) (s : State) : Host.Outcome State Fault Refusal :=
  fki x 0 0 0x18 [x.d.toNat] [] (rsvOk [x.a.toNat, x.b.toNat, x.c.toNat, x.immBits 8 24])
    (fun s => match s.specialReg x.core (x.immBits 0 8) with
      | none => s.ctlExcept x.core excIllegal
      | some w =>
        if x.immBits 0 8 = 0x10 ∧ !(s.core x.core).package then s.ctlExcept x.core excPriv
        else s.retire x.core (fun k => k.setS x.d.toNat w)) s

/-- WRSR: SR[IMM[7:0]] = sA: MSTS and VSTS clear what the ones cover, MISR only in a screening package, an RO register raises
RSVFIELD, a number not listed ILLEGAL (R120). -/
def execWrsr (x : Fki) (s : State) : Host.Outcome State Fault Refusal :=
  fki x 0 0 0x19 [x.a.toNat] [] (rsvOk [x.d.toNat, x.b.toNat, x.c.toNat, x.immBits 8 24])
    (fun s =>
      let n := x.immBits 0 8
      if (s.specialReg x.core n).isNone then s.ctlExcept x.core excIllegal
      else if n = 0x04 then s.retire x.core (fun k => { k with msts := clearCounts k.msts (k.sr x.a.toNat) })
      else if n = 0x05 then s.retire x.core (fun k => { k with vsts := clearCounts k.vsts (k.sr x.a.toNat) })
      else if n = 0x10 then
        if (s.core x.core).package then s.retire x.core (fun k => { k with misr := k.sr x.a.toNat })
        else s.ctlExcept x.core excPriv
      else s.ctlExcept x.core excRsvField) s

/-! ### Branches -/

/-- PC + 8 x sext(IMM) (R119), within the 48 address bits. -/
def branchTarget (pc : Nat) (x : Fki) : Nat := (((pc : Int) + 8 * x.imm.toInt) % (2 : Int) ^ 48).toNat

/-- A branch on two scalars: taken to PC + 8 sext(IMM), else to the next instruction; D and C are zero. -/
def branch2 (x : Fki) (fn : Nat) (test : Word → Word → Bool) (s : State) : Host.Outcome State Fault Refusal :=
  fki x 0 1 fn [x.a.toNat, x.b.toNat] [] (rsvOk [x.d.toNat, x.c.toNat])
    (fun s =>
      let k := s.core x.core
      if test (k.sr x.a.toNat) (k.sr x.b.toNat) then s.branchTo x.core (branchTarget k.pc x)
      else s.retire x.core id) s

/-- BEQ: branch if equal (R119). -/
def execBeq (x : Fki) (s : State) : Host.Outcome State Fault Refusal :=
  branch2 x 0x0 (fun a b => a == b) s

/-- BNE: branch if different (R119). -/
def execBne (x : Fki) (s : State) : Host.Outcome State Fault Refusal :=
  branch2 x 0x1 (fun a b => a != b) s

/-- BLT: branch if less, signed (R119). -/
def execBlt (x : Fki) (s : State) : Host.Outcome State Fault Refusal :=
  branch2 x 0x2 (fun a b => a.slt b) s

/-- BGE: branch if at least, signed (R119). -/
def execBge (x : Fki) (s : State) : Host.Outcome State Fault Refusal :=
  branch2 x 0x3 (fun a b => !a.slt b) s

/-- BLTU: branch if less, unsigned (R119). -/
def execBltu (x : Fki) (s : State) : Host.Outcome State Fault Refusal :=
  branch2 x 0x4 (fun a b => a.ult b) s

/-- BGEU: branch if at least, unsigned (R119). -/
def execBgeu (x : Fki) (s : State) : Host.Outcome State Fault Refusal :=
  branch2 x 0x5 (fun a b => !a.ult b) s

/-- JAL: sD = PC + 8, then to PC + 8 sext(IMM); A, B and C are zero (R119). -/
def execJal (x : Fki) (s : State) : Host.Outcome State Fault Refusal :=
  fki x 0 1 0x06 [x.d.toNat] [] (rsvOk [x.a.toNat, x.b.toNat, x.c.toNat])
    (fun s =>
      let pc := (s.core x.core).pc
      s.branchWith x.core (branchTarget pc x) (fun k => k.setS x.d.toNat (BitVec.ofNat 64 (pc + 8)))) s

/-- JR: to the address in sA; D, B, C and IMM are zero (R119). No rule names an exception for an address that is no multiple of 8: PC
takes sA[47:0] as it is (DESIGN CHOICE, log 91). -/
def execJr (x : Fki) (s : State) : Host.Outcome State Fault Refusal :=
  fki x 0 1 0x07 [x.a.toNat] [] (rsvOk [x.d.toNat, x.b.toNat, x.c.toNat, x.im])
    (fun s => s.branchTo x.core (((s.core x.core).sr x.a.toNat).toNat % 2 ^ 48)) s

/-- A branch on a predicate: pC is a register of eight; D, A and B are zero. -/
def branchP (x : Fki) (fn : Nat) (test : Word → Bool) (s : State) : Host.Outcome State Fault Refusal :=
  fki x 0 1 fn [] [] (rsvOk [x.d.toNat, x.a.toNat, x.b.toNat] && decide (x.c.toNat < 8))
    (fun s =>
      let k := s.core x.core
      if test (k.pr x.c.toNat) then s.branchTo x.core (branchTarget k.pc x) else s.retire x.core id) s

/-- BPANY: branch if pC has any bit set (R119). -/
def execBpany (x : Fki) (s : State) : Host.Outcome State Fault Refusal := branchP x 0x08 (fun p => p != 0) s

/-- BPNONE: branch if pC has no bit set (R119). -/
def execBpnone (x : Fki) (s : State) : Host.Outcome State Fault Refusal := branchP x 0x09 (fun p => p == 0) s

/-- END: CTL issues nothing more and waits for the engines and fabric instructions of the core (R151). -/
def execEndProgram (x : Fki) (s : State) : Host.Outcome State Fault Refusal :=
  fki x 0 1 0x3F [] [] (rsvOk [x.d.toNat, x.a.toNat, x.b.toNat, x.c.toNat, x.im])
    (fun s => s.modCore x.core (fun k => { k with wait := .ended })) s

/-- A fetched word that R119 gives no instruction: a class of 0x0A or above, or a function its class does not list. -/
def illegalWord (w : Word) : Bool :=
  let cls := bits w.toNat 58 6
  let fn := bits w.toNat 52 6
  let listed : List Nat :=
    if cls = 0 then [0, 1, 2, 3, 4, 5, 6, 7, 8, 9, 10, 11, 12, 13, 0x10, 0x11, 0x12, 0x13, 0x14, 0x18, 0x19, 0x1F]
    else if cls = 1 then [0, 1, 2, 3, 4, 5, 6, 7, 8, 9, 0x3F]
    else if cls = 2 then [0, 1, 4, 5, 8, 9, 10]
    else if cls = 3 then [0, 1, 2, 3, 4, 5, 6, 7, 8, 9, 10, 11, 12, 13, 14, 15, 16, 17, 18, 19, 20, 21, 22, 23, 24, 25, 26,
      0x1C, 0x20, 0x21, 0x22, 0x23]
    else if cls = 4 then [0, 1, 2, 3, 4, 5]
    else if cls = 5 then [0]
    else if cls = 6 then [0, 1, 2, 3]
    else if cls = 7 then [0, 1, 2, 3, 4, 5]
    else if cls = 8 then [0, 1]
    else if cls = 9 then [0, 1, 2, 3]
    else []
  !listed.contains fn

/-- ILLEGAL_INSTRUCTION: a fetched word with a reserved class or function, or RDSR or WRSR of a reserved SR number, raises ILLEGAL
and stops the core (R119, R120). -/
def execIllegalInstruction (core : Nat) (word : BitVec 64) (s : State) : Host.Outcome State Fault Refusal :=
  let sr := bits word.toNat 58 6 = 0 ∧ (bits word.toNat 52 6 = 0x18 ∨ bits word.toNat 52 6 = 0x19) ∧
    ¬ bits word.toNat 0 8 < 8 ∧ bits word.toNat 0 8 ≠ 0x10
  act (fun s => s.issues core [] [] && (illegalWord word || decide sr)) (fun s => s.ctlExcept core excIllegal) s

end Sys2Proof.Machine
end

