-- ==== Sys2Proof/Machine/Vector.lean ====
section
/-! DEFINITION. Vector instructions (class 0x03 of R119, R66-R70, R121, R122): 64 lanes under a predicate, with the sticky flags
of VSTS. -/

namespace Sys2Proof.Machine
open Sys2Proof

/-- Whether lane l is active under the predicate an instruction names. -/
def Fki.active (k : Core) (x : Fki) (l : Nat) : Bool := (k.pr x.c.toNat).getLsbD l

/-- The lanes an instruction works on. -/
def activeLanes (k : Core) (x : Fki) : List Nat := (List.range 64).filter (Fki.active k x)

/-- Ends a vector instruction: the core changes, the instruction retires and is counted with its active lanes (R413). -/
def State.vecRetire (s : State) (c lanes : Nat) (k' : Core) : State :=
  let pc := (s.core c).pc
  let s := s.coreEvent c 0x020 1
  let s := s.coreEvent c 0x021 lanes
  let s := s.retire c (fun k => k'.retired 2 k.pc)
  s.traceRetired c 2 pc k'.vsts

/-- Writes the active lanes of vD with results, and ORs their flags into VSTS; other lanes keep their value (R121). -/
def lanesInto (k : Core) (x : Fki) (f : Nat → FpResult) : Core :=
  (activeLanes k x).foldl (fun k' l =>
    let r := f l
    { k'.setV x.d.toNat l r.bits with vsts := vstsFlags k'.vsts r.flags }) k

/-- A predicated vector instruction that writes vD lane by lane. `imm` is the IMM that must be zero beside a rounding field. -/
def vecLanes (x : Fki) (fn : Nat) (zeroB : Bool) (imm : Nat) (f : Core → Nat → FpResult) (s : State) :
    Host.Outcome State Fault Refusal :=
  fki x 2 3 fn [] [] (rsvOk [if zeroB then x.b.toNat else 0, imm] && decide (x.c.toNat < 8))
    (fun s =>
      let k := s.core x.core
      s.vecRetire x.core (activeLanes k x).length (lanesInto k x (f k))) s

/-- The rounding attribute of IMM[1:0] (R121). -/
def vecRnd (x : Fki) : Rounding := .ofField (x.immBits 0 2)

/-- A predicated instruction of two vector sources with a rounding attribute. -/
def vecRound2 (x : Fki) (fn : Nat) (f : Rounding → Bool → Lane32 → Lane32 → FpResult) (s : State) :
    Host.Outcome State Fault Refusal :=
  vecLanes x fn false (x.immBits 2 30)
    (fun k l => f (vecRnd x) k.ctx.ftz (k.vr x.a.toNat l) (k.vr x.b.toNat l)) s

/-- A predicated instruction of two vector sources without rounding. -/
def vecPlain2 (x : Fki) (fn : Nat) (f : Bool → Lane32 → Lane32 → FpResult) (s : State) :
    Host.Outcome State Fault Refusal :=
  vecLanes x fn false x.im (fun k l => f k.ctx.ftz (k.vr x.a.toNat l) (k.vr x.b.toNat l)) s

/-- A predicated instruction of one vector source without rounding. -/
def vecPlain1 (x : Fki) (fn : Nat) (f : Bool → Lane32 → FpResult) (s : State) : Host.Outcome State Fault Refusal :=
  vecLanes x fn true x.im (fun k l => f k.ctx.ftz (k.vr x.a.toNat l)) s

/-- A result without flags. -/
def noFlags (x : Lane32) : FpResult := { bits := x, flags := 0 }

/-- VADD: vD = vA + vB, one rounding (R66, R121). -/
def execVadd (x : Fki) (s : State) : Host.Outcome State Fault Refusal :=
  vecRound2 x 0x0 fpAdd s

/-- VSUB: vD = vA - vB (R66, R121). -/
def execVsub (x : Fki) (s : State) : Host.Outcome State Fault Refusal :=
  vecRound2 x 0x1 fpSub s

/-- VMUL: vD = vA x vB (R66, R121). -/
def execVmul (x : Fki) (s : State) : Host.Outcome State Fault Refusal :=
  vecRound2 x 0x2 fpMul s

/-- VDIV: correctly rounded division (R69). -/
def execVdiv (x : Fki) (s : State) : Host.Outcome State Fault Refusal :=
  vecRound2 x 0x4 fpDiv s

/-- VSQRT: correctly rounded square root (R69). -/
def execVsqrt (x : Fki) (s : State) : Host.Outcome State Fault Refusal :=
  vecLanes x 0x5 true (x.immBits 2 30) (fun k l => fpSqrt (vecRnd x) k.ctx.ftz (k.vr x.a.toNat l)) s

/-- VMIN: IEEE minimum (R66). -/
def execVmin (x : Fki) (s : State) : Host.Outcome State Fault Refusal :=
  vecPlain2 x 0x6 (fpMinMax false) s

/-- VMAX: IEEE maximum (R66). -/
def execVmax (x : Fki) (s : State) : Host.Outcome State Fault Refusal :=
  vecPlain2 x 0x7 (fpMinMax true) s

/-- VABS: absolute value (R119, R121). -/
def execVabs (x : Fki) (s : State) : Host.Outcome State Fault Refusal :=
  vecPlain1 x 0x8 (fun z => fpSignOp z (fun y => y &&& 0x7FFFFFFF#32)) s

/-- VNEG: negation (R119, R121). -/
def execVneg (x : Fki) (s : State) : Host.Outcome State Fault Refusal :=
  vecPlain1 x 0x9 (fun z => fpSignOp z fpNegBits) s

/-- Writes the predicate bits of the active lanes with comparison results, and ORs the flags; other bits keep their value. -/
def compareInto (k : Core) (x : Fki) (f : Nat → Bool × Nat) : Core :=
  (activeLanes k x).foldl (fun k' l =>
    let r := f l
    let p := k'.pr x.d.toNat
    let bitL : Word := 1#64 <<< l
    { k'.setP x.d.toNat (if r.1 then p ||| bitL else p &&& ~~~bitL) with vsts := vstsFlags k'.vsts r.2 }) k

/-- A lane-wise comparison into predicate pD (R119). -/
def vecCompare (x : Fki) (fn : Nat) (ordered : Bool) (test : Int → Bool) (s : State) :
    Host.Outcome State Fault Refusal :=
  fki x 2 3 fn [] [] (rsvOk [x.im] && decide (x.c.toNat < 8) && decide (x.d.toNat < 8))
    (fun s =>
      let k := s.core x.core
      s.vecRetire x.core (activeLanes k x).length
        (compareInto k x (fun l => fpCompare ordered k.ctx.ftz test (k.vr x.a.toNat l) (k.vr x.b.toNat l)))) s

/-- VCEQ: lane-wise equality into pD (R119). -/
def execVceq (x : Fki) (s : State) : Host.Outcome State Fault Refusal :=
  vecCompare x 0xA false (fun c => c == 0) s

/-- VCLT: lane-wise less-than into pD (R119). -/
def execVclt (x : Fki) (s : State) : Host.Outcome State Fault Refusal :=
  vecCompare x 0xB true (fun c => decide (c < 0)) s

/-- VCLE: lane-wise less-or-equal into pD (R119). -/
def execVcle (x : Fki) (s : State) : Host.Outcome State Fault Refusal :=
  vecCompare x 0xC true (fun c => decide (c ≤ 0)) s

/-- VFMA: vD = vA x vB + vC with one rounding, unpredicated; C names a vector register (R66, R121). A failed residue check of the
multiplier or the addend path stops the engine before it writes (R73, R74). -/
def execVfma (x : Fki) (hw : HwError) (s : State) : Host.Outcome State Fault Refusal :=
  fki x 2 3 0x3 [] [] (rsvOk [x.immBits 2 30])
    (fun s =>
      let k := s.core x.core
      match hw with
      | .residue stage _ lane =>
        s.except x.core { code := excResidue, engine := 2, pc := k.pc, sub := stage, index := lane }
      | .parity a => s.except x.core { code := excParity, engine := 2, pc := k.pc, addr := a }
      | _ =>
        let k' := (List.range 64).foldl (fun k' l =>
          let r := fpFma (vecRnd x) k.ctx.ftz (k.vr x.a.toNat l) (k.vr x.b.toNat l) (k.vr x.c.toNat l)
          { k'.setV x.d.toNat l r.bits with vsts := vstsFlags k'.vsts r.flags }) k
        s.vecRetire x.core 64 k') s

/-- VSEL: vD = pC ? vA : vB in each lane; C names a predicate register (R119, R121). -/
def execVsel (x : Fki) (s : State) : Host.Outcome State Fault Refusal :=
  fki x 2 3 0xD [] [] (rsvOk [x.im] && decide (x.c.toNat < 8))
    (fun s =>
      let k := s.core x.core
      s.vecRetire x.core 64 (k.setVec x.d.toNat ((List.range 64).map (fun l =>
        if Fki.active k x l then k.vr x.a.toNat l else k.vr x.b.toNat l)))) s

/-- VBCST: vD = sA[31:0] in every active lane (R119). -/
def execVbcst (x : Fki) (s : State) : Host.Outcome State Fault Refusal :=
  fki x 2 3 0xE [x.a.toNat] [] (rsvOk [x.b.toNat, x.im] && decide (x.c.toNat < 8))
    (fun s =>
      let k := s.core x.core
      s.vecRetire x.core (activeLanes k x).length
        (lanesInto k x (fun _ => noFlags ((k.sr x.a.toNat).setWidth 32)))) s

/-- One level of the pairwise tree: adjacent values are added (R122). -/
def pairLevel (add : Lane32 → Lane32 → FpResult) : List Lane32 → List Lane32 × Nat
  | a :: b :: t =>
    let r := add a b
    let q := pairLevel add t
    (r.bits :: q.1, r.flags ||| q.2)
  | l => (l, 0)

/-- The tree over its levels, and the flags of all its additions. -/
def pairTree (add : Lane32 → Lane32 → FpResult) : Nat → List Lane32 → List Lane32 × Nat
  | 0, l => (l, 0)
  | n + 1, l =>
    let a := pairLevel add l
    let b := pairTree add n a.1
    (b.1, a.2 ||| b.2)

/-- VRED: the 64 lanes summed by the fixed pairwise tree of six levels into sD, a masked lane as +0 (R122). -/
def execVred (x : Fki) (s : State) : Host.Outcome State Fault Refusal :=
  fki x 2 3 0xF [x.d.toNat] [] (rsvOk [x.b.toNat, x.immBits 2 30] && decide (x.c.toNat < 8))
    (fun s =>
      let k := s.core x.core
      let lanes := (List.range 64).map (fun l => if Fki.active k x l then k.vr x.a.toNat l else 0)
      let t := pairTree (fpAdd (vecRnd x) k.ctx.ftz) 6 lanes
      let sum := (t.1.headD 0).zeroExtend 64
      s.vecRetire x.core (activeLanes k x).length { k.setS x.d.toNat sum with vsts := vstsFlags k.vsts t.2 }) s

/-- VRCP: 1/x within 1 ulp (R69). -/
def execVrcp (x : Fki) (s : State) : Host.Outcome State Fault Refusal :=
  vecPlain1 x 0x10 (fpFunction .rcp) s

/-- VRSQ: 1/sqrt x within 1 ulp (R69). -/
def execVrsq (x : Fki) (s : State) : Host.Outcome State Fault Refusal :=
  vecPlain1 x 0x11 (fpFunction .rsq) s

/-- VEXP2: 2^x within 1 ulp (R69). -/
def execVexp2 (x : Fki) (s : State) : Host.Outcome State Fault Refusal :=
  vecPlain1 x 0x12 (fpFunction .exp2) s

/-- VLOG2: log2 x within 1 ulp (R69). -/
def execVlog2 (x : Fki) (s : State) : Host.Outcome State Fault Refusal :=
  vecPlain1 x 0x13 (fpFunction .log2) s

/-- VEXP: e^x within 2 ulp (R69). -/
def execVexp (x : Fki) (s : State) : Host.Outcome State Fault Refusal :=
  vecPlain1 x 0x14 (fpFunction .expe) s

/-- VLN: ln x within 2 ulp (R69). -/
def execVln (x : Fki) (s : State) : Host.Outcome State Fault Refusal :=
  vecPlain1 x 0x15 (fpFunction .ln) s

/-- VSIN: sin x within 2 ulp (R69). -/
def execVsin (x : Fki) (s : State) : Host.Outcome State Fault Refusal :=
  vecPlain1 x 0x16 (fpFunction .sin) s

/-- VCOS: cos x within 2 ulp (R69). -/
def execVcos (x : Fki) (s : State) : Host.Outcome State Fault Refusal :=
  vecPlain1 x 0x17 (fpFunction .cos) s

/-- VTANH: tanh x within 2 ulp (R69). -/
def execVtanh (x : Fki) (s : State) : Host.Outcome State Fault Refusal :=
  vecPlain1 x 0x18 (fpFunction .tanh) s

/-- VSIGM: the logistic sigmoid within 2 ulp (R69). -/
def execVsigm (x : Fki) (s : State) : Host.Outcome State Fault Refusal :=
  vecPlain1 x 0x19 (fpFunction .sigm) s

/-- VERF: the error function within 2 ulp (R69). -/
def execVerf (x : Fki) (s : State) : Host.Outcome State Fault Refusal :=
  vecPlain1 x 0x1a (fpFunction .erf) s

/-- VSPLIT: hi to vD and lo to vD+1 in each active lane; D must be even (R70, R122). The rounding of lo sets the sticky flags of R68
(DEDUCED, log 90). -/
def execVsplit (x : Fki) (s : State) : Host.Outcome State Fault Refusal :=
  fki x 2 3 0x1C [] [] (rsvOk [x.b.toNat, x.im] && decide (x.c.toNat < 8) && x.d.toNat % 2 == 0)
    (fun s =>
      let k := s.core x.core
      let k' := (activeLanes k x).foldl (fun k' l =>
        let h := fpSplit k.ctx.ftz (k.vr x.a.toNat l)
        { (k'.setV x.d.toNat l h.1).setV (x.d.toNat + 1) l h.2.bits with vsts := vstsFlags k'.vsts h.2.flags }) k
      s.vecRetire x.core (activeLanes k x).length k') s

/-- VIADD: int32 addition (R119). -/
def execViadd (x : Fki) (s : State) : Host.Outcome State Fault Refusal :=
  vecPlain2 x 0x20 (fun _ a b => noFlags (a + b)) s

/-- VIMUL: the low 32 bits of the int32 product (R119). -/
def execVimul (x : Fki) (s : State) : Host.Outcome State Fault Refusal :=
  vecPlain2 x 0x21 (fun _ a b => noFlags (a * b)) s

/-- VCVTIF: int32 lanes to binary32 under the attribute (R119, R121). -/
def execVcvtif (x : Fki) (s : State) : Host.Outcome State Fault Refusal :=
  vecLanes x 0x22 true (x.immBits 2 30) (fun k l => fpOfInt (vecRnd x) k.ctx.ftz (k.vr x.a.toNat l)) s

/-- VCVTFI: binary32 lanes to int32 under the attribute, saturating; a NaN gives 0; overflows and invalid conversions are the
counts of VSTS (R122). -/
def execVcvtfi (x : Fki) (s : State) : Host.Outcome State Fault Refusal :=
  fki x 2 3 0x23 [] [] (rsvOk [x.b.toNat, x.immBits 2 30] && decide (x.c.toNat < 8))
    (fun s =>
      let k := s.core x.core
      let conv := fun l => fpToInt (vecRnd x) k.ctx.ftz (k.vr x.a.toNat l)
      let n := (activeLanes k x).foldl (fun c l => c.add (conv l).2) ConvCount.zero
      let k' := lanesInto k x (fun l => (conv l).1)
      s.vecRetire x.core (activeLanes k x).length { k' with vsts := vstsCounts k'.vsts n }) s

end Sys2Proof.Machine
end

