-- ==== Sys2Proof/Machine/Dispatch.lean ====
section
/-! DEFINITION. The dispatch: one arm per command of the table, each one direct call of that command's meaning. -/

namespace Sys2Proof.Machine
open Sys2Proof

/-- The effect of one command on everything but the queue. -/
def exec (i : Instr) (s : State) : Host.Outcome State Fault Refusal :=
  match i with
  | .coldPowerOn badStores => Sys2Proof.Machine.execColdPowerOn badStores s
  | .bringupStageComplete report => Sys2Proof.Machine.execBringupStageComplete report s
  | .bringupStageTimeout => Sys2Proof.Machine.execBringupStageTimeout s
  | .mainInputRangeChange input => Sys2Proof.Machine.execMainInputRangeChange input s
  | .auxInputLoss => Sys2Proof.Machine.execAuxInputLoss s
  | .dispatcherScan => Sys2Proof.Machine.execDispatcherScan s
  | .launch entry => Sys2Proof.Machine.execLaunch entry s
  | .add x => Sys2Proof.Machine.execAdd x s
  | .sub x => Sys2Proof.Machine.execSub x s
  | .mul x => Sys2Proof.Machine.execMul x s
  | .mulhu x => Sys2Proof.Machine.execMulhu x s
  | .and x => Sys2Proof.Machine.execAnd x s
  | .or x => Sys2Proof.Machine.execOr x s
  | .xor x => Sys2Proof.Machine.execXor x s
  | .shl x => Sys2Proof.Machine.execShl x s
  | .shr x => Sys2Proof.Machine.execShr x s
  | .sar x => Sys2Proof.Machine.execSar x s
  | .slt x => Sys2Proof.Machine.execSlt x s
  | .sltu x => Sys2Proof.Machine.execSltu x s
  | .min x => Sys2Proof.Machine.execMin x s
  | .max x => Sys2Proof.Machine.execMax x s
  | .addi x => Sys2Proof.Machine.execAddi x s
  | .andi x => Sys2Proof.Machine.execAndi x s
  | .ori x => Sys2Proof.Machine.execOri x s
  | .lui x => Sys2Proof.Machine.execLui x s
  | .movi x => Sys2Proof.Machine.execMovi x s
  | .rdsr x => Sys2Proof.Machine.execRdsr x s
  | .wrsr x => Sys2Proof.Machine.execWrsr x s
  | .nop x => Sys2Proof.Machine.execNop x s
  | .beq x => Sys2Proof.Machine.execBeq x s
  | .bne x => Sys2Proof.Machine.execBne x s
  | .blt x => Sys2Proof.Machine.execBlt x s
  | .bge x => Sys2Proof.Machine.execBge x s
  | .bltu x => Sys2Proof.Machine.execBltu x s
  | .bgeu x => Sys2Proof.Machine.execBgeu x s
  | .jal x => Sys2Proof.Machine.execJal x s
  | .jr x => Sys2Proof.Machine.execJr x s
  | .bpany x => Sys2Proof.Machine.execBpany x s
  | .bpnone x => Sys2Proof.Machine.execBpnone x s
  | .endProgram x => Sys2Proof.Machine.execEndProgram x s
  | .programEndComplete core => Sys2Proof.Machine.execProgramEndComplete core s
  | .lds x => Sys2Proof.Machine.execLds x s
  | .sts x => Sys2Proof.Machine.execSts x s
  | .ldv x => Sys2Proof.Machine.execLdv x s
  | .stv x => Sys2Proof.Machine.execStv x s
  | .ldt x => Sys2Proof.Machine.execLdt x s
  | .stt x => Sys2Proof.Machine.execStt x s
  | .tset x => Sys2Proof.Machine.execTset x s
  | .vadd x => Sys2Proof.Machine.execVadd x s
  | .vsub x => Sys2Proof.Machine.execVsub x s
  | .vmul x => Sys2Proof.Machine.execVmul x s
  | .vfma x hw => Sys2Proof.Machine.execVfma x hw s
  | .vdiv x => Sys2Proof.Machine.execVdiv x s
  | .vsqrt x => Sys2Proof.Machine.execVsqrt x s
  | .vmin x => Sys2Proof.Machine.execVmin x s
  | .vmax x => Sys2Proof.Machine.execVmax x s
  | .vabs x => Sys2Proof.Machine.execVabs x s
  | .vneg x => Sys2Proof.Machine.execVneg x s
  | .vceq x => Sys2Proof.Machine.execVceq x s
  | .vclt x => Sys2Proof.Machine.execVclt x s
  | .vcle x => Sys2Proof.Machine.execVcle x s
  | .vsel x => Sys2Proof.Machine.execVsel x s
  | .vbcst x => Sys2Proof.Machine.execVbcst x s
  | .vred x => Sys2Proof.Machine.execVred x s
  | .vrcp x => Sys2Proof.Machine.execVrcp x s
  | .vrsq x => Sys2Proof.Machine.execVrsq x s
  | .vexp2 x => Sys2Proof.Machine.execVexp2 x s
  | .vlog2 x => Sys2Proof.Machine.execVlog2 x s
  | .vexp x => Sys2Proof.Machine.execVexp x s
  | .vln x => Sys2Proof.Machine.execVln x s
  | .vsin x => Sys2Proof.Machine.execVsin x s
  | .vcos x => Sys2Proof.Machine.execVcos x s
  | .vtanh x => Sys2Proof.Machine.execVtanh x s
  | .vsigm x => Sys2Proof.Machine.execVsigm x s
  | .verf x => Sys2Proof.Machine.execVerf x s
  | .vsplit x => Sys2Proof.Machine.execVsplit x s
  | .viadd x => Sys2Proof.Machine.execViadd x s
  | .vimul x => Sys2Proof.Machine.execVimul x s
  | .vcvtif x => Sys2Proof.Machine.execVcvtif x s
  | .vcvtfi x => Sys2Proof.Machine.execVcvtfi x s
  | .mwld x => Sys2Proof.Machine.execMwld x s
  | .weightLoadStart core plane => Sys2Proof.Machine.execWeightLoadStart core plane s
  | .weightLoadComplete core plane => Sys2Proof.Machine.execWeightLoadComplete core plane s
  | .manc x => Sys2Proof.Machine.execManc x s
  | .prescanComplete core => Sys2Proof.Machine.execPrescanComplete core s
  | .mpass x => Sys2Proof.Machine.execMpass x s
  | .matrixPassStart core waited => Sys2Proof.Machine.execMatrixPassStart core waited s
  | .matrixPassComplete core frzFeed frzDrain frzBoth hw => Sys2Proof.Machine.execMatrixPassComplete core frzFeed frzDrain frzBoth hw s
  | .mdrn x => Sys2Proof.Machine.execMdrn x s
  | .matrixDrainComplete core hw => Sys2Proof.Machine.execMatrixDrainComplete core hw s
  | .mmode x => Sys2Proof.Machine.execMmode x s
  | .mrdmode x => Sys2Proof.Machine.execMrdmode x s
  | .dmac x => Sys2Proof.Machine.execDmac x s
  | .dmacComplete core hw => Sys2Proof.Machine.execDmacComplete core hw s
  | .put x => Sys2Proof.Machine.execPut x s
  | .get x => Sys2Proof.Machine.execGet x s
  | .acc x => Sys2Proof.Machine.execAcc x s
  | .bcast x => Sys2Proof.Machine.execBcast x s
  | .ssig x => Sys2Proof.Machine.execSsig x s
  | .swait x => Sys2Proof.Machine.execSwait x s
  | .swaitTimeout core => Sys2Proof.Machine.execSwaitTimeout core s
  | .sset x => Sys2Proof.Machine.execSset x s
  | .srd x => Sys2Proof.Machine.execSrd x s
  | .fence x => Sys2Proof.Machine.execFence x s
  | .fenceComplete core => Sys2Proof.Machine.execFenceComplete core s
  | .garv x => Sys2Proof.Machine.execGarv x s
  | .trd x => Sys2Proof.Machine.execTrd x s
  | .twait x => Sys2Proof.Machine.execTwait x s
  | .twaitExpire core => Sys2Proof.Machine.execTwaitExpire core s
  | .syld x => Sys2Proof.Machine.execSyld x s
  | .smark x => Sys2Proof.Machine.execSmark x s
  | .smisr x => Sys2Proof.Machine.execSmisr x s
  | .srdm x => Sys2Proof.Machine.execSrdm x s
  | .hifCexc0Write pf core value => Sys2Proof.Machine.execHifCexc0Write pf core value s
  | .frameReceive port frame => Sys2Proof.Machine.execFrameReceive port frame s
  | .lossOfLock port => Sys2Proof.Machine.execLossOfLock port s
  | .serWindowEnd port counts => Sys2Proof.Machine.execSerWindowEnd port counts s
  | .laneFail port lane => Sys2Proof.Machine.execLaneFail port lane s
  | .trainingStateComplete port found => Sys2Proof.Machine.execTrainingStateComplete port found s
  | .trainingStateTimeout port => Sys2Proof.Machine.execTrainingStateTimeout port s
  | .trainRetry port => Sys2Proof.Machine.execTrainRetry port s
  | .retrain pf port value => Sys2Proof.Machine.execRetrain pf port value s
  | .portEnableWrite pf port value => Sys2Proof.Machine.execPortEnableWrite pf port value s
  | .packetTransmit port => Sys2Proof.Machine.execPacketTransmit port s
  | .transitPacket port vc => Sys2Proof.Machine.execTransitPacket port vc s
  | .stallDrop port vc => Sys2Proof.Machine.execStallDrop port vc s
  | .floodCreditTimeout port => Sys2Proof.Machine.execFloodCreditTimeout port s
  | .floodSeenExpire index => Sys2Proof.Machine.execFloodSeenExpire index s
  | .putReceive port vc => Sys2Proof.Machine.execPutReceive port vc s
  | .getRequestReceive port vc => Sys2Proof.Machine.execGetRequestReceive port vc s
  | .getResponseReceive port vc => Sys2Proof.Machine.execGetResponseReceive port vc s
  | .accReceive port vc hw => Sys2Proof.Machine.execAccReceive port vc hw s
  | .windowReload nme job source => Sys2Proof.Machine.execWindowReload nme job source s
  | .zeroChunkComplete nme handle => Sys2Proof.Machine.execZeroChunkComplete nme handle s
  | .mirrorReceive port vc => Sys2Proof.Machine.execMirrorReceive port vc s
  | .eackReceive port vc => Sys2Proof.Machine.execEackReceive port vc s
  | .eackCoalesceExpire source job => Sys2Proof.Machine.execEackCoalesceExpire source job s
  | .retransmitTimeout record => Sys2Proof.Machine.execRetransmitTimeout record s
  | .fabWithdrawGo pf value => Sys2Proof.Machine.execFabWithdrawGo pf value s
  | .withdrawReceive port vc => Sys2Proof.Machine.execWithdrawReceive port vc s
  | .withdrawTReached tile => Sys2Proof.Machine.execWithdrawTReached tile s
  | .withdrawReset tile => Sys2Proof.Machine.execWithdrawReset tile s
  | .fabNodeWrite pf value => Sys2Proof.Machine.execFabNodeWrite pf value s
  | .pisteWrite pf entry half value => Sys2Proof.Machine.execPisteWrite pf entry half value s
  | .quarantineEnd entry => Sys2Proof.Machine.execQuarantineEnd entry s
  | .slewStep domain => Sys2Proof.Machine.execSlewStep domain s
  | .timeSetWrite pf domain value => Sys2Proof.Machine.execTimeSetWrite pf domain value s
  | .timeRateWrite pf domain value => Sys2Proof.Machine.execTimeRateWrite pf domain value s
  | .timeSlewWrite pf domain value => Sys2Proof.Machine.execTimeSlewWrite pf domain value s
  | .timeCfgWrite pf domain value => Sys2Proof.Machine.execTimeCfgWrite pf domain value s
  | .sync port vc => Sys2Proof.Machine.execSync port vc s
  | .followUp port vc => Sys2Proof.Machine.execFollowUp port vc s
  | .pdelayReq port vc => Sys2Proof.Machine.execPdelayReq port vc s
  | .pdelayResp port vc => Sys2Proof.Machine.execPdelayResp port vc s
  | .pdelayRespFollowUp port vc => Sys2Proof.Machine.execPdelayRespFollowUp port vc s
  | .announce port vc => Sys2Proof.Machine.execAnnounce port vc s
  | .syncSendTimer domain => Sys2Proof.Machine.execSyncSendTimer domain s
  | .pdelaySendTimer port => Sys2Proof.Machine.execPdelaySendTimer port s
  | .pdelayTimeout port => Sys2Proof.Machine.execPdelayTimeout port s
  | .followUpTimeout port => Sys2Proof.Machine.execFollowUpTimeout port s
  | .syncLossTimeout domain => Sys2Proof.Machine.execSyncLossTimeout domain s
  | .switchSlew pf => Sys2Proof.Machine.execSwitchSlew pf s
  | .switchMeet pf => Sys2Proof.Machine.execSwitchMeet pf s
  | .switchComplete => Sys2Proof.Machine.execSwitchComplete s
  | .timePacket port vc => Sys2Proof.Machine.execTimePacket port vc s
  | .clockRegionTransition kind index change => Sys2Proof.Machine.execClockRegionTransition kind index change s
  | .stretchTotalReport kind index => Sys2Proof.Machine.execStretchTotalReport kind index s
  | .gateLoad pf value => Sys2Proof.Machine.execGateLoad pf value s
  | .gateLoadComplete slot => Sys2Proof.Machine.execGateLoadComplete slot s
  | .markerReceive => Sys2Proof.Machine.execMarkerReceive s
  | .decisionInstant slot index => Sys2Proof.Machine.execDecisionInstant slot index s
  | .releaseComplete nme handle => Sys2Proof.Machine.execReleaseComplete nme handle s
  | .optimizerComplete slot index => Sys2Proof.Machine.execOptimizerComplete slot index s
  | .commitTest slot => Sys2Proof.Machine.execCommitTest slot s
  | .hold port vc => Sys2Proof.Machine.execHold port vc s
  | .commitPoint slot => Sys2Proof.Machine.execCommitPoint slot s
  | .resolveCommit pf slot => Sys2Proof.Machine.execResolveCommit pf slot s
  | .resolveSkip pf slot => Sys2Proof.Machine.execResolveSkip pf slot s
  | .resolveAbort pf slot => Sys2Proof.Machine.execResolveAbort pf slot s
  | .conversionComplete slot => Sys2Proof.Machine.execConversionComplete slot s
  | .bcastReceive port vc => Sys2Proof.Machine.execBcastReceive port vc s
  | .back port vc => Sys2Proof.Machine.execBack port vc s
  | .broadcastReceivedTimeout tree child => Sys2Proof.Machine.execBroadcastReceivedTimeout tree child s
  | .broadcastDoneTimeout tree child => Sys2Proof.Machine.execBroadcastDoneTimeout tree child s
  | .statclr pf value => Sys2Proof.Machine.execStatclr pf value s
  | .abortReceive port vc => Sys2Proof.Machine.execAbortReceive port vc s
  | .nmeRingScan nme => Sys2Proof.Machine.execNmeRingScan nme s
  | .arm nme => Sys2Proof.Machine.execArm nme s
  | .disarm nme => Sys2Proof.Machine.execDisarm nme s
  | .cvtw nme => Sys2Proof.Machine.execCvtw nme s
  | .ckcvt nme => Sys2Proof.Machine.execCkcvt nme s
  | .cbwarm nme => Sys2Proof.Machine.execCbwarm nme s
  | .cbwend nme => Sys2Proof.Machine.execCbwend nme s
  | .hash nme => Sys2Proof.Machine.execHash nme s
  | .scrubnow nme => Sys2Proof.Machine.execScrubnow nme s
  | .zero nme => Sys2Proof.Machine.execZero nme s
  | .nmeCommandComplete nme => Sys2Proof.Machine.execNmeCommandComplete nme s
  | .scrubRead nme errs => Sys2Proof.Machine.execScrubRead nme errs s
  | .hbmTempSample nme celsius => Sys2Proof.Machine.execHbmTempSample nme celsius s
  | .ecsCountRead nme count => Sys2Proof.Machine.execEcsCountRead nme count s
  | .nmeWspillBaseWrite pf nme value => Sys2Proof.Machine.execNmeWspillBaseWrite pf nme value s
  | .quickScreenTimer phys => Sys2Proof.Machine.execQuickScreenTimer phys s
  | .hbTimer phys => Sys2Proof.Machine.execHbTimer phys s
  | .sectionRunComplete phys misr => Sys2Proof.Machine.execSectionRunComplete phys misr s
  | .sectionTimeout phys => Sys2Proof.Machine.execSectionTimeout phys s
  | .sampleReexecComplete tile slot digest => Sys2Proof.Machine.execSampleReexecComplete tile slot digest s
  | .sampleTimeout tile slot => Sys2Proof.Machine.execSampleTimeout tile slot s
  | .transientExpire phys => Sys2Proof.Machine.execTransientExpire phys s
  | .tileCorrWindowExpire tile => Sys2Proof.Machine.execTileCorrWindowExpire tile s
  | .screen pf value => Sys2Proof.Machine.execScreen pf value s
  | .modscreen pf value => Sys2Proof.Machine.execModscreen pf value s
  | .rcmp pf value => Sys2Proof.Machine.execRcmp pf value s
  | .grmCmdComplete => Sys2Proof.Machine.execGrmCmdComplete s
  | .grmProbWrite pf value => Sys2Proof.Machine.execGrmProbWrite pf value s
  | .progressWatchdog core engine => Sys2Proof.Machine.execProgressWatchdog core engine s
  | .waitWatchdog core => Sys2Proof.Machine.execWaitWatchdog core s
  | .nmeWatchdog nme => Sys2Proof.Machine.execNmeWatchdog nme s
  | .fabricTileWatchdog tile => Sys2Proof.Machine.execFabricTileWatchdog tile s
  | .debugPortTimeout entry part => Sys2Proof.Machine.execDebugPortTimeout entry part s
  | .captureComplete entry => Sys2Proof.Machine.execCaptureComplete entry s
  | .drainWindowClose entry dropped => Sys2Proof.Machine.execDrainWindowClose entry dropped s
  | .nmeAbsorbTimeout nme => Sys2Proof.Machine.execNmeAbsorbTimeout nme s
  | .resetComplete entry absorbed => Sys2Proof.Machine.execResetComplete entry absorbed s
  | .waitForGraphBuilt slot => Sys2Proof.Machine.execWaitForGraphBuilt slot s
  | .rstReq pf value => Sys2Proof.Machine.execRstReq pf value s
  | .rstIsolWrite pf value => Sys2Proof.Machine.execRstIsolWrite pf value s
  | .ckpRequestedTime => Sys2Proof.Machine.execCkpRequestedTime s
  | .ewMonitorEval observed => Sys2Proof.Machine.execEwMonitorEval observed s
  | .take pf value => Sys2Proof.Machine.execTake pf value s
  | .verify pf value => Sys2Proof.Machine.execVerify pf value s
  | .restore pf value => Sys2Proof.Machine.execRestore pf value s
  | .nocommon pf value => Sys2Proof.Machine.execNocommon pf value s
  | .release pf value => Sys2Proof.Machine.execRelease pf value s
  | .mirror pf value => Sys2Proof.Machine.execMirror pf value s
  | .ckpSweepComplete => Sys2Proof.Machine.execCkpSweepComplete s
  | .ckpSignComplete => Sys2Proof.Machine.execCkpSignComplete s
  | .hostVerifyComplete gen => Sys2Proof.Machine.execHostVerifyComplete gen s
  | .ckpCommandComplete => Sys2Proof.Machine.execCkpCommandComplete s
  | .managementCycle check overrun => Sys2Proof.Machine.execManagementCycle check overrun s
  | .stateCopyReceive good => Sys2Proof.Machine.execStateCopyReceive good s
  | .standbyStale => Sys2Proof.Machine.execStandbyStale s
  | .iskWatchdogExpire controller => Sys2Proof.Machine.execIskWatchdogExpire controller s
  | .iskSupplyLoss controller => Sys2Proof.Machine.execIskSupplyLoss controller s
  | .heartbeatLapse => Sys2Proof.Machine.execHeartbeatLapse s
  | .ownershipClaim controller => Sys2Proof.Machine.execOwnershipClaim controller s
  | .bootPreferTimeout => Sys2Proof.Machine.execBootPreferTimeout s
  | .diagnosisComplete controller pass check => Sys2Proof.Machine.execDiagnosisComplete controller pass check s
  | .sensorSample sensor reading => Sys2Proof.Machine.execSensorSample sensor reading s
  | .sensorInvalidTimeout sensor => Sys2Proof.Machine.execSensorInvalidTimeout sensor s
  | .sensorClearTimeout sensor => Sys2Proof.Machine.execSensorClearTimeout sensor s
  | .thermalClockStep cluster => Sys2Proof.Machine.execThermalClockStep cluster s
  | .thermalTrip sensor => Sys2Proof.Machine.execThermalTrip sensor s
  | .mgmtPortLinkChange port up => Sys2Proof.Machine.execMgmtPortLinkChange port up s
  | .impDatagramReceive port datagram => Sys2Proof.Machine.execImpDatagramReceive port datagram s
  | .info src request => Sys2Proof.Machine.execInfo src request s
  | .rdreg src request => Sys2Proof.Machine.execRdreg src request s
  | .wrreg src request => Sys2Proof.Machine.execWrreg src request s
  | .rdrec src request => Sys2Proof.Machine.execRdrec src request s
  | .clrrec src request => Sys2Proof.Machine.execClrrec src request s
  | .sensors src request => Sys2Proof.Machine.execSensors src request s
  | .freeze src request => Sys2Proof.Machine.execFreeze src request s
  | .swap src request => Sys2Proof.Machine.execSwap src request s
  | .signed src request => Sys2Proof.Machine.execSigned src request s
  | .ownerset src request => Sys2Proof.Machine.execOwnerset src request s
  | .ownerdel src request => Sys2Proof.Machine.execOwnerdel src request s
  | .revoke src request => Sys2Proof.Machine.execRevoke src request s
  | .svncommit src request => Sys2Proof.Machine.execSvncommit src request s
  | .keyinst src request => Sys2Proof.Machine.execKeyinst src request s
  | .keydel src request => Sys2Proof.Machine.execKeydel src request s
  | .coreset src request => Sys2Proof.Machine.execCoreset src request s
  | .spdm src request => Sys2Proof.Machine.execSpdm src request s
  | .getVersion src request => Sys2Proof.Machine.execGetVersion src request s
  | .getCapabilities src request => Sys2Proof.Machine.execGetCapabilities src request s
  | .negotiateAlgorithms src request => Sys2Proof.Machine.execNegotiateAlgorithms src request s
  | .getDigests src request => Sys2Proof.Machine.execGetDigests src request s
  | .getCertificate src request => Sys2Proof.Machine.execGetCertificate src request s
  | .challenge src request => Sys2Proof.Machine.execChallenge src request s
  | .getMeasurements src request => Sys2Proof.Machine.execGetMeasurements src request s
  | .getMdSig src request => Sys2Proof.Machine.execGetMdSig src request s
  | .getMdCert src request => Sys2Proof.Machine.execGetMdCert src request s
  | .spdmUnsupportedRequest src request => Sys2Proof.Machine.execSpdmUnsupportedRequest src request s
  | .fwstageBegin src request => Sys2Proof.Machine.execFwstageBegin src request s
  | .fwstageData src request => Sys2Proof.Machine.execFwstageData src request s
  | .fwstageFinish src request => Sys2Proof.Machine.execFwstageFinish src request s
  | .fwstageCancel src request => Sys2Proof.Machine.execFwstageCancel src request s
  | .netcfg src request => Sys2Proof.Machine.execNetcfg src request s
  | .calioRead src request => Sys2Proof.Machine.execCalioRead src request s
  | .calioOpen src request => Sys2Proof.Machine.execCalioOpen src request s
  | .calioWrite src request => Sys2Proof.Machine.execCalioWrite src request s
  | .calioCapture src request => Sys2Proof.Machine.execCalioCapture src request s
  | .calioCommit src request => Sys2Proof.Machine.execCalioCommit src request s
  | .calioCancel src request => Sys2Proof.Machine.execCalioCancel src request s
  | .report src request => Sys2Proof.Machine.execReport src request s
  | .mailboxCommandComplete src => Sys2Proof.Machine.execMailboxCommandComplete src s
  | .recorderFreezeBegin => Sys2Proof.Machine.execRecorderFreezeBegin s
  | .recorderFreezeEnd => Sys2Proof.Machine.execRecorderFreezeEnd s
  | .freezeMaxExpire => Sys2Proof.Machine.execFreezeMaxExpire s
  | .thaw pf value => Sys2Proof.Machine.execThaw pf value s
  | .flashDrain count => Sys2Proof.Machine.execFlashDrain count s
  | .counterWrap unit index => Sys2Proof.Machine.execCounterWrap unit index s
  | .pmcCounterWrite pf offset value same => Sys2Proof.Machine.execPmcCounterWrite pf offset value same s
  | .trcCtlWrite pf core value => Sys2Proof.Machine.execTrcCtlWrite pf core value s
  | .trcRingWrite pf core base value => Sys2Proof.Machine.execTrcRingWrite pf core base value s
  | .traceDrainBlock core => Sys2Proof.Machine.execTraceDrainBlock core s
  | .gstopRequestWrite pf value => Sys2Proof.Machine.execGstopRequestWrite pf value s
  | .globalStop => Sys2Proof.Machine.execGlobalStop s
  | .globalStopCaptureComplete => Sys2Proof.Machine.execGlobalStopCaptureComplete s
  | .dumpComplete slot => Sys2Proof.Machine.execDumpComplete slot s
  | .linkUp rate width => Sys2Proof.Machine.execLinkUp rate width s
  | .linkDown => Sys2Proof.Machine.execLinkDown s
  | .perstAssert => Sys2Proof.Machine.execPerstAssert s
  | .hotReset => Sys2Proof.Machine.execHotReset s
  | .functionLevelReset pf => Sys2Proof.Machine.execFunctionLevelReset pf s
  | .registerWrite pf offset bytes values => Sys2Proof.Machine.execRegisterWrite pf offset bytes values s
  | .hifAperWrite pf value => Sys2Proof.Machine.execHifAperWrite pf value s
  | .bar2Write pf offset data => Sys2Proof.Machine.execBar2Write pf offset data s
  | .bar2Read pf offset bytes => Sys2Proof.Machine.execBar2Read pf offset bytes s
  | .offlineGo pf value => Sys2Proof.Machine.execOfflineGo pf value s
  | .offlinePowerRemove => Sys2Proof.Machine.execOfflinePowerRemove s
  | .fabricTileInternalError tile => Sys2Proof.Machine.execFabricTileInternalError tile s
  | .illegalInstruction core word => Sys2Proof.Machine.execIllegalInstruction core word s
  | .registerRead pf offset bytes => Sys2Proof.Machine.execRegisterRead pf offset bytes s

end Sys2Proof.Machine
end

