-- ==== Sys2Proof/Machine/Tick.lean ====
section
/-! DEFINITION. One period of the 1 GHz reference oscillator, and the counters that count what passes in it: nanoseconds, and the cycles
of cores, NMEs and fabric tiles (R243, R411-R414). -/

namespace Sys2Proof.Machine
open Sys2Proof

/-- Cycles of a region's clock in the period that begins now. -/
def State.cyclesNow (s : State) (kind index : Nat) : Nat :=
  let r := s.region kind index
  r.cycles (s.time.count + 1) - r.cycles s.time.count

/-- Whether the counter set of a select register has been enabled anywhere. -/
def State.counting (s : State) : Bool := s.regs.any (fun e => decide (0x3000000 ≤ e.1 ∧ e.1 < 0x3190000) && bit e.2.toNat 12)

/-- The core events of n cycles of a core (R413): the cycles, and those in which CTL waits or is held by a full queue, a pre-scan runs,
or 64 fabric instructions are outstanding. -/
def State.coreCycles (s : State) (c n : Nat) : State :=
  let k := s.core c
  let wait := match k.wait with
    | .sem .. => [0x003]
    | .time .. => [0x004]
    | .fence .. => [0x005]
    | _ => []
  let full := match Tab.find s.queues.stalls c with
    | some w => if w.1 = 6 then [0x002] else []
    | none => []
  let scan := if k.mat.scan.isSome then [0x014] else []
  let busy := if 64 ≤ k.outstanding then [0x042] else []
  ([0x000] ++ wait ++ full ++ scan ++ busy).foldl (fun (s : State) ev => s.coreEvent c ev n) s

/-- The tile events of n cycles of an NME (R389, R414): busy, or clock-gated once it has had no work for 1 us. -/
def State.nmeCycles (s : State) (i n : Nat) : State :=
  if (s.nme i).busy then s.tileEvent (i / 4) (i % 4) 0x011 n
  else if s.lastProgress (0x1000 + i) + 1000 ≤ s.nowA then s.tileEvent (i / 4) (i % 4) 0x012 n
  else s

/-- The tile event of n cycles of a port: a head packet waits for credits (R414). -/
def State.portCycles (s : State) (p n : Nat) : State :=
  if (List.range 8).any (fun v => !(s.portWaits p v).isEmpty) then s.portEvent p 0x103 n else s

/-- What the enabled counters count of the period that begins now. -/
def State.periodCounted (s : State) : State :=
  if !s.counting then s
  else
    let each (n : Nat) (kind : Nat) (region : Nat → Nat) (f : State → Nat → Nat → State) (s : State) : State :=
      (List.range n).foldl (fun (s : State) i =>
        let m := s.cyclesNow kind (region i)
        if m = 0 then s else f s i m) s
    let later := ({ s with time := { s.time with count := s.time.count + 1 } }).nowA
    let s := each 192 1 id State.coreCycles s
    let s := each 32 3 id State.nmeCycles s
    let s := each 12 5 (· / 6) State.portCycles s
    s.pmcGlobal 0 0 0x200 (later - s.nowA)

/-- One period: TIME_COUNT moves on while ST has power, and the counters count it (R243, R411; DESIGN CHOICE, log 4: what a step on an
empty queue does). Everything else that time brings about is a command. -/
def State.tick (s : State) : State :=
  if s.host.auxIn then
    let s := s.periodCounted
    { s with time := { s.time with count := s.time.count + 1 } }
  else s

end Sys2Proof.Machine
end

