-- ==== Sys2Proof/Safety.lean ====
section
/-! DEFINITION. What a safe state is, in the terms statements use: tables in canonical form, and modes that stay legal. -/

namespace Sys2Proof.Machine
open Sys2Proof

/-- HBM is in canonical form: addresses rising, and no byte listed that is zero. -/
def State.hbmOk (s : State) : Bool := Memory.wf s.hbm

/-- The register file is in canonical form: keys rising, and no register listed at its Reset value. -/
def State.regsOk (s : State) : Bool := Tab.wf regReset s.regs

/-- The cores are in canonical form: indices rising, and no core listed that is as its reset leaves it. -/
def State.coresOk (s : State) : Bool := Tab.wf (fun _ => Core.reset) s.cores

/-- The NMEs are in canonical form. -/
def State.nmesOk (s : State) : Bool := Tab.wf (fun _ => Nme.reset) s.nmes

/-- The ports are in canonical form. -/
def State.portsOk (s : State) : Bool := Tab.wf (fun _ => Port.reset) s.fab.ports

/-- The slots of the Step Gate are in canonical form. -/
def State.slotsOk (s : State) : Bool := Tab.wf (fun _ => Slot.empty) s.gate.slots

/-- At most one controller is ACTIVE, and only the owner of the arbiter (R381, R384). -/
def State.oneActive (s : State) : Prop := ∀ c, c < 2 → s.ctl c = ctlActive → s.isk.owner = some c

/-- The registers in which the module keeps its books: the recorder's counters, interrupt causes and pending messages of each
function, performance counters, sample flags, and the drop counts of the trace buffers. -/
def bookKey (k : Nat) : Bool :=
  k == Reg.recSeq || k == Reg.recDropped || k == Reg.recOverrun || k == Reg.recFrzDrop ||
  k % 0x4000000 == Reg.hifIrqStat || k % 0x4000000 == Reg.msixPba ||
  (0x200 ≤ k && k < 0x218) || (0x3000000 ≤ k && k < 0x3182000) ||
  (0x3400000 ≤ k && k < 0x3403000 && k % 0x40 == 8)

/-- A state that differs from another in the module's books alone: the registers of `bookKey`, the trace buffers, the queue counts,
the recorder, and the messages that have left the module. Cores, memories, engines, time, fabric, gate and every other register
are the same. -/
structure Books (s t : State) : Prop where
  shape : t = { s with regs := t.regs, traces := t.traces, queues := t.queues, recorder := t.recorder, out := t.out }
  regs : ∀ k, bookKey k = false → t.reg k = s.reg k

/-- A command answers a next state that differs from the one named in the module's books alone. -/
def Answers (c : Instr) (s t : State) : Prop := ∃ u, exec c s = .next u ∧ Books t u

/-- A matrix engine with nothing queued and nothing in flight. -/
def Matrix.resting (m : Matrix) : Prop :=
  m.queue = [] ∧ m.passes = [] ∧ m.drains = [] ∧ m.scan = none ∧ m.plane0.phase ≠ .loading ∧ m.plane1.phase ≠ .loading ∧
  m.halted = false

end Sys2Proof.Machine
end

