-- ==== Sys2Proof/WellFormed.lean ====
section
/-! DEFINITION. Which commands name things the module has (R3, R8): indices in range, frames and requests of the right shape. A
command that is not well formed names nothing, and its meaning changes nothing but what a refused access counts. -/

namespace Sys2Proof

/-- A logical core 24n + m (R8). -/
def validCore (c : Nat) : Bool := decide (c < 192)

/-- A near-memory engine 4n + c. -/
def validNme (i : Nat) : Bool := decide (i < 32)

/-- A fabric port, or 12 for the packets the module sends to itself. -/
def validPort (p : Nat) : Bool := decide (p ≤ 12)

/-- A virtual channel (R218). -/
def validVc (v : Nat) : Bool := decide (v < 8)

/-- Who accesses a register: PF0, PF1, or Isrek as 2. -/
def validPf (f : Nat) : Bool := decide (f ≤ 2)

/-- A physical core 25n + m. -/
def validPhys (p : Nat) : Bool := decide (p < 200)

/-- A weight plane. -/
def validPlane (p : Nat) : Bool := decide (p < 2)

/-- A compute tile. -/
def validTile (n : Nat) : Bool := decide (n < 8)

/-- A fabric tile. -/
def validFabricTile (f : Nat) : Bool := decide (f < 2)

/-- A cluster 5n + k. -/
def validCluster (g : Nat) : Bool := decide (g < 40)

/-- An engine of a core. -/
def validEngine (e : Nat) : Bool := decide (e < 4)

/-- A lane of a port, 16 the spare. -/
def validLane (l : Nat) : Bool := decide (l ≤ 16)

/-- A slot of the Gate coordinator. -/
def validSlot (k : Nat) : Bool := decide (k < 32)

/-- A slot of a capture on a tile (R317). -/
def validCapture (k : Nat) : Bool := decide (k < 16)

/-- A dump slot, 4 the one that reached flash only. -/
def validDumpSlot (k : Nat) : Bool := decide (k ≤ 4)

/-- A recovery entry, 8 the capture of a global stop. -/
def validEntry (q : Nat) : Bool := decide (q ≤ 8)

/-- A piste entry. -/
def validPiste (e : Nat) : Bool := decide (e < 16)

/-- A generation of the checkpoint table, own or hosted. -/
def validGeneration (g : Nat) : Bool := decide (g < 4)

/-- A sensor of the hub. -/
def validSensor (k : Nat) : Bool := decide (k < 0x80)

/-- A controller: 0 ISK-A, 1 ISK-B. -/
def validController (c : Nat) : Bool := decide (c < 2)

/-- A management port. -/
def validMgmtPort (p : Nat) : Bool := decide (p < 2)

/-- Where a request comes from: mailbox slot 0-15, management port 16 or 17, DOE 18. -/
def validPlace (p : Nat) : Bool := decide (p ≤ 18)

/-- An instruction of a core the module has. -/
def Fki.wellFormed (x : Fki) : Bool := validCore x.core

/-- A codeword carries ten flit slots (R204). -/
def Frame.wellFormed (f : Frame) : Bool := f.slots.length == 10

/-- A request has a 32-bit TAG and an 8-bit operation, and its payload fits the slot (R394). -/
def Datagram.wellFormed (q : Datagram) : Bool := decide (q.op < 256) && decide (q.tag < 2 ^ 32) && decide (q.payload.length ≤ 4032)

/-- Whether a command is well formed. -/
def Instr.wellFormed : Instr → Bool
  | .coldPowerOn _ => true
  | .bringupStageComplete _ => true
  | .bringupStageTimeout => true
  | .mainInputRangeChange _ => true
  | .auxInputLoss => true
  | .dispatcherScan => true
  | .launch _ => true
  | .add x => Fki.wellFormed x
  | .sub x => Fki.wellFormed x
  | .mul x => Fki.wellFormed x
  | .mulhu x => Fki.wellFormed x
  | .and x => Fki.wellFormed x
  | .or x => Fki.wellFormed x
  | .xor x => Fki.wellFormed x
  | .shl x => Fki.wellFormed x
  | .shr x => Fki.wellFormed x
  | .sar x => Fki.wellFormed x
  | .slt x => Fki.wellFormed x
  | .sltu x => Fki.wellFormed x
  | .min x => Fki.wellFormed x
  | .max x => Fki.wellFormed x
  | .addi x => Fki.wellFormed x
  | .andi x => Fki.wellFormed x
  | .ori x => Fki.wellFormed x
  | .lui x => Fki.wellFormed x
  | .movi x => Fki.wellFormed x
  | .rdsr x => Fki.wellFormed x
  | .wrsr x => Fki.wellFormed x
  | .nop x => Fki.wellFormed x
  | .beq x => Fki.wellFormed x
  | .bne x => Fki.wellFormed x
  | .blt x => Fki.wellFormed x
  | .bge x => Fki.wellFormed x
  | .bltu x => Fki.wellFormed x
  | .bgeu x => Fki.wellFormed x
  | .jal x => Fki.wellFormed x
  | .jr x => Fki.wellFormed x
  | .bpany x => Fki.wellFormed x
  | .bpnone x => Fki.wellFormed x
  | .endProgram x => Fki.wellFormed x
  | .programEndComplete core => validCore core
  | .lds x => Fki.wellFormed x
  | .sts x => Fki.wellFormed x
  | .ldv x => Fki.wellFormed x
  | .stv x => Fki.wellFormed x
  | .ldt x => Fki.wellFormed x
  | .stt x => Fki.wellFormed x
  | .tset x => Fki.wellFormed x
  | .vadd x => Fki.wellFormed x
  | .vsub x => Fki.wellFormed x
  | .vmul x => Fki.wellFormed x
  | .vfma x _ => Fki.wellFormed x
  | .vdiv x => Fki.wellFormed x
  | .vsqrt x => Fki.wellFormed x
  | .vmin x => Fki.wellFormed x
  | .vmax x => Fki.wellFormed x
  | .vabs x => Fki.wellFormed x
  | .vneg x => Fki.wellFormed x
  | .vceq x => Fki.wellFormed x
  | .vclt x => Fki.wellFormed x
  | .vcle x => Fki.wellFormed x
  | .vsel x => Fki.wellFormed x
  | .vbcst x => Fki.wellFormed x
  | .vred x => Fki.wellFormed x
  | .vrcp x => Fki.wellFormed x
  | .vrsq x => Fki.wellFormed x
  | .vexp2 x => Fki.wellFormed x
  | .vlog2 x => Fki.wellFormed x
  | .vexp x => Fki.wellFormed x
  | .vln x => Fki.wellFormed x
  | .vsin x => Fki.wellFormed x
  | .vcos x => Fki.wellFormed x
  | .vtanh x => Fki.wellFormed x
  | .vsigm x => Fki.wellFormed x
  | .verf x => Fki.wellFormed x
  | .vsplit x => Fki.wellFormed x
  | .viadd x => Fki.wellFormed x
  | .vimul x => Fki.wellFormed x
  | .vcvtif x => Fki.wellFormed x
  | .vcvtfi x => Fki.wellFormed x
  | .mwld x => Fki.wellFormed x
  | .weightLoadStart core plane => validCore core && validPlane plane
  | .weightLoadComplete core plane => validCore core && validPlane plane
  | .manc x => Fki.wellFormed x
  | .prescanComplete core => validCore core
  | .mpass x => Fki.wellFormed x
  | .matrixPassStart core _ => validCore core
  | .matrixPassComplete core _ _ _ _ => validCore core
  | .mdrn x => Fki.wellFormed x
  | .matrixDrainComplete core _ => validCore core
  | .mmode x => Fki.wellFormed x
  | .mrdmode x => Fki.wellFormed x
  | .dmac x => Fki.wellFormed x
  | .dmacComplete core _ => validCore core
  | .put x => Fki.wellFormed x
  | .get x => Fki.wellFormed x
  | .acc x => Fki.wellFormed x
  | .bcast x => Fki.wellFormed x
  | .ssig x => Fki.wellFormed x
  | .swait x => Fki.wellFormed x
  | .swaitTimeout core => validCore core
  | .sset x => Fki.wellFormed x
  | .srd x => Fki.wellFormed x
  | .fence x => Fki.wellFormed x
  | .fenceComplete core => validCore core
  | .garv x => Fki.wellFormed x
  | .trd x => Fki.wellFormed x
  | .twait x => Fki.wellFormed x
  | .twaitExpire core => validCore core
  | .syld x => Fki.wellFormed x
  | .smark x => Fki.wellFormed x
  | .smisr x => Fki.wellFormed x
  | .srdm x => Fki.wellFormed x
  | .hifCexc0Write pf core _ => validPf pf && validCore core
  | .frameReceive port frame => validPort port && Frame.wellFormed frame
  | .lossOfLock port => validPort port
  | .serWindowEnd port _ => validPort port
  | .laneFail port lane => validPort port && validLane lane
  | .trainingStateComplete port _ => validPort port
  | .trainingStateTimeout port => validPort port
  | .trainRetry port => validPort port
  | .retrain pf port _ => validPf pf && validPort port
  | .portEnableWrite pf port _ => validPf pf && validPort port
  | .packetTransmit port => validPort port
  | .transitPacket port vc => validPort port && validVc vc
  | .stallDrop port vc => validPort port && validVc vc
  | .floodCreditTimeout port => validPort port
  | .floodSeenExpire _ => true
  | .putReceive port vc => validPort port && validVc vc
  | .getRequestReceive port vc => validPort port && validVc vc
  | .getResponseReceive port vc => validPort port && validVc vc
  | .accReceive port vc _ => validPort port && validVc vc
  | .windowReload nme _ _ => validNme nme
  | .zeroChunkComplete nme _ => validNme nme
  | .mirrorReceive port vc => validPort port && validVc vc
  | .eackReceive port vc => validPort port && validVc vc
  | .eackCoalesceExpire _ _ => true
  | .retransmitTimeout _ => true
  | .fabWithdrawGo pf _ => validPf pf
  | .withdrawReceive port vc => validPort port && validVc vc
  | .withdrawTReached tile => validFabricTile tile
  | .withdrawReset tile => validFabricTile tile
  | .fabNodeWrite pf _ => validPf pf
  | .pisteWrite pf entry _ _ => validPf pf && validPiste entry
  | .quarantineEnd entry => validPiste entry
  | .slewStep _ => true
  | .timeSetWrite pf _ _ => validPf pf
  | .timeRateWrite pf _ _ => validPf pf
  | .timeSlewWrite pf _ _ => validPf pf
  | .timeCfgWrite pf _ _ => validPf pf
  | .sync port vc => validPort port && validVc vc
  | .followUp port vc => validPort port && validVc vc
  | .pdelayReq port vc => validPort port && validVc vc
  | .pdelayResp port vc => validPort port && validVc vc
  | .pdelayRespFollowUp port vc => validPort port && validVc vc
  | .announce port vc => validPort port && validVc vc
  | .syncSendTimer _ => true
  | .pdelaySendTimer port => validPort port
  | .pdelayTimeout port => validPort port
  | .followUpTimeout port => validPort port
  | .syncLossTimeout _ => true
  | .switchSlew pf => validPf pf
  | .switchMeet pf => validPf pf
  | .switchComplete => true
  | .timePacket port vc => validPort port && validVc vc
  | .clockRegionTransition _ _ _ => true
  | .stretchTotalReport _ _ => true
  | .gateLoad pf _ => validPf pf
  | .gateLoadComplete slot => validSlot slot
  | .markerReceive => true
  | .decisionInstant slot _ => validSlot slot
  | .releaseComplete nme _ => validNme nme
  | .optimizerComplete slot _ => validSlot slot
  | .commitTest slot => validSlot slot
  | .hold port vc => validPort port && validVc vc
  | .commitPoint slot => validSlot slot
  | .resolveCommit pf slot => validPf pf && validSlot slot
  | .resolveSkip pf slot => validPf pf && validSlot slot
  | .resolveAbort pf slot => validPf pf && validSlot slot
  | .conversionComplete slot => validSlot slot
  | .bcastReceive port vc => validPort port && validVc vc
  | .back port vc => validPort port && validVc vc
  | .broadcastReceivedTimeout _ _ => true
  | .broadcastDoneTimeout _ _ => true
  | .statclr pf _ => validPf pf
  | .abortReceive port vc => validPort port && validVc vc
  | .nmeRingScan nme => validNme nme
  | .arm nme => validNme nme
  | .disarm nme => validNme nme
  | .cvtw nme => validNme nme
  | .ckcvt nme => validNme nme
  | .cbwarm nme => validNme nme
  | .cbwend nme => validNme nme
  | .hash nme => validNme nme
  | .scrubnow nme => validNme nme
  | .zero nme => validNme nme
  | .nmeCommandComplete nme => validNme nme
  | .scrubRead nme _ => validNme nme
  | .hbmTempSample nme _ => validNme nme
  | .ecsCountRead nme _ => validNme nme
  | .nmeWspillBaseWrite pf nme _ => validPf pf && validNme nme
  | .quickScreenTimer phys => validPhys phys
  | .hbTimer phys => validPhys phys
  | .sectionRunComplete phys _ => validPhys phys
  | .sectionTimeout phys => validPhys phys
  | .sampleReexecComplete tile slot _ => validTile tile && validCapture slot
  | .sampleTimeout tile slot => validTile tile && validCapture slot
  | .transientExpire phys => validPhys phys
  | .tileCorrWindowExpire tile => validTile tile
  | .screen pf _ => validPf pf
  | .modscreen pf _ => validPf pf
  | .rcmp pf _ => validPf pf
  | .grmCmdComplete => true
  | .grmProbWrite pf _ => validPf pf
  | .progressWatchdog core engine => validCore core && validEngine engine
  | .waitWatchdog core => validCore core
  | .nmeWatchdog nme => validNme nme
  | .fabricTileWatchdog tile => validFabricTile tile
  | .debugPortTimeout entry _ => validEntry entry
  | .captureComplete entry => validEntry entry
  | .drainWindowClose entry _ => validEntry entry
  | .nmeAbsorbTimeout nme => validNme nme
  | .resetComplete entry _ => validEntry entry
  | .waitForGraphBuilt slot => validDumpSlot slot
  | .rstReq pf _ => validPf pf
  | .rstIsolWrite pf _ => validPf pf
  | .ckpRequestedTime => true
  | .ewMonitorEval _ => true
  | .take pf _ => validPf pf
  | .verify pf _ => validPf pf
  | .restore pf _ => validPf pf
  | .nocommon pf _ => validPf pf
  | .release pf _ => validPf pf
  | .mirror pf _ => validPf pf
  | .ckpSweepComplete => true
  | .ckpSignComplete => true
  | .hostVerifyComplete gen => validGeneration gen
  | .ckpCommandComplete => true
  | .managementCycle _ _ => true
  | .stateCopyReceive _ => true
  | .standbyStale => true
  | .iskWatchdogExpire controller => validController controller
  | .iskSupplyLoss controller => validController controller
  | .heartbeatLapse => true
  | .ownershipClaim controller => validController controller
  | .bootPreferTimeout => true
  | .diagnosisComplete controller _ _ => validController controller
  | .sensorSample sensor _ => validSensor sensor
  | .sensorInvalidTimeout sensor => validSensor sensor
  | .sensorClearTimeout sensor => validSensor sensor
  | .thermalClockStep cluster => validCluster cluster
  | .thermalTrip sensor => validSensor sensor
  | .mgmtPortLinkChange port _ => validMgmtPort port
  | .impDatagramReceive port datagram => validMgmtPort port && Datagram.wellFormed datagram
  | .info src request => validPlace src && Datagram.wellFormed request
  | .rdreg src request => validPlace src && Datagram.wellFormed request
  | .wrreg src request => validPlace src && Datagram.wellFormed request
  | .rdrec src request => validPlace src && Datagram.wellFormed request
  | .clrrec src request => validPlace src && Datagram.wellFormed request
  | .sensors src request => validPlace src && Datagram.wellFormed request
  | .freeze src request => validPlace src && Datagram.wellFormed request
  | .swap src request => validPlace src && Datagram.wellFormed request
  | .signed src request => validPlace src && Datagram.wellFormed request
  | .ownerset src request => validPlace src && Datagram.wellFormed request
  | .ownerdel src request => validPlace src && Datagram.wellFormed request
  | .revoke src request => validPlace src && Datagram.wellFormed request
  | .svncommit src request => validPlace src && Datagram.wellFormed request
  | .keyinst src request => validPlace src && Datagram.wellFormed request
  | .keydel src request => validPlace src && Datagram.wellFormed request
  | .coreset src request => validPlace src && Datagram.wellFormed request
  | .spdm src request => validPlace src && Datagram.wellFormed request
  | .getVersion src request => validPlace src && Datagram.wellFormed request
  | .getCapabilities src request => validPlace src && Datagram.wellFormed request
  | .negotiateAlgorithms src request => validPlace src && Datagram.wellFormed request
  | .getDigests src request => validPlace src && Datagram.wellFormed request
  | .getCertificate src request => validPlace src && Datagram.wellFormed request
  | .challenge src request => validPlace src && Datagram.wellFormed request
  | .getMeasurements src request => validPlace src && Datagram.wellFormed request
  | .getMdSig src request => validPlace src && Datagram.wellFormed request
  | .getMdCert src request => validPlace src && Datagram.wellFormed request
  | .spdmUnsupportedRequest src request => validPlace src && Datagram.wellFormed request
  | .fwstageBegin src request => validPlace src && Datagram.wellFormed request
  | .fwstageData src request => validPlace src && Datagram.wellFormed request
  | .fwstageFinish src request => validPlace src && Datagram.wellFormed request
  | .fwstageCancel src request => validPlace src && Datagram.wellFormed request
  | .netcfg src request => validPlace src && Datagram.wellFormed request
  | .calioRead src request => validPlace src && Datagram.wellFormed request
  | .calioOpen src request => validPlace src && Datagram.wellFormed request
  | .calioWrite src request => validPlace src && Datagram.wellFormed request
  | .calioCapture src request => validPlace src && Datagram.wellFormed request
  | .calioCommit src request => validPlace src && Datagram.wellFormed request
  | .calioCancel src request => validPlace src && Datagram.wellFormed request
  | .report src request => validPlace src && Datagram.wellFormed request
  | .mailboxCommandComplete src => validPlace src
  | .recorderFreezeBegin => true
  | .recorderFreezeEnd => true
  | .freezeMaxExpire => true
  | .thaw pf _ => validPf pf
  | .flashDrain _ => true
  | .counterWrap _ _ => true
  | .pmcCounterWrite pf _ _ _ => validPf pf
  | .trcCtlWrite pf core _ => validPf pf && validCore core
  | .trcRingWrite pf core _ _ => validPf pf && validCore core
  | .traceDrainBlock core => validCore core
  | .gstopRequestWrite pf _ => validPf pf
  | .globalStop => true
  | .globalStopCaptureComplete => true
  | .dumpComplete slot => validDumpSlot slot
  | .linkUp _ _ => true
  | .linkDown => true
  | .perstAssert => true
  | .hotReset => true
  | .functionLevelReset pf => validPf pf
  | .registerWrite pf _ _ _ => validPf pf
  | .hifAperWrite pf _ => validPf pf
  | .bar2Write pf _ _ => validPf pf
  | .bar2Read pf _ _ => validPf pf
  | .offlineGo pf _ => validPf pf
  | .offlinePowerRemove => true
  | .fabricTileInternalError tile => validFabricTile tile
  | .illegalInstruction core _ => validCore core
  | .registerRead pf _ _ => validPf pf

end Sys2Proof
end

