-- ==== Sys2Proof/Certificates/Slice0/Obligations.lean ====
section
/-! DEFINITION. The statements made of the model, each named for what it says. A statement of the form `Answers c s t` says that the
command c answers a next state that is t but for the module's books (Safety.lean). -/

open Sys2Proof Sys2Proof.Machine

/-! ### The machine as a whole -/

/-- A step takes the command at the front of the queue and runs it with the rest of the queue. -/
def Obligations.StepTakesFrontCommand : Prop :=
  ∀ (c : Instr) (rest : List Instr) (s : State), s.pending = c :: rest → step s = exec c { s with pending := rest }

/-- With no command waiting a step is one period of the reference oscillator while the auxiliary input is present: TIME_COUNT moves on
by one, and beside it only the module's books change, which count the events of the cycles of that period (none where no counter
is selected); without the auxiliary input nothing changes (the model's choice, log entries 1 and 4; R243 gives the counter its
1 GHz). -/
def Obligations.EmptyQueueTicks : Prop :=
  ∀ s : State, s.pending = [] →
    let ticked (u : State) : State := { u with time := { s.time with count := s.time.count + 1 } }
    (s.host.auxIn = true → ∃ u, Books s u ∧ step s = .next (ticked u)) ∧
    (s.host.auxIn = true → s.counting = false → step s = .next (ticked s)) ∧
    (s.host.auxIn = false → step s = .next s)

/-- Every step answers a next state: no command of the block stops it (the spec gives each an effect). -/
def Obligations.EveryStepAnswers : Prop := ∀ s : State, ∃ t, step s = .next t

/-- Every event raised by a command is handed to the recorder by the end of that command: from a state with no raised event
outstanding, every step leads to one. -/
def Obligations.NoEventLeftRaised : Prop :=
  ∀ s t : State, s.recorder.raised = [] → step s = .next t → t.recorder.raised = []

/-- What reset leaves: no command waits, no event is raised, HBM and the register file list nothing, every register therefore reads
its Reset value, every core is as its reset leaves it, and TIME_COUNT is 0. -/
def Obligations.ResetState : Prop :=
  State.reset.pending = [] ∧ State.reset.recorder.raised = [] ∧ State.reset.time.count = 0 ∧ State.reset.hbmOk = true ∧
  State.reset.regsOk = true ∧ (∀ k, State.reset.reg k = (regReset k).toNat) ∧ (∀ c, State.reset.core c = Core.reset)

/-! ### Register files, core store and HBM -/

/-- The register files of a core (R115): s0 reads zero and p0 all ones, and what is written to them is discarded; every other scalar
and predicate register, every lane and every tile descriptor reads what was last written to it, but for the reserved bits
[135:134] and [255:248] of a descriptor, which read zero (R13, R116), and writing one changes no other.
At launch s1 = ARG, s2 = the core's number 24n + m, and every other register is zero but p0 (R153). -/
def Obligations.CoreRegisters : Prop :=
  (∀ (k : Core) (i j l m : Nat) (v : Word) (y : Lane32) (d : BitVec 256), Tab.wf (fun _ => (0 : Word)) k.s = true →
    Tab.wf (fun _ => (0 : Word)) k.p = true → Tab.wf (fun _ => (0 : Lane32)) k.v = true → Tab.wf (fun _ => (0 : BitVec 256)) k.t = true →
    k.sr 0 = 0 ∧ k.pr 0 = BitVec.allOnes 64 ∧ k.setS 0 v = k ∧ k.setP 0 v = k ∧
    (i ≠ 0 → (k.setS i v).sr i = v ∧ (k.setP i v).pr i = v) ∧ (∀ q, q < 256 → ((k.setT i d).tr i).getLsbD q = (d.getLsbD q && !(q == 134 || q == 135 || decide (248 ≤ q)))) ∧
    (l < 64 → (k.setV i l y).vr i l = y) ∧
    (j ≠ i → (k.setS i v).sr j = k.sr j ∧ (k.setP i v).pr j = k.pr j ∧ (k.setT i d).tr j = k.tr j) ∧
    (l < 64 → m < 64 → ¬ (j = i ∧ m = l) → (k.setV i l y).vr j m = k.vr j m) ∧
    (∀ r n, (k.setS i v).vr r n = k.vr r n ∧ (k.setP i v).sr r = k.sr r ∧ (k.setV i l y).sr r = k.sr r ∧ (k.setT i d).sr r = k.sr r)) ∧
  (∀ (s : State) (f : Found) (e : Nat), s.regsOk = true → s.coresOk = true → s.stops 0 = false →
    s.disp.found.find? (fun g => g.index == e) = some f → f.late = false → s.stops f.job = false → f.start ≤ s.nowA →
    s.launchLive f = 0 → s.launchable f = true → (∀ c, c ∈ f.list → ∀ p, s.physOf c = some p → Tab.find s.grm.runs p = none) →
    ∃ t, exec (.launch e) s = .next t ∧ ∀ c, c ∈ f.list →
      (t.core c).sr 1 = BitVec.ofNat 64 f.arg ∧ (t.core c).sr 2 = BitVec.ofNat 64 (24 * (c / 24) + c % 24) ∧
      (∀ r, r ≠ 1 → r ≠ 2 → (t.core c).sr r = 0) ∧ (∀ r l, (t.core c).vr r l = 0) ∧ (∀ r, r ≠ 0 → (t.core c).pr r = 0) ∧
      (t.core c).pr 0 = BitVec.allOnes 64 ∧ (∀ r, (t.core c).tr r = 0))

/-- Writing a tile descriptor register empties its anchor slot and leaves every other descriptor and slot (R116, R125). -/
def Obligations.DescriptorWriteEmptiesSlot : Prop :=
  ∀ (k : Core) (i j : Nat) (d : BitVec 256), Tab.wf (fun _ => (0 : BitVec 256)) k.t = true →
    k.anchors.keys.Pairwise (· < ·) →
    (k.setT i d).tr i = dDefined d ∧ Tab.find (k.setT i d).anchors i = none ∧
    (j ≠ i → (k.setT i d).tr j = k.tr j ∧ Tab.find (k.setT i d).anchors j = Tab.find k.anchors j)

/-- The integer a lane's window and wrap count hold, in window units. -/
def laneValue (l : Lane) : Int := l.w.toInt + l.wrap.toInt * (2 : Int) ^ 96

/-- Terms and other lanes are added to a window modulo 2^96 with the wrap count (R52): a sum of 2^95 or more wraps and counts one up, one
below -2^95 counts one down, and no other field changes; the pair holds the exact sum, within the 2^31 terms of R54, and any
order of the terms, and of lanes, gives the same pair. A pass adds its contribution's exact sum in the same way. -/
def Obligations.WindowSums : Prop :=
  (∀ (l : Lane) (t : Int), -termMax ≤ t → t ≤ termMax →
    let sum := l.w.toInt + t
    let u := l.addInt t
    u = { l with w := u.w, wrap := u.wrap } ∧
    ((2 : Int) ^ 95 ≤ sum → u.w.toInt = sum - (2 : Int) ^ 96 ∧ u.wrap = l.wrap + 1) ∧
    (sum < -(2 : Int) ^ 95 → u.w.toInt = sum + (2 : Int) ^ 96 ∧ u.wrap = l.wrap - 1) ∧
    (-(2 : Int) ^ 95 ≤ sum → sum < (2 : Int) ^ 95 → u.w.toInt = sum ∧ u.wrap = l.wrap)) ∧
  (∀ a b : Lane,
    let sum := a.w.toInt + b.w.toInt
    let u := a.add b
    ((2 : Int) ^ 95 ≤ sum → u.w.toInt = sum - (2 : Int) ^ 96 ∧ u.wrap = a.wrap + b.wrap + 1) ∧
    (sum < -(2 : Int) ^ 95 → u.w.toInt = sum + (2 : Int) ^ 96 ∧ u.wrap = a.wrap + b.wrap - 1) ∧
    (-(2 : Int) ^ 95 ≤ sum → sum < (2 : Int) ^ 95 → u.w.toInt = sum ∧ u.wrap = a.wrap + b.wrap) ∧
    (-(2 : Int) ^ 126 ≤ laneValue a + laneValue b → laneValue a + laneValue b ≤ (2 : Int) ^ 126 →
      laneValue u = laneValue a + laneValue b)) ∧
  (∀ ts : List Int, (∀ t, t ∈ ts → -termMax ≤ t ∧ t ≤ termMax) → ts.length ≤ 2 ^ 31 →
    laneValue (ts.foldl Lane.addInt Lane.zero) = ts.sum) ∧
  (∀ (l : Lane) (ts us : List Int), ts.Perm us → us.foldl Lane.addInt l = ts.foldl Lane.addInt l) ∧
  (∀ (l : Lane) (as bs : List Lane), as.Perm bs → bs.foldl Lane.add l = as.foldl Lane.add l) ∧
  (∀ (l : Lane) (c : Contrib) (anchor : Int) (e : AccEntry) (free : Nat), e.lane = l → e.terms + c.terms ≤ 2 ^ 31 →
    (e.take false anchor c free).lane.w = (l.addInt c.sum).w ∧ (e.take false anchor c free).lane.wrap = (l.addInt c.sum).wrap ∧
    (-(2 : Int) ^ 126 ≤ c.sum → c.sum ≤ (2 : Int) ^ 126 → laneValue (e.take true anchor c free).lane = c.sum))

/-- A write of part or all of one HBM line (R169) keeps the canonical form of memory; the bytes written read back; no byte of another
line changes, and none of the same line where its errors are at most two symbols; a full line clears errors and poison; a part of
a line whose read is uncorrectable leaves the line poisoned. -/
def Obligations.HbmLineWrite : Prop :=
  ∀ (s : State) (k : Nat) (l : List Byte), s.hbmOk = true → Tab.wf (fun _ => (0 : Nat)) s.ecc = true → 0 < l.length →
    k % 64 + l.length ≤ 64 →
    let t := s.writeLine k l
    t.hbmOk = true ∧ (∀ i (h : i < l.length), t.byteAt (k + i) = l[i]) ∧
    (∀ j, j / 64 ≠ k / 64 → t.byteAt j = s.byteAt j) ∧
    (s.lineErrs (k / 64) ≤ 2 → ∀ j, j < k ∨ k + l.length ≤ j → t.byteAt j = s.byteAt j) ∧
    (l.length = 64 → t.lineErrs (k / 64) = 0 ∧ t.linePoison (k / 64) = false) ∧
    (l.length < 64 → (s.lineErrs (k / 64) = 2 ∨ (s.lineErrs (k / 64) ≤ 2 ∧ s.linePoison (k / 64) = true)) →
      t.linePoison (k / 64) = true)

/-! ### Scalar instructions (R119) -/

/-- The fourteen register forms of class 0x00 write sD = f(sA, sB) as the opcode table gives f, move the PC on by one word, and
change nothing else but the module's books: every other register of the core and of every other core, memory, and every unit
stay as they were. A D of 0 writes nothing (`setS`). The immediate forms of class 0x00, and NOP: sD takes the result, the PC
moves on, nothing else changes but the books. -/
def Obligations.ScalarArithmetic : Prop :=
  (∀ (x : Fki) (s : State), x.hw = .none → s.issues x.core [x.d.toNat, x.a.toNat, x.b.toNat] [] = true → x.c = 0 → x.imm = 0 →
    let k := s.core x.core
    let a := k.sr x.a.toNat
    let b := k.sr x.b.toNat
    let upd (v : Word) : State := s.setCore x.core ((k.setS x.d.toNat v).setPc k.nextPc)
    Answers (.add x) s (upd (a + b)) ∧ Answers (.sub x) s (upd (a - b)) ∧ Answers (.mul x) s (upd (a * b)) ∧
    Answers (.mulhu x) s (upd (BitVec.ofNat 64 (a.toNat * b.toNat / 2 ^ 64))) ∧
    Answers (.and x) s (upd (a &&& b)) ∧ Answers (.or x) s (upd (a ||| b)) ∧ Answers (.xor x) s (upd (a ^^^ b)) ∧
    Answers (.shl x) s (upd (a <<< (b.toNat % 64))) ∧ Answers (.shr x) s (upd (a >>> (b.toNat % 64))) ∧
    Answers (.sar x) s (upd (a.sshiftRight (b.toNat % 64))) ∧
    Answers (.slt x) s (upd (if a.toInt < b.toInt then 1 else 0)) ∧
    Answers (.sltu x) s (upd (if a.toNat < b.toNat then 1 else 0)) ∧
    Answers (.min x) s (upd (if a.toInt < b.toInt then a else b)) ∧
    Answers (.max x) s (upd (if a.toInt < b.toInt then b else a))) ∧
  (∀ (x : Fki) (s : State), x.hw = .none → x.b = 0 → x.c = 0 →
    let k := s.core x.core
    let a := k.sr x.a.toNat
    let upd (v : Word) : State := s.setCore x.core ((k.setS x.d.toNat v).setPc k.nextPc)
    (s.issues x.core [x.d.toNat, x.a.toNat] [] = true →
      Answers (.addi x) s (upd (a + x.imm.signExtend 64)) ∧ Answers (.andi x) s (upd (a &&& x.imm.zeroExtend 64)) ∧
      Answers (.ori x) s (upd (a ||| x.imm.zeroExtend 64)) ∧
      Answers (.lui x) s (upd ((a &&& 0xFFFFFFFF#64) ||| (x.imm.zeroExtend 64 <<< 32)))) ∧
    (s.issues x.core [x.d.toNat] [] = true → x.a = 0 → Answers (.movi x) s (upd (x.imm.signExtend 64))) ∧
    (s.issues x.core [] [] = true → x.a = 0 → x.d = 0 → x.imm = 0 →
      Answers (.nop x) s (s.setCore x.core (k.setPc k.nextPc))))

/-- RDSR of each special register the table of R120 lists, with the value it has at the instruction: core coordinate, job and
epoch, step, GREC, MSTS, VSTS, cycles since launch, the PC, and in a screening package the MISR. WRSR: MSTS and VSTS keep the
bits and counts that no one of sA covers, and the MISR takes sA in a screening package (R120). -/
def Obligations.SpecialRegisters : Prop :=
  (∀ (x : Fki) (s : State), x.hw = .none → s.issues x.core [x.d.toNat] [] = true → x.a = 0 → x.b = 0 → x.c = 0 →
    let k := s.core x.core
    let next (v : Word) : State := s.setCore x.core ((k.setS x.d.toNat v).setPc k.nextPc)
    (x.imm = 0x00 → Answers (.rdsr x) s (next (BitVec.ofNat 64 (x.core % 24 + x.core / 24 * 32)))) ∧
    (x.imm = 0x01 → Answers (.rdsr x) s (next (BitVec.ofNat 64 (k.ctx.job % 2 ^ 12 + k.ctx.epoch % 2 ^ 8 * 2 ^ 12)))) ∧
    (x.imm = 0x02 → Answers (.rdsr x) s (next (BitVec.ofNat 64 (k.ctx.step % 2 ^ 48)))) ∧
    (x.imm = 0x03 → Answers (.rdsr x) s (next (BitVec.ofNat 64 k.ctx.grec))) ∧
    (x.imm = 0x04 → Answers (.rdsr x) s (next k.msts)) ∧ (x.imm = 0x05 → Answers (.rdsr x) s (next k.vsts)) ∧
    (x.imm = 0x06 → Answers (.rdsr x) s (next (BitVec.ofNat 64 (s.cyc x.core)))) ∧
    (x.imm = 0x07 → Answers (.rdsr x) s (next (BitVec.ofNat 64 k.pc))) ∧
    (x.imm = 0x10 → k.package = true → Answers (.rdsr x) s (next k.misr))) ∧
  (∀ (x : Fki) (s : State), x.hw = .none → s.issues x.core [x.a.toNat] [] = true → x.d = 0 → x.b = 0 → x.c = 0 →
    let k := s.core x.core
    let a := k.sr x.a.toNat
    let upd (k' : Core) : State := s.setCore x.core (k'.setPc k.nextPc)
    (x.imm = 0x04 → Answers (.wrsr x) s (upd { k with msts := clearCounts k.msts a })) ∧
    (x.imm = 0x05 → Answers (.wrsr x) s (upd { k with vsts := clearCounts k.vsts a })) ∧
    (x.imm = 0x10 → k.package = true → Answers (.wrsr x) s (upd { k with misr := a })) ∧
    (∀ w v : Word, ∀ i : Nat, i < 16 → (clearCounts w v).getLsbD i = (w.getLsbD i && !v.getLsbD i)) ∧
    (∀ w v : Word, bits (clearCounts w v).toNat 16 16 = if bits v.toNat 16 16 = 0 then bits w.toNat 16 16 else 0) ∧
    (∀ w v : Word, bits (clearCounts w v).toNat 32 16 = if bits v.toNat 32 16 = 0 then bits w.toNat 32 16 else 0))

/-! ### Branches (R119) -/

/-- The six compares, the two predicate branches, JAL and JR: the PC goes to PC + 8 x sext(IMM) or, where the branch is not taken, to
the next word; JAL writes PC + 8 to sD; JR goes to sA. Nothing else changes but the books. -/
def Obligations.Branches : Prop :=
  ∀ (x : Fki) (s : State), x.hw = .none →
    let k := s.core x.core
    let a := k.sr x.a.toNat
    let b := k.sr x.b.toNat
    let target : Nat := (((k.pc : Int) + 8 * x.imm.toInt) % 2 ^ 48).toNat
    let goes (taken : Bool) : State := s.setCore x.core (k.setPc (if taken then target else k.nextPc))
    (s.issues x.core [x.a.toNat, x.b.toNat] [] = true → x.d = 0 → x.c = 0 →
      Answers (.beq x) s (goes (a == b)) ∧ Answers (.bne x) s (goes (a != b)) ∧
      Answers (.blt x) s (goes (decide (a.toInt < b.toInt))) ∧ Answers (.bge x) s (goes (decide (b.toInt ≤ a.toInt))) ∧
      Answers (.bltu x) s (goes (decide (a.toNat < b.toNat))) ∧ Answers (.bgeu x) s (goes (decide (b.toNat ≤ a.toNat)))) ∧
    (s.issues x.core [] [] = true → x.d = 0 → x.a = 0 → x.b = 0 → x.c.toNat < 8 →
      Answers (.bpany x) s (goes (k.pr x.c.toNat != 0)) ∧ Answers (.bpnone x) s (goes (k.pr x.c.toNat == 0))) ∧
    (s.issues x.core [x.d.toNat] [] = true → x.a = 0 → x.b = 0 → x.c = 0 →
      Answers (.jal x) s (s.setCore x.core ((k.setS x.d.toNat (BitVec.ofNat 64 (k.pc + 8))).setPc target))) ∧
    (s.issues x.core [x.a.toNat] [] = true → x.d = 0 → x.b = 0 → x.c = 0 → x.imm = 0 →
      Answers (.jr x) s (s.setCore x.core (k.setPc (a.toNat % 2 ^ 48))))

/-! ### Loads and stores (R119, R123) -/

/-- LDS, STS, LDT, STT and TSET at an aligned address inside core store. -/
def Obligations.ScalarLoadsAndStores : Prop :=
  ∀ (x : Fki) (s : State), x.hw = .none → x.b = 0 → x.c = 0 →
    let k := s.core x.core
    let a := (k.sr x.a.toNat + x.imm.signExtend 64).toNat
    let upd (k' : Core) : State := s.setCore x.core (k'.setPc k.nextPc)
    (s.issues x.core [x.d.toNat, x.a.toNat] [] = true → a % 8 = 0 → a + 8 ≤ 0x600000 →
      Answers (.lds x) s (upd (k.setS x.d.toNat (BitVec.ofNat 64 (ofBytes (k.bytes a 8))))) ∧
      Answers (.sts x) s (upd (k.putBytes a (toBytes 8 (k.sr x.d.toNat).toNat)))) ∧
    (s.issues x.core [x.a.toNat] [x.d.toNat] = true → x.d.toNat < 16 → a % 32 = 0 → a + 32 ≤ 0x600000 →
      Answers (.ldt x) s (upd (k.setT x.d.toNat (BitVec.ofNat 256 (ofBytes (k.bytes a 32))))) ∧
      Answers (.stt x) s (upd (k.putBytes a (toBytes 32 (k.tr x.d.toNat).toNat)))) ∧
    (s.issues x.core [x.a.toNat] [x.d.toNat] = true → x.d.toNat < 16 → x.imm.toNat ≤ 9 →
      Answers (.tset x) s (upd (k.setT x.d.toNat (dSetField (k.tr x.d.toNat) x.imm.toNat (k.sr x.a.toNat).toNat))))

/-- Core store as the stores of `ScalarLoadsAndStores` leave it: the bytes written read back, little-endian, and every other byte
reads as before. -/
def Obligations.CoreStoreWriteFrame : Prop :=
  ∀ (k : Core) (a n v : Nat), Tab.wf (fun _ => (0 : Byte)) k.store = true →
    (∀ j, j < a ∨ a + n ≤ j → (k.putBytes a (toBytes n v)).byte j = k.byte j) ∧
    (∀ i, i < n → (k.putBytes a (toBytes n v)).byte (a + i) = BitVec.ofNat 8 (v / 2 ^ (8 * i))) ∧
    (v < 2 ^ (8 * n) → ofBytes ((k.putBytes a (toBytes n v)).bytes a n) = v)

/-! ### Vector instructions (R66-R70, R119, R121-R123) -/

/-- What an instruction on active lanes writes: lane l of vD where the predicate is set, no other lane of any register, and the union
of the active lanes' flags into VSTS; no other part of the core (R121). -/
def Obligations.PredicatedLanes : Prop :=
  ∀ (k : Core) (x : Fki) (f : Nat → FpResult), Tab.wf (fun _ => (0 : Lane32)) k.v = true →
    let k' := lanesInto k x f
    (∀ r l, l < 64 → k'.vr r l = if r = x.d.toNat ∧ (k.pr x.c.toNat).getLsbD l = true then (f l).bits else k.vr r l) ∧
    (∀ i, i < 5 → k'.vsts.getLsbD i = (k.vsts.getLsbD i ||
      (List.range 64).any (fun l => (k.pr x.c.toNat).getLsbD l && (f l).flags.testBit i))) ∧
    (∀ i, 5 ≤ i → k'.vsts.getLsbD i = k.vsts.getLsbD i) ∧
    k' = { k with v := k'.v, vsts := k'.vsts }

/-- The predicated instructions of two lane sources: in each active lane vD takes the function's result and VSTS its flags
(`lanesInto`, see `PredicatedLanes`), the PC moves on, and nothing else changes but the books. The predicated instructions of
one lane source, and VBCST of a scalar. VFMA, VSEL, VRED, VSPLIT and VCVTFI, where no hardware error meets them: their
results by lane, the flags, and nothing else but the PC and the books. VRED sums by the fixed pairwise tree of six levels
(R122), VSPLIT writes hi and lo to a register pair, and the flags of the rounding of lo (the model reads R68 so, log entry
90). The lane compares write the active bits of pD and no other, VCEQ quietly, VCLT and VCLE invalid on a NaN (R119, R121). -/
def Obligations.VectorArithmetic : Prop :=
  (∀ (x : Fki) (s : State), x.hw = .none → s.issues x.core [] [] = true → x.c.toNat < 8 →
    let k := s.core x.core
    let r := Rounding.ofField (x.imm.toNat % 4)
    let ftz := k.ctx.ftz
    let a := fun l => k.vr x.a.toNat l
    let b := fun l => k.vr x.b.toNat l
    let upd (f : Nat → FpResult) : State := s.setCore x.core (((lanesInto k x f).retired 2 k.pc).setPc k.nextPc)
    (x.imm.toNat < 4 →
      Answers (.vadd x) s (upd (fun l => fpAdd r ftz (a l) (b l))) ∧ Answers (.vsub x) s (upd (fun l => fpSub r ftz (a l) (b l))) ∧
      Answers (.vmul x) s (upd (fun l => fpMul r ftz (a l) (b l))) ∧ Answers (.vdiv x) s (upd (fun l => fpDiv r ftz (a l) (b l)))) ∧
    (x.imm = 0 →
      Answers (.vmin x) s (upd (fun l => fpMinMax false ftz (a l) (b l))) ∧
      Answers (.vmax x) s (upd (fun l => fpMinMax true ftz (a l) (b l))) ∧
      Answers (.viadd x) s (upd (fun l => { bits := a l + b l, flags := 0 })) ∧
      Answers (.vimul x) s (upd (fun l => { bits := a l * b l, flags := 0 })))) ∧
  (∀ (x : Fki) (s : State), x.hw = .none → s.issues x.core [] [] = true → x.c.toNat < 8 → x.b = 0 →
    let k := s.core x.core
    let r := Rounding.ofField (x.imm.toNat % 4)
    let ftz := k.ctx.ftz
    let a := fun l => k.vr x.a.toNat l
    let upd (f : Nat → FpResult) : State := s.setCore x.core (((lanesInto k x f).retired 2 k.pc).setPc k.nextPc)
    (x.imm.toNat < 4 →
      Answers (.vsqrt x) s (upd (fun l => fpSqrt r ftz (a l))) ∧ Answers (.vcvtif x) s (upd (fun l => fpOfInt r ftz (a l)))) ∧
    (x.imm = 0 →
      Answers (.vabs x) s (upd (fun l => fpSignOp ftz (fun y => y &&& 0x7FFFFFFF#32) (a l))) ∧
      Answers (.vneg x) s (upd (fun l => fpSignOp ftz (fun y => y ^^^ 0x80000000#32) (a l))) ∧
      (s.issues x.core [x.a.toNat] [] = true →
        Answers (.vbcst x) s (upd (fun _ => { bits := (k.sr x.a.toNat).setWidth 32, flags := 0 })))) ∧
    (x.imm = 0 → ∀ fn i, (fn, i) ∈ [(VecFn.rcp, Instr.vrcp x), (.rsq, .vrsq x), (.exp2, .vexp2 x), (.log2, .vlog2 x),
        (.expe, .vexp x), (.ln, .vln x), (.sin, .vsin x), (.cos, .vcos x), (.tanh, .vtanh x), (.sigm, .vsigm x), (.erf, .verf x)] →
      Answers i s (upd (fun l => fpFunction fn ftz (a l))))) ∧
  (∀ (x : Fki) (s : State), x.hw = .none → s.issues x.core [] [] = true →
    let k := s.core x.core
    let r := Rounding.ofField (x.imm.toNat % 4)
    let ftz := k.ctx.ftz
    let a := fun l => k.vr x.a.toNat l
    let active := fun l => (k.pr x.c.toNat).getLsbD l
    let upd (k' : Core) : State := s.setCore x.core ((k'.retired 2 k.pc).setPc k.nextPc)
    (x.imm.toNat < 4 → Answers (.vfma x .none) s (upd ((List.range 64).foldl (fun k' l =>
      let q := fpFma r ftz (a l) (k.vr x.b.toNat l) (k.vr x.c.toNat l)
      { k'.setV x.d.toNat l q.bits with vsts := vstsFlags k'.vsts q.flags }) k))) ∧
    (x.imm = 0 → x.c.toNat < 8 → Answers (.vsel x) s (upd (k.setVec x.d.toNat ((List.range 64).map (fun l =>
      if active l then a l else k.vr x.b.toNat l))))) ∧
    (x.imm.toNat < 4 → x.c.toNat < 8 → x.b = 0 → s.issues x.core [x.d.toNat] [] = true →
      let t := pairTree (fpAdd r ftz) 6 ((List.range 64).map (fun l => if active l then a l else 0))
      Answers (.vred x) s (upd { k.setS x.d.toNat ((t.1.headD 0).zeroExtend 64) with vsts := vstsFlags k.vsts t.2 })) ∧
    (x.imm = 0 → x.c.toNat < 8 → x.b = 0 → x.d.toNat % 2 = 0 →
      Answers (.vsplit x) s (upd ((activeLanes k x).foldl (fun k' l =>
        let h := fpSplit ftz (a l)
        { (k'.setV x.d.toNat l h.1).setV (x.d.toNat + 1) l h.2.bits with vsts := vstsFlags k'.vsts h.2.flags }) k))) ∧
    (x.imm.toNat < 4 → x.c.toNat < 8 → x.b = 0 →
      let k' := lanesInto k x (fun l => (fpToInt r ftz (a l)).1)
      let n := (activeLanes k x).foldl (fun c l => c.add (fpToInt r ftz (a l)).2) ConvCount.zero
      Answers (.vcvtfi x) s (upd { k' with vsts := vstsCounts k'.vsts n }))) ∧
  (∀ (x : Fki) (s : State), x.hw = .none → s.issues x.core [] [] = true → x.imm = 0 → x.c.toNat < 8 → x.d.toNat < 8 →
    let k := s.core x.core
    let upd (ordered : Bool) (test : Int → Bool) : Core :=
      compareInto k x (fun l => fpCompare ordered k.ctx.ftz test (k.vr x.a.toNat l) (k.vr x.b.toNat l))
    let after (k' : Core) : State := s.setCore x.core ((k'.retired 2 k.pc).setPc k.nextPc)
    Answers (.vceq x) s (after (upd false (fun c => c == 0))) ∧ Answers (.vclt x) s (after (upd true (fun c => decide (c < 0)))) ∧
    Answers (.vcle x) s (after (upd true (fun c => decide (c ≤ 0)))) ∧
    (x.d ≠ 0 → Tab.wf (fun _ => (0 : Word)) k.p = true → ∀ ordered test l, l < 64 →
      ((upd ordered test).pr x.d.toNat).getLsbD l = if (k.pr x.c.toNat).getLsbD l then
        (fpCompare ordered k.ctx.ftz test (k.vr x.a.toNat l) (k.vr x.b.toNat l)).1 else (k.pr x.d.toNat).getLsbD l))

/-- NaN results of the vector unit are the canonical 0x7FC00000, whatever the operands (R68). -/
def Obligations.CanonicalNaN : Prop :=
  ∀ (r : Rounding) (ftz : Bool) (a b c : Lane32),
    let nan (y : Lane32) : Prop := Fmt.fp32.decode y.toNat = .nan → y = 0x7FC00000#32
    nan (fpAdd r ftz a b).bits ∧ nan (fpSub r ftz a b).bits ∧ nan (fpMul r ftz a b).bits ∧
    nan (fpFma r ftz a b c).bits ∧ nan (fpDiv r ftz a b).bits ∧ nan (fpSqrt r ftz a).bits ∧ nan (fpSignOp ftz (· ^^^ 0x80000000#32) a).bits

/-- LDV widens up to 64 elements into vD and STV narrows vD into the row, each with what it reads and writes computed as R123 says;
LDV uses 64 fresh free values for scaled elements outside binary32 (log entry 12), and neither touches another unit. -/
def Obligations.VectorLoadsAndStores : Prop :=
  ∀ (x : Fki) (s : State), x.hw = .none → s.issues x.core [x.b.toNat] [x.a.toNat] = true → x.c = 0 → x.a.toNat < 16 →
    vecMemCheck (s.core x.core) x = none →
    let k := s.core x.core
    (x.imm.toNat < 2 ^ 16 → Answers (.ldv x) s (({ s with freeIndex := s.freeIndex + 64 }).setCore x.core
      (((k.setVec x.d.toNat ((List.range 64).map (fun l => ldvLane k x (Config.freeValue (s.freeIndex + l)) l))).retired 2
        k.pc).setPc k.nextPc))) ∧
    (x.imm.toNat < 2 ^ 28 → Answers (.stv x) s (s.setCore x.core (((stvCore k x).retired 2 k.pc).setPc k.nextPc))) ∧
    stvCore k x = { k with store := (stvCore k x).store, vsts := (stvCore k x).vsts } ∧
    (∀ i, 5 ≤ i → i < 16 → (stvCore k x).vsts.getLsbD i = k.vsts.getLsbD i)

/-! ### The matrix engine (R75-R111, R124-R129) -/

/-- The instruction a core's MAT queue takes at issue: its address, fields, descriptors and scalar operand. -/
def matOpAt (k : Core) (x : Fki) (kind : MatKind) : MatOp :=
  { kind := kind, pc := k.pc, x := x, dD := k.tr x.d.toNat, dA := k.tr x.a.toNat, dB := k.tr x.b.toNat,
    sB := if kind == .mmode then k.sr x.a.toNat else k.sr x.b.toNat, id := k.nextOp }

/-- Matrix instructions issued to an idle engine: a load starts filling its plane with the block of its descriptor, a pre-scan
starts, MMODE writes the mode word and invalidates both planes on a change into or out of Schuss mode, MRDMODE reads it, a
drain whose destination and tags pass the checks starts. Nothing else of the module changes but the books. A pass whose
formats, mode, limits, anchor and plane pass every check enters the arrays, at its MPASS on an idle engine or at the
MATRIX_PASS_START of the head of the queue: it runs under the anchor, mode word and plane of that moment, and over the rows
its descriptor streams (R81; in Schuss mode the columns of the ring no queued DMAC still fills, R100). A pass without CLR
needs its anchor in the tag of every column of every entry it names (R82). -/
def Obligations.MatrixIssue : Prop :=
  (∀ (x : Fki) (s : State), x.hw = .none → s.coresOk = true → (s.core x.core).mat.resting →
    let k := s.core x.core
    let m := k.mat
    let upd (m' : Matrix) : State := s.setCore x.core ({ k with mat := m', nextOp := k.nextOp + 1 }.setPc k.nextPc)
    (s.issues x.core [x.b.toNat] [x.a.toNat] = true → x.d = 0 → x.c = 0 → x.imm.toNat < 2 → x.a.toNat < 16 →
      let o := matOpAt k x .mwld
      mwldCheck o = none → ∀ f, dFmt o.dA = some f → Answers (.mwld x) s (upd { m.setPlane x.imm.toNat (loadBlock k o f) with loadId := k.nextOp })) ∧
    (s.issues x.core [] [x.d.toNat, x.a.toNat, x.b.toNat] = true → x.c = 0 → x.imm = 0 → x.d.toNat < 16 → x.a.toNat < 16 →
      x.b.toNat < 16 → scanCheck (k.tr x.d.toNat) (k.tr x.a.toNat) (k.tr x.b.toNat) = none →
      let r : ScanRun := ⟨x.d.toNat, k.tr x.a.toNat, k.tr x.b.toNat, dAval (k.tr x.d.toNat), false, k.nextOp⟩
      Answers (.manc x) s (upd { m with scan := some r })) ∧
    (s.issues x.core [] [x.d.toNat] = true → x.a = 0 → x.b = 0 → x.c = 0 → x.imm.toNat < 2 ^ 31 → x.d.toNat < 16 →
      let o := matOpAt k x .mdrn
      drainCheck k o = none → Answers (.mdrn x) s (upd { m with drains := [o] })) ∧
    (s.issues x.core [x.a.toNat] [] = true → x.d = 0 → x.b = 0 → x.c = 0 → x.imm = 0 →
      let w := k.sr x.a.toNat &&& 0xFFF#64
      let keep := (w.toNat % 4 == 2) == (m.mmw.toNat % 4 == 2)
      let p0 := { m.plane0 with phase := .invalid }
      let p1 := { m.plane1 with phase := .invalid }
      Answers (.mmode x) s (upd (if keep then { m with mmw := w } else { m with mmw := w, plane0 := p0, plane1 := p1 }))) ∧
    (s.issues x.core [x.d.toNat] [] = true → x.a = 0 → x.b = 0 → x.c = 0 → x.imm = 0 →
      Answers (.mrdmode x) s (s.setCore x.core ({ k.setS x.d.toNat m.mmw with nextOp := k.nextOp + 1 }.setPc k.nextPc)))) ∧
  (∀ (x : Fki) (s : State) (fa fb : Fmt) (anchor : Int), x.hw = .none → s.coresOk = true → (s.core x.core).mat.passes = [] →
    (s.core x.core).mat.drains = [] → (s.core x.core).mat.halted = false →
    let k := s.core x.core
    let m := k.mat
    (∀ o, o.kind = .mpass → o.x.hw = .none → passCheck k o = none → passFormats o (m.plane o.plane) = some (fa, fb) →
      passAnchor k o fa = some anchor → (m.plane o.plane).phase = .valid →
      (o.clr = true ∨ ∀ i a col, i < o.count → a < 4 → col < passCols m.mmw → (m.entry a col (o.eb + i)).tag = BitVec.ofInt 11 anchor) →
      let run := passRun k o anchor fa fb
      (run.op = o ∧ run.anchor = anchor ∧ run.mmw = m.mmw ∧ run.plane = m.plane o.plane ∧
        (mmwMode m.mmw ≠ 2 → (run.rows, run.scales) = streamRows k o fa fb)) ∧
      (o = matOpAt k x .mpass → m.queue = [] → s.issues x.core [x.b.toNat] [x.d.toNat, x.a.toNat] = true → x.c = 0 →
        x.imm.toNat < 2 ^ 30 → x.d.toNat < 16 → x.a.toNat < 16 →
        ∃ t, exec (.mpass x) s = .next t ∧
          t.core x.core = { k with mat := { m with passes := [run] }, nextOp := k.nextOp + 1 }.setPc k.nextPc ∧
          (∀ c, c ≠ x.core → t.core c = s.core c)) ∧
      (∀ waited, m.queue = [o] → s.matRuns x.core = true →
        ∃ t, exec (.matrixPassStart x.core waited) s = .next t ∧
          t.core x.core = { k with mat := { m with queue := [], passes := [run] } } ∧
          (∀ c, c ≠ x.core → t.core c = s.core c))))

/-- Events of the engine with nothing more queued: a held weight load starts, a load completes and its plane becomes valid, a
pre-scan fills its slot with the anchor of R47, a drain of entries that hold their residues and parity stores its rows and
writes its counts to MSTS. The completion of a pass that has its rows, reads sound entries and whose checks hold: the
contributions of its rows enter the accumulator entries, MSTS takes EXACT and SKIPPED of this pass and keeps ANYBOUND, and
the pass leaves the arrays; without DOC core store is untouched, and with it the entries are drained (R90, R107-R111). -/
def Obligations.MatrixEventsAndResults : Prop :=
  (∀ (c : Nat) (s : State), s.coresOk = true → s.matRuns c = true → (s.core c).wait ≠ .stopped →
    let k := s.core c
    let m := k.mat
    let upd (k' : Core) : State := s.setCore c k'
    (∀ o p f, m.queue = [o] → o.kind = .mwld → o.x.hw = .none → o.plane = p → m.plane0.phase ≠ .loading → m.plane1.phase ≠ .loading →
      mwldCheck o = none → dFmt o.dA = some f →
      Answers (.weightLoadStart c p) s (upd { k with mat := { m with queue := [], loadId := o.id }.setPlane p (loadBlock k o f) })) ∧
    (∀ p, m.queue = [] → (m.plane p).phase = .loading →
      Answers (.weightLoadComplete c p) s (upd { k with mat := m.setPlane p { m.plane p with phase := .valid } })) ∧
    (∀ r, m.queue = [] → m.scan = some r →
      let anchors := Tab.insert k.anchors r.slot (scanAnchor k r)
      Answers (.prescanComplete c) s (upd { k with anchors := anchors, mat := { m with scan := none } }) ∧
      scanAnchor k r = max (-1024) (min 1023 (maxExponent k r.dA + maxExponent k r.dB + 1 + r.aval))) ∧
    (∀ o rest, m.queue = [] → m.drains = o :: rest →
      (∀ i a col, i < o.count → a ∈ o.arrays → col < 64 → (m.entry a col (o.eb + i)).sound = true) →
      let k1 := { k with mat := { m with drains := rest } }
      let d := drainAll k1 o
      Answers (.matrixDrainComplete c .none) s (upd ({ d.1 with msts := mstsCounts k.msts d.2 }.retired 1 o.pc)))) ∧
  (∀ (c a b d : Nat) (s : State) (r : PassRun) (rest : List PassRun), s.coresOk = true → s.matRuns c = true →
    (s.core c).mat.passes = r :: rest → (s.core c).mat.queue = [] → (s.core c).wait ≠ .stopped →
    let k := s.core c
    let r := PassRun.feed k r
    let x := passResult r
    r.fed = true → r.readFault k.mat = none →
    (x.outcomes.all (fun o => o.passed) = true → ∃ t, exec (.matrixPassComplete c a b d .none) s = .next t ∧
      let m' := { writeEntries k.mat r x (Config.freeValue s.freeIndex) with passes := rest }
      let w := mstsAfter k.msts (x.outcomes.all (fun o => o.exact)) (x.outcomes.any (fun o => o.skipped))
      let d := drainAll { k with mat := m' } r.op
      (t.core c).mat = m' ∧ (r.op.doc = false → (t.core c).msts = w ∧ (t.core c).store = k.store) ∧
      (r.op.doc = true → (t.core c).msts = mstsCounts w d.2 ∧ (t.core c).store = d.1.store) ∧ (∀ j, j ≠ c → t.core j = s.core j)))

/-! ### Exceptions of CTL (R118, R154-R157) -/

/-- Nothing is due on the physical core that holds a logical one: no level pending, no screen, no classification, no command. -/
def groomerQuiet (s : State) (c : Nat) : Prop :=
  ∀ p, s.physOf c = some p → s.flag (Reg.grmCore p) 6 = false ∧ s.due p = 0 ∧ Tab.find s.grm.classify p = none ∧ s.fullDue p = false

/-- A core after an exception of CTL (R154, R156): HIF_CEXC0 takes the code, engine 0, VALID and the PC, and HIF_CEXC1 the failing
address, and a MULTI that stands is kept; where HIF_CEXC0 already holds an exception, MULTI is set instead, and the record is
replaced only where its exception was raised in the same cycle by an engine of a higher number. CTL issues no more, what the
other engines have not begun is discarded, and where none of them has anything under way VSTS.FLAGS are ORed into
HIF_CSTAT.FLAGS and the core becomes STOPPED. -/
def stoppedBy (s : State) (c code addr : Nat) : State :=
  let k := s.core c
  let now := (s.region 1 c).cycles s.time.count
  let taken (multi : Nat) : State := (s.setReg (Reg.hifCexc0 c) (code + 2 ^ 10 + k.pc % 2 ^ 48 * 2 ^ 16 + multi * 2 ^ 11)).setReg
    (Reg.hifCexc1 c) (addr / 2 ^ 14 % 2 ^ 34 * 2 ^ 30)
  let held := s.flag (Reg.hifCexc0 c) 10
  let s1 := if held then
      if k.excAt = some now ∧ 0 < s.field (Reg.hifCexc0 c) 8 2 then taken 1 else s.setField (Reg.hifCexc0 c) 11 1 1
    else taken (if s.flag (Reg.hifCexc0 c) 11 then 1 else 0)
  let k1 := { k.dropHeld k.fab with mat := { k.mat with queue := [] }, dma := k.dma.take 1, fab := [] }
  let k2 := { k1 with excAt := if held then k.excAt else some now }
  if k2.fenceClear 0x1F then
    let s2 := s1.setField (Reg.hifCstat c) 3 5 (s1.field (Reg.hifCstat c) 3 5 ||| k.vsts.toNat % 32)
    (s2.setField (Reg.hifCstat c) 0 3 3).setCore c { k2 with wait := .none }
  else s1.setCore c { k2 with wait := .stopped }

/-- Exceptions of a RUNNING core: a word that is no instruction raises ILLEGAL, a field that must be zero RSVFIELD, a scalar
access that is misaligned or outside core store ALIGN with its address, RDSR of an unlisted register ILLEGAL, WRSR of a
read-only one RSVFIELD, SMISR and SRDM outside a screening package PRIV, a TWAIT target more than 2^36 ns ahead TWAITFAR.
Each stops the core before the instruction writes anything (R118, R120, R123, R139, R142, R155). An instruction the
surroundings report an uncorrectable fetch or operand for raises HBMUE or PARITY, and one of the vector unit whose residue
check fails RESIDUE, before its own effect. Software clears an exception record (R157): ones clear VALID and MULTI, and
clearing VALID returns a STOPPED core to IDLE. The write is refused only as every write is. -/
def Obligations.Exceptions : Prop :=
  (∀ (x : Fki) (w : Word) (s : State), s.regsOk = true → s.coresOk = true → s.coreState x.core = 2 → groomerQuiet s x.core →
    let k := s.core x.core
    let c := x.core
    let raised (e : Exc) : Host.Outcome State Fault Refusal := .next (s.except c e).flush
    (s.issues c [x.d.toNat, x.a.toNat, x.b.toNat] [] = true →
      (∀ a, x.hw = .fetch a → exec (.add x) s = raised { code := 0x24, engine := 0, pc := k.pc, addr := a } ∧
        exec (.vadd x) s = raised { code := 0x24, engine := 0, pc := k.pc, addr := a }) ∧
      (∀ a, x.hw = .parity a → exec (.add x) s = raised { code := 0x22, engine := 0, pc := k.pc, addr := a } ∧
        exec (.vadd x) s = raised { code := 0x22, engine := 2, pc := k.pc, addr := a }) ∧
      (∀ stage array lane, x.hw = .residue stage array lane →
        exec (.vadd x) s = raised { code := 0x20, engine := 2, pc := k.pc, sub := stage, index := lane })) ∧
    (s.issues c [] [] = true → 0x0A ≤ w.toNat / 2 ^ 58 → Answers (.illegalInstruction c w) s (stoppedBy s c 0x01 0)) ∧
    (x.hw = .none →
    (s.issues c [x.d.toNat, x.a.toNat, x.b.toNat] [] = true → (x.c ≠ 0 ∨ x.imm ≠ 0) → Answers (.add x) s (stoppedBy s c 0x02 0)) ∧
    (s.issues c [x.d.toNat, x.a.toNat] [] = true → x.b = 0 → x.c = 0 →
      let a := (k.sr x.a.toNat + x.imm.signExtend 64).toNat
      (a % 8 ≠ 0 ∨ 0x600000 < a + 8) →
        Answers (.lds x) s (stoppedBy s c 0x07 a) ∧ Answers (.sts x) s (stoppedBy s c 0x07 a)) ∧
    (s.issues c [x.d.toNat] [] = true → x.a = 0 → x.b = 0 → x.c = 0 → 8 ≤ x.imm.toNat → x.imm.toNat ≠ 0x10 →
      x.imm.toNat < 256 → Answers (.rdsr x) s (stoppedBy s c 0x01 0)) ∧
    (s.issues c [x.a.toNat] [] = true → x.d = 0 → x.b = 0 → x.c = 0 → x.imm.toNat ∈ [0, 1, 2, 3, 6, 7] →
      Answers (.wrsr x) s (stoppedBy s c 0x02 0)) ∧
    (k.package = false → x.b = 0 → x.c = 0 → x.imm = 0 →
      (s.issues c [x.a.toNat] [] = true → x.d = 0 → Answers (.smisr x) s (stoppedBy s c 0x0D 0)) ∧
      (s.issues c [x.d.toNat] [] = true → x.a = 0 → Answers (.srdm x) s (stoppedBy s c 0x0D 0))) ∧
    (s.issues c [x.d.toNat, x.a.toNat] [] = true → x.b = 0 → x.c = 0 → x.imm.toNat < 2 →
      s.nowOf (x.imm.toNat == 1) + 2 ^ 36 < (k.sr x.a.toNat).toNat → Answers (.twait x) s (stoppedBy s c 0x0B 0)))) ∧
  (∀ (c pf : Nat) (v : Word) (s : State), s.regsOk = true → c < 192 → groomerQuiet s c → s.host.bs1Done = true →
    v.toNat.testBit 10 = true → s.flag (Reg.hifCexc0 c) 10 = true → s.coreState c = 3 →
    ∃ t, exec (.hifCexc0Write pf c v) s = .next t ∧ t.flag (Reg.hifCexc0 c) 10 = false ∧
      t.flag (Reg.hifCexc0 c) 11 = (s.flag (Reg.hifCexc0 c) 11 && !v.toNat.testBit 11) ∧ t.coreState c = 0 ∧
      t.cores = s.cores ∧ t.hbm = s.hbm ∧ (∀ j, bookKey j = false → j ≠ Reg.hifCexc0 c → j ≠ Reg.hifCstat c → t.reg j = s.reg j))

/-! ### Semaphores, fences and time (R134-R142) -/

/-- SSET, SRD and SSIG of a semaphore no core waits on, and an SWAIT that is satisfied at once: SSET stores, SRD reads, SSIG adds
where the sum fits in 32 bits, SWAIT subtracts its threshold and writes 0 to sD. Waits end, while the core's clock runs
(R262): an SWAIT past its limit with IMM[31] clear writes 1 to sD, a FENCE whose work is complete and a TWAIT whose target
has come resume behind the instruction, TWAIT writing the time it read. -/
def Obligations.SemaphoresAndWaits : Prop :=
  (∀ (x : Fki) (s : State), x.hw = .none → s.coresOk = true → (x.imm.toNat < 256 ∨ (4096 ≤ x.imm.toNat ∧ x.imm.toNat < 8192)) →
    s.waiters x.core x.imm.toNat = [] →
    let k := s.core x.core
    let n := x.imm.toNat
    let v := s.sem x.core n
    let a := (k.sr x.a.toNat).toNat
    let next (t : State) (d : Nat) (w : Word) : State := t.setCore x.core (((t.core x.core).setS d w).setPc k.nextPc)
    (s.issues x.core [x.a.toNat] [] = true → x.d = 0 → x.b = 0 → x.c = 0 →
      Answers (.sset x) s (next (s.setSem x.core n (a % 2 ^ 32)) 0 0) ∧
      (v + a < 2 ^ 32 → Answers (.ssig x) s (next (s.setSem x.core n (v + a)) 0 0))) ∧
    (s.issues x.core [x.d.toNat] [] = true → x.a = 0 → x.b = 0 → x.c = 0 →
      Answers (.srd x) s (next s x.d.toNat (BitVec.ofNat 64 v))) ∧
    (s.issues x.core [x.d.toNat, x.a.toNat, x.b.toNat] [] = true → x.c = 0 → 0 < a → a < 2 ^ 32 →
      0 < (k.sr x.b.toNat).toNat → (k.sr x.b.toNat).toNat < 2 ^ 40 →
      (a ≤ v → Answers (.swait x) s (next (s.setSem x.core n (v - a)) x.d.toNat 0)) ∧
      (v < a → Answers (.swait x) s (s.setCore x.core
        { k with wait := .sem x n a s.nowA (k.sr x.b.toNat).toNat s.time.count })))) ∧
  (∀ (c : Nat) (s : State), s.coreHalted c = false → c < 192 →
    let k := s.core c
    let resume (d : Nat) (v : Word) : State := s.setCore c ({ k.setS d v with wait := .none }.setPc k.nextPc)
    (∀ x n th start lim began, (s.region 1 c).running = true → k.wait = .sem x n th start lim began → start + lim ≤ s.nowA → s.sem c n < th →
      x.imm.toNat < 2 ^ 31 → Answers (.swaitTimeout c) s (resume x.d.toNat 1)) ∧
    (∀ x a b, k.wait = .fence x a b → k.fenceClear x.imm.toNat = true → Answers (.fenceComplete c) s (resume 0 0)) ∧
    (∀ x b t, (s.region 1 c).running = true → k.wait = .time x b t → t ≤ s.nowOf b →
      Answers (.twaitExpire c) s (resume x.d.toNat (BitVec.ofNat 64 (s.nowOf b)))))

/-- FENCE, TRD, TWAIT, SMISR, SRDM, SMARK, SYLD and END: a FENCE and a TWAIT pass at once or hold CTL, TRD and TWAIT read fabric time
of the domain IMM[0] names, SMISR folds by the polynomial 0x1B, SMARK opens and closes the region (a region selected for a sample no slot is free for is counted in GRM_SAMPLE_SKIP), SYLD with nothing due takes one
instruction, END holds CTL until the program's work is done. -/
def Obligations.ControlInstructions : Prop :=
  ∀ (x : Fki) (s : State), x.hw = .none → s.coresOk = true →
    let k := s.core x.core
    let upd (k' : Core) : State := s.setCore x.core k'
    let now := s.nowOf (x.imm.toNat == 1)
    (s.issues x.core [] [] = true → x.d = 0 → x.a = 0 → x.b = 0 → x.c = 0 →
      (x.imm.toNat < 32 → Answers (.fence x) s (upd (if k.fenceClear x.imm.toNat then { k with wait := .none }.setPc k.nextPc
        else { k with wait := .fence x s.nowA s.time.count }))) ∧
      (x.imm = 0 → (k.package = true ∨ ∀ p, s.physOf x.core = some p → s.due p = 0) →
        Answers (.syld x) s (upd (k.setPc k.nextPc))) ∧
      (x.imm = 0 → Answers (.endProgram x) s (upd { k with wait := .ended })) ∧
      (x.imm.toNat % 2 ^ 16 < 2 → (x.imm.toNat % 2 = 1) = (k.region = none) → ∃ t, exec (.smark x) s = .next t ∧
        t.cores = (upd ({ k with region := if x.imm.toNat % 2 = 1 then some (x.imm.toNat / 2 ^ 16) else none }.setPc k.nextPc)).cores ∧
        t.hbm = s.hbm ∧ ∀ j, bookKey j = false → j ≠ Reg.grmSampleSkip → t.reg j = s.reg j)) ∧
    (s.issues x.core [x.d.toNat] [] = true → x.a = 0 → x.b = 0 → x.c = 0 →
      (x.imm.toNat < 2 → Answers (.trd x) s (upd ((k.setS x.d.toNat (BitVec.ofNat 64 now)).setPc k.nextPc))) ∧
      (x.imm = 0 → k.package = true → Answers (.srdm x) s (upd ((k.setS x.d.toNat k.misr).setPc k.nextPc)))) ∧
    (s.issues x.core [x.d.toNat, x.a.toNat] [] = true → x.b = 0 → x.c = 0 → x.imm.toNat < 2 →
      let t := (k.sr x.a.toNat).toNat
      (t ≤ now → Answers (.twait x) s (upd ({ k.setS x.d.toNat (BitVec.ofNat 64 now) with wait := .none }.setPc k.nextPc))) ∧
      (now < t → t ≤ now + 2 ^ 36 → Answers (.twait x) s (upd { k with wait := .time x (x.imm.toNat == 1) t }))) ∧
    (s.issues x.core [x.a.toNat] [] = true → x.d = 0 → x.b = 0 → x.c = 0 → x.imm = 0 → k.package = true →
      let m := k.misr
      Answers (.smisr x) s (upd ({ k with misr := ((m <<< 1) ^^^ (if m.getLsbD 63 then 0x1B else 0)) ^^^ k.sr x.a.toNat }.setPc
        k.nextPc)))

/-! ### DMA and fabric instructions (R112, R130-R133, R137) -/

/-- A fabric instruction of an idle core whose operands pass the checks of R131 leaves the queue at once: its packets are made
and numbered from the module's next record on, it awaits their acknowledgements, and the PC moves on. Its source (for GET its
destination) lies in core store, so that no read can fail; the fabric tile may send the packets in the same command. BCAST
waits in its queue behind another broadcast of the module on its tree (R298), a GARV behind the core's earlier ACCs to the
same node and handle (R137), and a DMAC joins the DMA queue in order (R130): with no record of the module unsent, nothing
else changes but the books. -/
def Obligations.FabricInstructions : Prop :=
  (∀ (x : Fki) (s : State) (fn : Nat) (i : Instr), (fn, i) ∈ [(0, Instr.put x), (1, .get x), (2, .acc x)] →
    x.hw = .none → s.coresOk = true → s.fab.recs = [] →
    let k := s.core x.core
    k.fab = [] → k.outstanding < 64 → k.runs.all (fun r => r.failed.isNone) = true → s.issues x.core [x.b.toNat] (if fn = 2 then [x.a.toNat] else [x.d.toNat, x.a.toNat]) = true →
    x.c = 0 → x.imm.toNat < 2 ^ 9 → x.a.toNat < 16 → x.d.toNat < 16 → (fn = 2 → x.d = 0) →
    (fn = 0 → (k.sr x.b.toNat).toNat < 2 ^ 28) → (fn = 1 → (k.sr x.b.toNat).toNat < 2 ^ 15) →
    let op := k.dmaOp x fn
    s.fabCheck op = none → dSpace (if fn = 1 then op.dD else op.dA) = 1 →
    ∃ t run, exec i s = .next t ∧ (t.core x.core).pc = k.nextPc ∧ (t.core x.core).fab = [] ∧
      (t.core x.core).runs = k.runs ++ [run] ∧ run.op = op ∧ run.left = (fabRecords k op x.core).length ∧
      (t.core x.core).nextOp = k.nextOp + 1 ∧ t.fab.nextRec = s.fab.nextRec + (fabRecords k op x.core).length ∧
      t.hbm = s.hbm) ∧
  (∀ (x : Fki) (s : State), x.hw = .none → s.coresOk = true → s.fab.recs = [] →
    let k := s.core x.core
    (s.issues x.core [x.b.toNat] [x.d.toNat, x.a.toNat] = true → k.fab.length < 16 → x.c = 0 → x.imm.toNat < 2 ^ 9 →
      x.d.toNat < 16 → x.a.toNat < 16 → (k.sr x.b.toNat).toNat < 2 ^ 12 →
      (∀ o, k.fab.head? = some o → 64 ≤ k.outstanding) → s.treeBusy (k.dmaOp x 3) = true →
      Answers (.bcast x) s (s.setCore x.core ({ k with fab := k.fab ++ [k.dmaOp x 3], nextOp := k.nextOp + 1 }.setPc k.nextPc))) ∧
    (s.issues x.core [x.b.toNat] [] = true → x.d = 0 → x.a = 0 → x.c = 0 → x.imm.toNat < 2 ^ 17 → x.imm.toNat / 4 % 64 = 0 →
      x.imm.toNat % 4 ≠ 3 → (k.sr x.b.toNat).toNat < 2 ^ 32 →
      let op := k.dmaOp x 5
      let key := (op.sB.toNat % 2 ^ 15, op.sB.toNat / 2 ^ 16 % 2 ^ 16)
      let run : FabRun := { op := op, left := 1, key := some key, held := true, semPut := none, tree := none, failed := none }
      k.garvHeld op key = true →
      Answers (.garv x) s (s.setCore x.core ({ k with runs := k.runs ++ [run], nextOp := k.nextOp + 1 }.setPc k.nextPc))) ∧
    (s.issues x.core [] [x.d.toNat, x.a.toNat] = true → k.dma.length < 16 → x.b = 0 → x.c = 0 → x.imm.toNat < 2 ^ 9 →
      x.d.toNat < 16 → x.a.toNat < 16 → (k.dma = [] → s.dmacCheck (k.dmaOp x 0) = none) →
      Answers (.dmac x) s (s.setCore x.core ({ k with dma := k.dma ++ [k.dmaOp x 0], nextOp := k.nextOp + 1 }.setPc k.nextPc))))

/-- A DMAC between two single ranges of core store, with no semaphore, copies the bytes and leaves the queue, where no
Schuss pass takes columns it fills (R100). -/
def Obligations.DmaCopiesCoreStore : Prop :=
  ∀ (c : Nat) (s : State) (op : DmaOp) (f : Fmt) (a b n : Nat), s.coresOk = true → c < 192 → s.coreHalted c = false →
    s.coreState c ≠ 4 → (s.core c).dma = [op] → dFmt op.dA = some f → dSegs op.dA f = [(a, n)] → dSegs op.dD f = [(b, n)] →
    dSpace op.dA = 1 → dSpace op.dD = 1 → op.x.imm.toNat < 256 → (s.core c).wait ≠ .stopped →
    (∀ r, r ∈ (s.core c).mat.passes → mmwMode r.mmw ≠ 2) →
    let k := s.core c
    Answers (.dmacComplete c .none) s (s.setCore c (({ k with dma := [] }.putBytes b (k.bytes a n)).retired 3 op.pc))

/-! ### Power and bring-up (R12, R466, R470-R472, R488) -/

/-- COLD_POWER_ON of a module without power: nothing is in HBM or the cores, TIME_COUNT is 0, both controllers are in BOOT,
bring-up runs from BS0, the recorder counts one boot more, the fuses read as before, and every register that neither flash
nor fuses keep reads its Reset value, but for the nonces, which are drawn, and the states of the controllers. The main input:
lost in service, it takes main-domain power away; sagging during BS2, it lets bring-up wait with a report; in range again, it
releases that wait. The loss of the auxiliary input stops the module with every record in flash (R466, R488, R400). -/
def Obligations.PowerOnAndInputs : Prop :=
  (∀ (bad : List Nat) (s : State), s.regsOk = true → s.host.auxIn = false →
    ∃ t, exec (.coldPowerOn bad) s = .next t ∧ t.hbm = [] ∧ t.cores = [] ∧ t.time.count = 0 ∧ t.pending = s.pending ∧
      t.ctl 0 = 1 ∧ t.ctl 1 = 1 ∧ t.host.running = true ∧ t.host.stage = 0 ∧ t.host.auxIn = true ∧ t.host.mainIn = true ∧
      t.recorder.boots = s.recorder.boots + 1 ∧
      (∀ k, 0x3A00000 ≤ k → k < 0x3C00000 → t.reg k = s.reg k) ∧
      (∀ k, flashMask k = 0 → bookKey k = false → k ∉ [Reg.recNonce, Reg.secNonce, Reg.iskStat] →
        t.reg k = (regReset k).toNat)) ∧
  (∀ s : State, s.regsOk = true →
    (s.host.powered = true → ∃ t, exec (.mainInputRangeChange .lost) s = .next t ∧ t.host.powered = false ∧
      t.host.mainIn = false ∧ t.host.running = false ∧ t.host.mainLost = true ∧ t.host.bs5Done = false ∧ t.host.bs8Done = false ∧
      t.host.auxIn = s.host.auxIn) ∧
    (s.host.running = true → s.host.stage = 2 → s.host.waiting = false →
      ∃ t, exec (.mainInputRangeChange .sagging) s = .next t ∧ t.host.waiting = true ∧ t.host.mainIn = false ∧
        t.field Reg.hifBs 0 4 = 2 ∧ t.field Reg.hifBs 4 3 = 3 ∧ t.cores = s.cores ∧ t.hbm = s.hbm) ∧
    (s.host.running = true → s.host.stage = 2 → s.host.waiting = true → s.flag (Reg.iskSens 0) 32 = false →
      ∃ t, exec (.mainInputRangeChange .inRange) s = .next t ∧ t.host.waiting = false ∧ t.host.mainIn = true ∧
        t.host.stageStart = s.time.count ∧ t.field Reg.hifBs 4 3 = 0 ∧ t.cores = s.cores ∧ t.hbm = s.hbm) ∧
    (s.host.auxIn = true → ∃ t, exec .auxInputLoss s = .next t ∧ t.host.auxIn = false ∧ t.host.powered = false ∧
      t.host.bs1Done = false ∧ t.recorder.store = s.recorder.store ∧ t.recorder.flashed = s.recorder.store.length))

/-- A stage of bring-up completes: with a failure its hardware found, bring-up stops with STAGE, STATUS 4 and the failure's code; BS2,
BS8 and BS9 end DONE, the next stage begins or READY is set; BS5 leaves HBM zero when it is cold. A stage beyond its limit fails
with code 0x2nFF. -/
def Obligations.BringupStages : Prop :=
  ∀ (s : State) (k : Nat), s.regsOk = true → s.host.running = true → s.host.waiting = false → s.host.stage = k → k < 10 →
    (∀ f u, f ∈ stageCodes k s.host.warm → 0x2000 ≤ f → (k = 2 → s.inputOut = false) →
      ∃ t, exec (.bringupStageComplete ⟨[], some (f, u)⟩) s = .next t ∧ t.host.running = false ∧ t.field Reg.hifBs 0 4 = k ∧
        t.field Reg.hifBs 4 3 = 4 ∧ t.field Reg.hifBs 8 16 = f ∧ t.reg (Reg.hifBst k) = s.time.count % 2 ^ 64 ∧
        t.cores = s.cores ∧ t.hbm = s.hbm) ∧
    (k = 2 ∨ k = 8 → (k = 2 → s.inputOut = false) →
      ∃ t, exec (.bringupStageComplete ⟨[], none⟩) s = .next t ∧ t.host.running = true ∧ t.host.stage = k + 1 ∧
        t.field Reg.hifBs 0 4 = k ∧ t.field Reg.hifBs 4 3 = 1 ∧ t.field Reg.hifBs 8 16 = 0 ∧
        t.reg (Reg.hifBst k) = s.time.count % 2 ^ 64 ∧ t.host.stageStart = s.time.count ∧ t.cores = s.cores ∧ t.hbm = s.hbm) ∧
    (k = 9 → ∃ t, exec (.bringupStageComplete ⟨[], none⟩) s = .next t ∧ t.host.running = false ∧ t.flag Reg.hifBs 7 = true ∧
      t.field Reg.hifBs 0 4 = 9 ∧ t.field Reg.hifBs 4 3 = 1 ∧ t.cores = s.cores ∧ t.hbm = s.hbm) ∧
    (k = 5 → (∀ i, i < 32 → (s.nme i).waiting = []) → ∃ t, exec (.bringupStageComplete ⟨[], none⟩) s = .next t ∧ t.host.stage = 6 ∧
      t.hbm = (if s.host.warm then s.hbm else []) ∧ t.cores = s.cores) ∧
    (s.host.stageStart + stageLimit k s.host.warm * 1000000 < s.time.count →
      ∃ t, exec .bringupStageTimeout s = .next t ∧ t.host.running = false ∧ t.field Reg.hifBs 0 4 = k ∧
        t.field Reg.hifBs 4 3 = 4 ∧ t.field Reg.hifBs 8 16 = 0x20FF + 0x100 * k ∧ t.cores = s.cores ∧ t.hbm = s.hbm)

/-! ### The dispatcher (R146-R153) -/

/-- A descriptor whose START has come and whose cores are free launches: each selected core is RUNNING in its job, epoch and step, at
the first word of the image, with s1 the argument, s2 its index, every other scalar register 0; the descriptor leaves the
dispatcher, and memory outside its 128 bytes stays. A scan moves SCANS on by one, finds an entry that software has entered, its
START ahead, and shows its IDLE cores LOADED. A program that has ended leaves its core IDLE, its flags in HIF_CSTAT. -/
def Obligations.Dispatcher : Prop :=
  ∀ s : State, s.regsOk = true → s.coresOk = true → s.stops 0 = false →
    (∀ (f : Found) (e : Nat), s.disp.found.find? (fun g => g.index == e) = some f → f.late = false → s.stops f.job = false →
      f.start ≤ s.nowA → s.launchLive f = 0 → s.launchable f = true →
      (∀ c, c ∈ f.list → ∀ p, s.physOf c = some p → Tab.find s.grm.runs p = none) →
      ∃ t, exec (.launch e) s = .next t ∧ (∀ g, g ∈ t.disp.found ↔ (g ∈ s.disp.found ∧ g.index ≠ e)) ∧
        (∀ c, c ∈ f.list → t.coreState c = 2 ∧ (t.core c).pc = f.image ∧ (t.core c).sr 1 = BitVec.ofNat 64 f.arg ∧
          (t.core c).sr 2 = BitVec.ofNat 64 c ∧ (∀ r, r ≠ 1 → r ≠ 2 → (t.core c).sr r = 0) ∧
          (t.core c).ctx.job = f.job ∧ (t.core c).ctx.epoch = f.epoch ∧ (t.core c).ctx.step = f.step ∧
          (t.core c).store = (s.core c).store) ∧
        (∀ c, c < 192 → c ∉ f.list → t.core c = s.core c ∧ t.coreState c = s.coreState c) ∧
        (∀ j, (∀ i x y, i < 128 → locate s.spread (s.subAddr e + i) = some (x, y) → physKey x y / 64 ≠ j / 64) →
          t.byteAt j = s.byteAt j)) ∧
    (∀ l : List Byte, s.host.bs8Done = true → s.tableEntries Reg.hifSubCtl = 1 → s.disp.lastScan ≠ s.scanTick →
      s.disp.found = [] → s.backed (s.subAddr 0) 128 = true → s.memRead (s.subAddr 0) 128 = (l, none, s) →
      let f := Found.ofBytes 0 s.nowA l
      let entered := bits (wordAt l 0) 0 4 = 1
      (entered → s.launchErr f l = 0 ∧ f.late = false ∧
        ∀ c, c ∈ f.list → ∀ p, s.physOf c = some p → Tab.find s.grm.runs p = none) →
      ∃ t, exec .dispatcherScan s = .next t ∧ t.field Reg.hifSubStat 0 32 = (s.field Reg.hifSubStat 0 32 + 1) % 2 ^ 32 ∧
        t.disp.lastScan = s.scanTick ∧ t.cores = s.cores ∧ t.hbm = s.hbm ∧ (¬ entered → t.disp.found = []) ∧
        (entered → t.disp.found = [f] ∧
          ∀ c, c ∈ f.list → t.coreState c = if s.coreState c = 0 then 1 else s.coreState c)) ∧
    (∀ c, c < 192 → s.coreState c = 2 → (s.core c).wait = .ended → (s.core c).package = false → s.coreHalted c = false →
      s.coreQuiet c = true → (s.core c).ctx.doneEn = false → groomerQuiet s c →
      Answers (.programEndComplete c) s
        (((s.setField (Reg.hifCstat c) 3 5 (s.field (Reg.hifCstat c) 3 5 ||| (s.core c).vsts.toNat % 32)).setCore c
          { s.core c with wait := .none }).setField (Reg.hifCstat c) 0 3 0))

/-! ### Links (R200-R212, R239) -/

/-- A port that goes DOWN (R208): its partial packets and credits are gone, LNK_DOWN counts, PORTUP is clear, and training begins
again where the port is enabled, its tile is up and its dimension has a neighbour; no other port changes. -/
def wentDown (s t : State) (p : Nat) : Prop :=
  t.lts p = (if s.flag (Reg.fabPortCtl p) 0 && s.tileUp (p / 6) && !s.unlinked p then 1 else 0) ∧
  t.flag Reg.fabStat (4 + p) = false ∧ t.port p = Port.down { s.port p with since := s.time.count } ∧ t.reg (Reg.fabLnkDown p) = min (s.field (Reg.fabLnkDown p) 0 48 + 1) (2 ^ 48 - 1) ∧
  (∀ q, q ≠ p → t.port q = s.port q) ∧ t.cores = s.cores ∧ t.hbm = s.hbm

/-- A codeword on a port that trains or is UP (R204-R207): one the decoder gives up is counted and asked for again, nothing of it
taken; one in order with a packet of one flit is accepted, and the packet stands in the receive buffer of its VC. Loss of
lock and lanes that fail on a port that is UP (R208, R210, R211): the port goes DOWN when lock is lost or a lane fails with
no spare free; the shadow lane is replaced by LS at once, another is asked for first; LS itself leaves the port UP where it
carries nothing, and takes it DOWN where it does. At the end of a window in which no lane has reached FAB_PORT_CTL.SERTH the
worst lane is asked for as the shadow; one that has reached it, and is the shadow, is replaced (R209, R210). Training (R201,
R202, R211, R212, R239): each state that finds at least 16 lanes leads to the next, too few to FEWLANES; the partner decides
between LT4 and MISWIRE; credits are all owed on entering LT5's successor; the last leads to UP with PORTUP set. A limit that
passes, a retry 100 ms later, and writes of FAB_PORT_CTL that retrain or hold the port DOWN. A port of a dimension of one
node stays DOWN, and a retry of a MISWIRE port shows MISWIRE until its partner is right. -/
def Obligations.Links : Prop :=
  (∀ (p : Nat) (fr : Frame) (s : State), s.regsOk = true → s.portsOk = true → p < 12 → (s.lts p = 6 ∨ s.lts p = 7) →
    (s.port p).swapAt = none →
    let n := fr.fseq.toNat
    (fr.decodes = false → ∃ t, exec (.frameReceive p fr) s = .next t ∧ (t.port p).nakSent = true ∧
      (t.port p).rxNext = (s.port p).rxNext ∧ (t.port p).rx = (s.port p).rx ∧ t.lts p = s.lts p ∧
      t.reg (Reg.fabLnkFecUncorr p) = min (s.field (Reg.fabLnkFecUncorr p) 0 48 + 1) (2 ^ 48 - 1)) ∧
    (fr.decodes = true → fr.fcrc.toNat = frameCrc n fr.slots → n = (s.port p).rxNext → n % 4 ≠ 0 → ∀ h rest,
      fr.slots = h :: rest → headerOk h = true → bits h.toNat 208 5 = 0 → bits h.toNat 71 4 ≠ 15 →
      (∀ g, g ∈ rest → headerOk g = true ∧ bits g.toNat 71 4 = 15) → s.closed (p / 6) = false →
      (s.port p).part = none → (s.port p).skip = 0 →
      ∃ t r, exec (.frameReceive p fr) s = .next t ∧ (t.port p).rxNext = (n + 1) % 256 ∧ r.packet = ⟨h, []⟩ ∧
        (t.port p).rx = (s.port p).rx.modify r.packet.vc (fun l => l ++ [r]) ∧
        t.reg (Reg.fabPktRx p) = min (s.field (Reg.fabPktRx p) 0 48 + 1) (2 ^ 48 - 1) ∧ t.cores = s.cores ∧ t.hbm = s.hbm)) ∧
  (∀ (p lane : Nat) (counts : List Nat) (s : State), s.regsOk = true → s.portsOk = true → p < 12 → s.portUp p = true →
    let k := Reg.fabPortLane p
    (∃ t, exec (.lossOfLock p) s = .next t ∧ wentDown s t p) ∧
    (lane < 16 → s.flag k (17 + lane) = false →
      (s.spareFree p = false → ∃ t, exec (.laneFail p lane) s = .next t ∧ wentDown s t p ∧ t.flag k lane = false ∧
        t.flag k (17 + lane) = (t.lts p == 0)) ∧
      (s.spareFree p = true → s.field (Reg.fabPortStat p) 4 4 = lane → ∃ t, exec (.laneFail p lane) s = .next t ∧
        t.portUp p = true ∧ t.flag (Reg.fabPortStat p) 8 = true ∧ t.field (Reg.fabPortStat p) 9 4 = lane ∧
        t.flag k lane = false ∧ t.flag k (17 + lane) = true ∧ t.cores = s.cores ∧ t.hbm = s.hbm) ∧
      (s.spareFree p = true → s.field (Reg.fabPortStat p) 4 4 ≠ lane → Answers (.laneFail p lane) s
        ((s.setField k lane 1 0).modPort p (fun x => { x with want := some lane, failing := some lane })))) ∧
    (s.flag k 33 = false →
      (s.flag (Reg.fabPortStat p) 8 = false → (s.port p).failing = none →
        Answers (.laneFail p 16) s ((s.setField k 16 1 0).setField k 33 1 1)) ∧
      (s.flag (Reg.fabPortStat p) 8 = true ∨ (s.port p).failing.isSome = true →
        ∃ t, exec (.laneFail p 16) s = .next t ∧ wentDown s t p)) ∧
    ((∀ l, l < 17 → l < counts.length → (counts[l]?).getD 0 < s.field (Reg.fabPortCtl p) 8 12) →
      (s.spareFree p = true →
        Answers (.serWindowEnd p counts) s (s.modPort p (fun x => { x with want := some (worstLane counts) }))) ∧
      (s.spareFree p = false → Answers (.serWindowEnd p counts) s s)) ∧
    (s.overSerth p counts = [lane] → lane < 16 → s.flag k (17 + lane) = false → s.spareFree p = true →
      s.field (Reg.fabPortStat p) 4 4 = lane → ∃ t, exec (.serWindowEnd p counts) s = .next t ∧ t.portUp p = true ∧
        t.flag (Reg.fabPortStat p) 8 = true ∧ t.field (Reg.fabPortStat p) 9 4 = lane ∧ t.flag k (17 + lane) = true ∧
        t.cores = s.cores ∧ t.hbm = s.hbm)) ∧
  (∀ (p pf : Nat) (r : TrainResult) (v : Word) (s : State), s.regsOk = true → s.portsOk = true → p < 12 → s.recLive = [] →
    s.flag Reg.fabStat (4 + p) = s.portUp p →
    let st := s.lts p
    let due := (s.port p).since + 100000000 ≤ s.time.count
    let first := if s.unlinked p then 0 else 1
    let again : State := s.modPort p (fun x => { x with hidden := 1, since := s.time.count })
    let few := popCount 17 (s.trained p r.lanes) < 16
    let leads (c : Instr) (n : Nat) : Prop := ∃ t, exec c s = .next t ∧ t.lts p = n ∧ t.flag Reg.fabStat (4 + p) = (n == 7) ∧
      (∀ q, q < 12 → q ≠ p → t.lts q = s.lts q) ∧ t.cores = s.cores ∧ t.hbm = s.hbm
    (s.flag (Reg.fabPortCtl p) 0 = true → s.tileUp (p / 6) = true →
      (1 ≤ st → st ≤ 3 → ¬ few → leads (.trainingStateComplete p r) (st + 1)) ∧
      (1 ≤ st → st ≤ 3 → few → leads (.trainingStateComplete p r) 0) ∧
      (st = 4 → s.identityReady = true →
        leads (.trainingStateComplete p r) (if s.partnerOk p r.node r.port then 5 else 8)) ∧
      (st = 5 → leads (.trainingStateComplete p r) 6) ∧ (st = 6 → leads (.trainingStateComplete p r) 7) ∧
      (st = 0 → (s.port p).retry = true → due → leads (.trainRetry p) first) ∧
      (st = 8 → (s.port p).hidden = 0 → due → Answers (.trainRetry p) s again)) ∧
    (1 ≤ st → st ≤ 6 → (st = 4 → s.identityReady = true) → (s.port p).since + s.trainLimit p st < s.time.count →
      leads (.trainingStateTimeout p) 0) ∧
    (s.writeRefusal pf (Reg.fabPortCtl p) = none →
      (v.toNat % 4 = 3 → s.tileUp (p / 6) = true → st ≠ 8 → leads (.retrain pf p v) first) ∧
      (v.toNat % 4 = 3 → s.tileUp (p / 6) = true → st = 8 → ∃ t, exec (.retrain pf p v) s = .next t ∧ t.lts p = 8 ∧
        t.port p = again.port p ∧ t.cores = s.cores ∧ t.hbm = s.hbm) ∧
      (v.toNat % 4 = 0 → leads (.portEnableWrite pf p v) 0)))

/-! ### Packets at a hop (R219-R226) -/

/-- What a port does with packets: the one arbitration picks is sent whole in frames that stay in the replay buffer; one in transit
takes the output the routing rules give, crosses the bridge where that output is on the other tile and the bridge has room, or is
dropped and counted; one that names no unit is discarded, a flooded one after it is forwarded; a packet that has waited
FAB_ROUTE_CTL.STALL, a flood copy 1 us without credits, and an entry of the flood-seen table go when their time has come. -/
def Obligations.PacketSwitching : Prop :=
  ∀ (p vc : Nat) (s : State), s.regsOk = true → s.portsOk = true → s.stops 0 = false →
    (p < 12 → s.maySend p = true → s.fab.waiting = [] → (s.port p).linkq = [] → (s.port p).floods = [] → ∀ q x, (s.port p).pick = some (q, x) →
      q.type ≠ tyCtrl → x.room (framesFor q) = true → ∃ t, exec (.packetTransmit p) s = .next t ∧ (t.port p).outq = x.outq ∧
        (∃ n sl, (n, sl) ∈ (t.port p).replay ∧ q.header ∈ sl ∧ Output.frame p n (frameCrc n sl) sl ∈ t.out) ∧
        t.reg (Reg.fabPktTx p) = min (s.field (Reg.fabPktTx p) 0 48 + 1) (2 ^ 48 - 1) ∧ t.cores = s.cores ∧ t.hbm = s.hbm) ∧
    (∀ r, s.head p vc = some r →
      (s.inTransit p r.packet = true →
        (∀ o q, s.hop r.packet p = .out o q → s.crosses p r.packet = false → ∃ t, exec (.transitPacket p vc) s = .next t ∧
          (t.port p).rx = (s.port p).rx.modify vc (List.drop 1) ∧
          (t.port o).outq = (s.port o).outq ++ [⟨q, some ⟨r.packet, p, s.time.count⟩⟩] ∧ t.cores = s.cores ∧ t.hbm = s.hbm) ∧
        (s.crosses p r.packet = true →
          let b := 13 + tileOf p
          let q : Packet := (r.packet.setField 86 2 (2 - tileOf p)).seal
          ((s.port b).hasRoom r.packet = false → Answers (.transitPacket p vc) s s) ∧
          ((s.port b).hasRoom r.packet = true → ∃ t, exec (.transitPacket p vc) s = .next t ∧
            (t.port p).rx = (s.port p).rx.modify vc (List.drop 1) ∧
            (t.port b).rx = (s.port b).rx.modify q.vc (fun l => l ++ [{ r with packet := q }]) ∧
            t.reg Reg.fabBridgeXing = (s.count Reg.fabBridgeXing).reg Reg.fabBridgeXing ∧ t.cores = s.cores ∧ t.hbm = s.hbm)) ∧
        (∀ k, s.hop r.packet p = .drop k → Answers (.transitPacket p vc) s ((s.popHead p vc).count k)) ∧
        (p ≠ 12 → s.hop r.packet p = .wait ∨ s.crosses p r.packet = true →
          ((s.port p).headAt[vc]?).getD 0 + s.stallLimit ≤ s.time.count →
          Answers (.stallDrop p vc) s ((s.popHead p vc).count (Reg.fabDropStall (s.dropPort r.packet p))))) ∧
      (s.inTransit p r.packet = false → Packet.homeless r.packet = true →
        let q := (s.popHead p vc).floodSeen (Packet.floodKey r.packet)
        (r.packet.flood ≠ 1 → Answers (.transitPacket p vc) s ((s.popHead p vc).count Reg.fabDiscType)) ∧
        (r.packet.flood = 1 → q.1 = false → Answers (.transitPacket p vc) s (q.2.count Reg.fabDiscFlooddup)) ∧
        (r.packet.flood = 1 → q.1 = true → Answers (.transitPacket p vc) s ((q.2.floodOut r.packet p).count Reg.fabDiscType)))) ∧
    (∀ w l, s.fab.waiting = w :: l → w.since + s.stallLimit ≤ s.time.count → Answers (.stallDrop 12 vc) s
      (({ s with fab := { s.fab with waiting := l } }).count (Reg.fabDropStall (s.dropPort w.packet w.origin)))) ∧
    (∀ q t l, p < 12 → (s.port p).floods = (q, t) :: l → s.credit p q.vc < flitsIn q → t + 1000 ≤ s.time.count → Answers (.floodCreditTimeout p) s
      ((s.modPort p (fun x => { x with floods := x.floods.drop 1 })).count (Reg.fabDropFlood p))) ∧
    (∀ (i : Nat) e, s.fab.flood[i]? = some e → e.made + 200000 ≤ s.time.count →
      Answers (.floodSeenExpire i) s { s with fab := { s.fab with flood := s.fab.flood.eraseIdx i } })

/-! ### The end-to-end layer (R178-R181, R216, R228-R231) -/

/-- A packet at its destination that passes the checks of R231, of an ACTIVE job with its epoch. -/
def arrives (s : State) (port vc : Nat) (r : RxPacket) : Prop :=
  s.head port vc = some r ∧ s.isHome port r.packet = true ∧ r.packet.linkLocal = false ∧ s.arrivalCheck r.packet = none ∧
  s.jobLive r.packet.job r.packet.epoch = true ∧ s.stops 0 = false

/-- PUT, MIRROR and ACC packets at their NME (R174, R179, R228): a new one is written or added and enters its window, a duplicate
changes no memory, a marker goes on to the Gate; each leaves its buffer and is acknowledged. Acknowledgements are coalesced
and none is kept for this source yet; no packet of the module waits to be sent; the window needs no other's place. A spilled
window whose 576 bytes read back comes on chip again, and the zeroing of an armed handle moves on by one chunk (R177, R180). -/
def Obligations.PacketsAndWindows : Prop :=
  (∀ (port vc : Nat) (r : RxPacket) (w : Window) (s : State), s.regsOk = true → s.portsOk = true → s.nmesOk = true →
    arrives s port vc r → s.fab.recs = [] → s.field Reg.fabE2e 16 8 ≠ 0 → s.fab.acks = [] →
    let p := r.packet
    let done (c : Instr) (f : State → Prop) : Prop := ∃ t, exec c s = .next t ∧ f t ∧ t.cores = s.cores ∧
      (t.port port).rx = (s.port port).rx.modify vc (List.drop 1) ∧
      t.fab.acks = [⟨p.src, p.job, p.epoch, p.seq, 1, [], s.time.count⟩]
    let i := s.nmeAt p.addr
    (s.backed p.addr (64 * p.len) = true → (s.nme i).running = true → s.findWindow i p.job p.src = .here w → 0 < p.len →
      ((s.nme i).windows.filter (fun v => !v.is p.job p.src)).length < 64 →
      (p.type = tyPut → p.rsp = 0 → p.ext 0 1 = 0 → w.step p.seq = .new → done (.putReceive port vc) (fun t =>
        t.hbm = (s.memWrite p.addr p.bytes).hbm ∧ (t.nme i).windows.head? = some (w.accept p.seq))) ∧
      (p.type = tyPut → p.rsp = 0 → w.step p.seq = .dup → (s.nme i).waiting = [] → done (.putReceive port vc) (fun t =>
        t.hbm = s.hbm ∧ t.reg (Reg.nmeDiscDup i) = (s.count (Reg.nmeDiscDup i)).reg (Reg.nmeDiscDup i))) ∧
      (∀ g, p.type = tyMirror → s.mirrorAccepts p = true → s.hostedAt p.addr = some g → s.isOpen p g = false →
        s.isSeal p g = false → w.step p.seq = .new → done (.mirrorReceive port vc) (fun t =>
          t.hbm = (s.memWrite p.addr p.bytes).hbm ∧ (t.nme i).windows.head? = some (w.accept p.seq)))) ∧
    (let x := Packet.payloadNat p
     let h := AccHead.ofNat x
     let n := s.accNme h
     p.type = tyAcc → (s.nme n).running = true → s.findWindow n p.job p.src = .here w → w.step p.seq = .new →
     ((s.nme n).windows.filter (fun v => !v.is p.job p.src)).length < 64 → s.accCheck n p h = none →
      (∀ a, (s.nme n).find h.handle = some a → h.isMarker = true → done (.accReceive port vc .none) (fun t => t.hbm = s.hbm ∧
        t.gate.markers = s.gate.markers ++
          [⟨h.handle, a.desc.job, a.desc.epoch, a.desc.step, p.src, h.bk, h.stage, r.stampA / 16⟩])) ∧
      (∀ a u, h.isMarker = false → (s.nme n).find h.handle = some a → (s.nme n).waiting = [] →
        let area := a.target (p.src == s.own.node) h
        a.ready (a.desc.chunkOf h.loff) area = true →
        s.addLanes n a.desc area ((List.range h.nlanes).map (fun k => (h.loff + k, accLane x k))) = (none, u) →
        done (.accReceive port vc .none) (fun t => t.hbm = u.hbm)))) ∧
  (∀ (i : Nat) (s : State), s.regsOk = true → s.nmesOk = true → s.stops 0 = false → s.fab.recs = [] → (s.nme i).waiting = [] →
    (∀ job source w u, (s.nme i).running = true → (s.nme i).spilled.find? (fun w => w.is job source) = some w →
      s.spillIn i w = (w, u) → Answers (.windowReload i job source) s (u.useWindow i w)) ∧
    (∀ w, s.spillAddr i w.job w.source = none → s.spillIn i w = (w, s)) ∧
    (∀ h a, (s.nme i).find h = some a → a.zeroed < a.desc.toZero →
      let at' := a.desc.area i (a.zeroed % a.desc.areas) + a.zeroed / a.desc.areas * chunkBytes
      let t := s.memWrite at' (List.replicate chunkBytes 0)
      Answers (.zeroChunkComplete i h) s (t.setNme i ((t.nme i).setArmed { a with zeroed := a.zeroed + 1 }))))

/-- GET (R216): a request is answered with the bytes, with ADDR outside backed memory, or as poisoned; a response is written
where its request says, and the instruction awaits one packet less. Acknowledgements (R229, R230): one sequence acknowledged
drops its record, and its instruction awaits one packet less; a map that has waited for its limit is sent; a record past its
timeout is sent again with RTX, or given up and counted after RMAX. -/
def Obligations.GetsAndAcknowledgements : Prop :=
  (∀ (port vc : Nat) (r : RxPacket) (s : State), arrives s port vc r → r.packet.type = tyGet →
    let p := r.packet
    let t := s.popHead port vc
    (p.rsp = 0 →
      (s.backed p.addr (p.ext 0 11) = false →
        Answers (.getRequestReceive port vc) s ((t.count Reg.fabDiscAddr).inject (getResponse p 2 []))) ∧
      (s.backed p.addr (p.ext 0 11) = true →
        let m := t.memRead p.addr (p.ext 0 11)
        Answers (.getRequestReceive port vc) s
          (m.2.2.inject (match m.2.1 with | none => getResponse p 0 m.1 | some _ => getResponse p 3 [])))) ∧
    (∀ q c op run a n, s.coresOk = true → p.rsp = 1 → p.ext 0 4 = 0 → s.getRecord p = some q → p.len = q.ext / 64 →
      q.source.core = some c → q.source.segs = [(a, n)] → q.owner = .core c op → (s.core c).runOf op = some run → 1 < run.left →
      run.failed = none → (s.core c).wait ≠ .stopped → (s.core c).fab = [] → (∀ e, e ∈ s.fab.recs → 0 < e.sends) →
      Answers (.getResponseReceive port vc) s ((t.dropRecord q.id).setCore c
        (((s.core c).putBytes a (p.bytes.take n)).setRun { run with left := run.left - 1 })))) ∧
  (∀ (s : State), s.regsOk = true → s.stops 0 = false → (∀ e, e ∈ s.fab.recs → 0 < e.sends) →
    (∀ port vc r q c op run seq, s.coresOk = true → arrives s port vc r → r.packet.type = tyCtrl → r.packet.sub = 1 →
      Packet.acked r.packet = [(seq, 0)] → s.eackGhost r.packet = false → s.ackedRecord r.packet seq = some q →
      q.owner = .core c op → (s.core c).runOf op = some run → 1 < run.left → run.failed = none → (s.core c).wait ≠ .stopped →
      (s.core c).fab = [] →
      Answers (.eackReceive port vc) s (((s.popHead port vc).dropRecord q.id).setCore c
        ((s.core c).setRun { run with left := run.left - 1 }))) ∧
    (∀ m, s.fab.acks.find? (fun q => q.source == m.source && q.job == m.job) = some m →
      m.since + 8 * s.field Reg.fabE2e 16 8 ≤ s.time.count → ∃ t, exec (.eackCoalesceExpire m.source m.job) s = .next t ∧
        t.fab.acks = s.fab.acks.filter (fun q => !(q.source == m.source && q.job == m.job)) ∧ t.cores = s.cores ∧
        t.hbm = s.hbm) ∧
    (∀ r, s.fab.recs.find? (fun q => q.id == r.id) = some r → r.sentAt + s.rto ≤ s.time.count →
      (∀ l, r.sends < s.rmax r → s.readSource r.source r.len = (l, none, s) → r.coreOf = none →
        ∃ t, exec (.retransmitTimeout r.id) s = .next t ∧
          t.fab.recs = s.fab.recs.map (fun q => if q.id = r.id then { r with sends := r.sends + 1, sentAt := s.time.count } else q) ∧
          t.reg Reg.fabE2eRetx = (s.count Reg.fabE2eRetx).reg Reg.fabE2eRetx) ∧
      (s.rmax r ≤ r.sends → r.owner = .none → Answers (.retransmitTimeout r.id) s
        ((s.count Reg.fabE2eFail).dropRecord r.id))))

/-! ### Withdrawal, identity and the piste table (R232-R238, R497) -/

/-- Withdrawal and identity: GO announces T 10 us ahead and takes every port of the tile out of routing; a neighbour's notice takes
its port out; T passed is kept; a write of FAB_NODE with VALID latches node and ring sizes where they are valid, and a port of a
dimension of one node is DOWN (R201). -/
def Obligations.WithdrawalAndIdentity : Prop :=
  ∀ (pf : Nat) (v : Word) (s : State), s.regsOk = true → s.portsOk = true →
    (s.writeRefusal pf Reg.fabWithdraw = none → ∀ f, f < 2 → v.toNat % 4 = 2 + f → s.flag Reg.fabStat 2 = false →
      s.flag Reg.fabStat 3 = false → s.tileUp 0 = true → s.tileUp 1 = true → ∃ t, exec (.fabWithdrawGo pf v) s = .next t ∧
        t.flag Reg.fabStat (2 + f) = true ∧ Tab.get t.fab.wdT 0 f = s.nowA + 10000 ∧
        (∀ p, p < 12 → t.flag (Reg.fabPortStat p) 14 = (p / 6 == f || s.flag (Reg.fabPortStat p) 14)) ∧
        t.cores = s.cores ∧ t.hbm = s.hbm) ∧
    (∀ p vc r, p < 12 → s.stops 0 = false → s.head p vc = some r → r.packet.linkLocal = true → r.packet.sub = 3 →
      Answers (.withdrawReceive p vc) s ((((s.popHead p vc).setField (Reg.fabPortStat p) 14 1 1)).modPort p
        (fun x => { x with wdT := some (r.packet.ext 0 64) }))) ∧
    (∀ f, f < 2 → s.stops 0 = false → s.flag Reg.fabStat (2 + f) = true → Tab.get s.fab.wdT 0 f < s.nowA →
      Answers (.withdrawTReached f) s { s with fab := { s.fab with wdT := Tab.put s.fab.wdT 0 (f + 2) 1 } }) ∧
    (s.writeRefusal pf Reg.fabNode = none → v.toNat.testBit 15 = true →
      let l : NodeLatch :=
        ⟨v.toNat % 2 ^ 15, s.field Reg.fabDim 0 6, s.field Reg.fabDim 8 6, s.field Reg.fabDim 16 6⟩
      l.valid = true → ∃ t, exec (.fabNodeWrite pf v) s = .next t ∧ t.fab.latch = some l ∧ t.fab.refused = false ∧
        t.reg Reg.fabNode = v.toNat % 2 ^ 16 ∧ t.cores = s.cores ∧ t.hbm = s.hbm ∧ (∀ p, p < 12 → t.lts p =
          if (l.dim (p % 6 / 2)).1 = 1 ∧ 1 ≤ s.lts p ∧ s.lts p ≤ 6 then 0 else s.lts p))

/-- The piste table (R232, R497): a write that the table of R497 allows gives the entry its fields, an invalid entry that becomes
ACTIVE restarts the job's sequences, TEARDOWN to QUARANTINE puts QEND 2 s ahead; a write it refuses sets REFUSED and leaves the
entry. At QEND the entry is invalid. -/
def Obligations.PisteTable : Prop :=
  ∀ (pf e : Nat) (v : Word) (s : State), s.regsOk = true → e < 16 →
    let k := Reg.fabPisteA e
    let n := v.toNat
    (s.writeRefusal pf k = none →
      (s.pisteBad e n = true → ∃ t, exec (.pisteWrite pf e false v) s = .next t ∧ t.flag k 24 = true ∧
        t.field k 0 23 = s.field k 0 23 ∧ t.cores = s.cores ∧ t.hbm = s.hbm) ∧
      (s.pisteBad e n = false → s.flag k 0 = false → n % 8 = 1 → ∃ t, exec (.pisteWrite pf e false v) s = .next t ∧
        t.field k 0 23 = n % 2 ^ 23 ∧ (∀ q, q % 4096 = n / 8 % 4096 → Tab.find t.fab.seqs q = none) ∧ t.cores = s.cores ∧
        t.hbm = s.hbm) ∧
      (s.pisteBad e n = false → s.field k 0 3 = 3 → n % 8 = 5 → s.field k 3 12 = n / 8 % 4096 →
        ∃ t, exec (.pisteWrite pf e false v) s = .next t ∧ t.field k 0 23 = n % 2 ^ 23 ∧
          t.reg (Reg.fabPisteB e) = (s.nowA + 2000000000) % 2 ^ 64 ∧ t.cores = s.cores ∧ t.hbm = s.hbm)) ∧
    (s.field k 0 3 = 5 → s.reg (Reg.fabPisteB e) ≤ s.nowA → ∃ t, exec (.quarantineEnd e) s = .next t ∧ t.flag k 0 = false ∧
      t.field k 1 22 = s.field k 1 22 ∧ t.cores = s.cores ∧ t.hbm = s.hbm)

/-! ### Broadcasts (R293-R298) -/

/-- A BCAST of an idle core whose checks pass becomes this module's broadcast on its tree: the root holds it with its children
and its packets are made; the instruction awaits its end and the PC moves on. Its source lies in core store, so no read can
fail, and the module has at least one neighbour. What reaches a broadcast (R295-R297): a new packet at a leaf sets its bit of
the map and is written, a duplicate is counted and writes nothing; DONE of a child that is not the last is noted at the root,
the last one ends a Gate broadcast, whose slot is DONE; a child silent for BTO or BTOD is declared failed. -/
def Obligations.Broadcasts : Prop :=
  (∀ (x : Fki) (s : State) (f : Fmt), x.hw = .none → s.coresOk = true → s.fab.recs = [] →
    let k := s.core x.core
    let op := k.dmaOp x 3
    k.fab = [] → k.outstanding < 64 → k.runs.all (fun r => r.failed.isNone) = true → s.issues x.core [x.b.toNat] [x.d.toNat, x.a.toNat] = true → x.c = 0 → x.imm.toNat < 2 ^ 9 →
    x.d.toNat < 16 → x.a.toNat < 16 → (k.sr x.b.toNat).toNat < 2 ^ 12 → s.treeBusy op = false → dFmt op.dA = some f →
    s.bcastCheck op (s.treeEntry op.sB.toNat).1 k.ctx.job = none → dSpace op.dA = 1 →
    s.own.children s.own.node s.own.node ≠ [] →
    ∃ t b run, exec (.bcast x) s = .next t ∧ (t.core x.core).pc = k.nextPc ∧ (t.core x.core).fab = [] ∧
      (t.core x.core).runs = k.runs ++ [run] ∧ run.op = op ∧ run.tree = some op.sB.toNat ∧
      t.gate.bcasts = s.gate.bcasts ++ [b] ∧ b.isRoot = true ∧ b.tree = op.sB.toNat ∧ b.root = s.own.node ∧
      b.owner = some (x.core, op.id) ∧ b.npkt = (packetsTo op.dD f).length ∧
      b.children.map (·.node) = s.own.children s.own.node s.own.node) ∧
  (∀ (i : Nat) (b : Bcast) (s : State), s.regsOk = true → s.stops 0 = false → s.fab.recs = [] → s.gate.bcasts[i]? = some b →
    (∀ port vc r k, arrives s port vc r → r.packet.type = tyBcast → r.packet.ext 27 1 = 1 →
      s.bcastSlot r.packet = some k →
      s.gate.bcasts.findIdx? (fun b => b.slot == some k && b.root == r.packet.ext 12 15) = some i →
      let p := r.packet
      let a := (s.slot k).bmap + p.ext 12 15 * (s.slot k).bmstr + p.seq / 8
      let m := s.memRead a 1
      p.seq < 8 * (s.slot k).bmstr → b.children = [] → b.arrived = false → b.isRoot = false →
      (∃ q, q ∈ b.parents ∧ q.node = p.src) →
      (bit (ofBytes m.1) (p.seq % 8) = false → m.2.2.backed p.addr (64 * p.len) = true → b.got + 1 ≠ b.npkt →
        ∃ t, exec (.bcastReceive port vc) s = .next t ∧ t.cores = s.cores ∧
          t.hbm = ((m.2.2.memWrite a [BitVec.ofNat 8 (setBits (ofBytes m.1) (p.seq % 8) 1 1)]).memWrite p.addr p.bytes).hbm ∧
          t.gate.bcasts[i]? = some { b with got := b.got + 1 }) ∧
      (bit (ofBytes m.1) (p.seq % 8) = true → ∃ t, exec (.bcastReceive port vc) s = .next t ∧ t.cores = s.cores ∧
        t.hbm = m.2.2.hbm ∧ t.reg Reg.fabDiscBdup = min (s.field Reg.fabDiscBdup 0 48 + 1) (2 ^ 48 - 1) ∧
        t.gate.bcasts[i]? = some b)) ∧
    (b.isRoot = true →
      (∀ port vc r, arrives s port vc r → r.packet.type = tyCtrl → r.packet.sub = 4 → s.backFor r.packet = some i →
        r.packet.ext 15 1 = 1 → r.packet.ext 16 2 = 0 → r.packet.ext 63 1 = 0 →
        let h := b.heard r.packet.src s.time.count true [] false
        (h.settled = false → ∃ t, exec (.back port vc) s = .next t ∧ t.gate.bcasts[i]? = some h ∧ t.cores = s.cores ∧
          t.hbm = s.hbm) ∧
        (∀ k, h.settled = true → b.orphans = [] → b.ovf = false → b.slot = some k → k < 32 → s.slotState k = 4 →
          ∃ t, exec (.back port vc) s = .next t ∧ t.gate.bcasts = s.gate.bcasts.eraseIdx i ∧ t.slotState k = 5)) ∧
      (∀ n, (b.fail n).settled = false →
        (s.childLate i n false s.bto = true → Answers (.broadcastReceivedTimeout i n) s (s.setBcast i (b.fail n))) ∧
        (s.childLate i n true s.btod = true → Answers (.broadcastDoneTimeout i n) s (s.setBcast i (b.fail n))))))

/-! ### The Step Gate (R271-R292, R299) -/

/-- Loading a record: one without error takes a slot in LOADING with the job, epoch and policy of the record, one in error leaves
its code in GATE_LOAD and every slot as it was; the load's end makes the slot OPEN where every NME named holds its handle,
and FREE where one does not (R272). STATCLR writes the statistics table anew. The test at TC and the commit point
(R287-R289): the slot enters TEST with its REASON and is on hold where it has one; once the instant 40 us after TC has passed
it commits where it is not on hold (DONE at once without an OPTEN handle), is skipped under policy 2, and is HELD otherwise.
A hold notice in time holds its slot. -/
def Obligations.GateLoadAndCommit : Prop :=
  (∀ (pf : Nat) (v : Word) (s : State), s.regsOk = true → s.slotsOk = true →
    let addr := v.toNat % 2 ^ 48
    let c := (s.setField Reg.gateLoad 0 48 v.toNat).loadCheck addr
    (s.writeRefusal pf Reg.gateLoad = none → v.toNat.testBit 48 = true → s.flag Reg.gateLoad 49 = false →
      (∀ k, c.2.pickSlot = some k → c.1.err = 0 → ∃ t, exec (.gateLoad pf v) s = .next t ∧ t.slotState k = 1 ∧
        t.slotJob k = c.1.header.job % 2 ^ 12 ∧ t.slotEpoch k = c.1.header.epoch % 2 ^ 8 ∧
        t.slotPolicy k = c.1.header.policy % 4 ∧ t.slotStep k = c.1.header.step % 2 ^ 48 ∧
        t.flag Reg.gateLoad 49 = true ∧ t.field Reg.gateLoad 56 8 = 0 ∧ t.field Reg.gateLoad 50 5 = k ∧
        (t.slot k).entries = c.1.entries.map (·.entry)) ∧
      (c.1.err ≠ 0 → c.1.err < 256 → ∃ t, exec (.gateLoad pf v) s = .next t ∧ t.field Reg.gateLoad 56 8 = c.1.err ∧
        t.gate = s.gate ∧ (∀ k, k < 32 → t.slotState k = s.slotState k) ∧ t.cores = s.cores)) ∧
    (∀ k, k < 32 → s.stops 0 = false → s.fab.recs = [] → s.slotState k = 1 → ∃ t, exec (.gateLoadComplete k) s = .next t ∧
      t.slotState k = (if (s.slot k).entries.all s.latched then 2 else 0) ∧ t.flag Reg.gateLoad 49 = false ∧ t.cores = s.cores) ∧
    (s.writeRefusal pf Reg.gateCtl = none → v.toNat.testBit 0 = true →
      Answers (.statclr pf v) s ((s.setField Reg.gateCtl 16 32 (v.toNat / 2 ^ 16 % 2 ^ 32)).statClear))) ∧
  (∀ (k : Nat) (s : State), s.regsOk = true → s.slotsOk = true → s.stops 0 = false → s.fab.recs = [] → s.slotRuns k = true →
    let x := s.slot k
    (s.slotState k = 2 → x.tc ≤ s.nowA → s.gate.markers = [] → (∀ e, e ∈ x.entries → e.decided = true) →
      let reason := (s.setSlotState k 3).reason k
      ∃ t, exec (.commitTest k) s = .next t ∧ t.slotState k = 3 ∧ t.slotReason k = reason ∧
        (t.slot k).hold = (x.hold || reason != 0) ∧ t.cores = s.cores) ∧
    (∀ port vc r, s.head port vc = some r → r.packet.flood = 1 → r.packet.type = tyCtrl → r.packet.sub = 2 →
      s.fab.flood.any (fun f => f.key == Packet.floodKey r.packet) = false → s.arrivalCheck r.packet = none →
      s.slotOf r.packet.job r.packet.epoch (r.packet.ext 0 48) = some k →
      extendStamp r.packet.ts32 (r.stampA / 16) ≤ (x.tc : Int) → r.stampA / 16 ≤ x.tc + 40000 → s.slotState k ∈ [1, 2, 3] →
      ∃ t, exec (.hold port vc) s = .next t ∧ t.slot k = { x with hold := true } ∧ t.slotState k = s.slotState k ∧
        t.cores = s.cores ∧ t.hbm = s.hbm) ∧
    (s.slotState k = 3 → x.tc + 40000 < s.nowA → s.isolated = false →
      (x.hold = false → s.ckpJob ≠ s.slotJob k → ∃ t, exec (.commitPoint k) s = .next t ∧
        t.slotState k = (if x.opten = [] then 5 else 4) ∧
        t.reg Reg.gateCommit = min (s.field Reg.gateCommit 0 48 + 1) (2 ^ 48 - 1) ∧
        Tab.get t.gate.lastStep 0 (s.slotJob k) = s.slotStep k + 1) ∧
      (x.hold = true → s.slotPolicy k = 2 → x.bsemen = false → ∃ t, exec (.commitPoint k) s = .next t ∧ t.slotState k = 7 ∧
        t.reg Reg.gateSkip = min (s.field Reg.gateSkip 0 48 + 1) (2 ^ 48 - 1) ∧ t.cores = s.cores) ∧
      (x.hold = true → s.slotPolicy k ≠ 2 → ∃ t, exec (.commitPoint k) s = .next t ∧ t.slotState k = 6 ∧
        t.reg Reg.gateHold = min (s.field Reg.gateHold 0 48 + 1) (2 ^ 48 - 1) ∧ t.cores = s.cores)))

/-- Markers and releases: a marker of no live slot, or of another job, epoch or step than its handle was armed for, is discarded
and counted, one of an expected class counts for its entry; an entry whose instant has come is decided and released; an NME
whose optimizer run ends is done, one whose forward is acknowledged sends its marker; STAGED is set when every NME of an
OPTEN handle has written its values. Resolutions of a HELD slot (R290), an ABORT that arrives (R347, R348) and the end of a
conversion (R294): COMMIT commits a slot whose OPTEN handles are staged, SKIP skips it, ABORT abandons it; an accepted ABORT
abandons later steps of its job; the converted parameters become a broadcast of this root. No program of the module runs. -/
def Obligations.GateDecisionsAndResolution : Prop :=
  (∀ (s : State), s.regsOk = true → s.slotsOk = true → s.nmesOk = true → s.stops 0 = false → s.fab.recs = [] →
    (∀ m l, s.gate.markers = m :: l →
      (s.markerEntry m = none ∨ (∃ k j e, s.markerEntry m = some (k, j, e) ∧ e.classify s.own.node m = none) →
        Answers .markerReceive s (({ s with gate := { s.gate with markers := l } }).count Reg.gateDiscMark)) ∧
      (∀ k j e c, s.markerEntry m = some (k, j, e) → e.classify s.own.node m = some c → e.decided = false →
        (s.slot k).early (e.mark c m.stamp) = false → ∃ t, exec .markerReceive s = .next t ∧ t.gate.markers = l ∧
          t.slot k = { s.slot k with entries := (s.slot k).entries.set j (e.mark c m.stamp) } ∧ t.cores = s.cores ∧
          t.hbm = s.hbm)) ∧
    (∀ k j e, k < 32 → s.gate.markers = [] → s.slotRuns k = true → (s.slotState k = 2 ∨ s.slotState k = 3) →
      (s.slot k).entries[j]? = some e → e.decided = false → (s.slot k).instant e ≤ s.nowA →
      (∀ sel cmp, let u := ((s.zeroEntry e).releaseEntry e sel cmp).2
        u.gate = s.gate ∧ u.slotState k = s.slotState k ∧ u.fab.recs = [] ∧ u.regsOk = true ∧ u.time = s.time) →
      ∃ t e', exec (.decisionInstant k j) s = .next t ∧ (t.slot k).entries[j]? = some e' ∧ e'.decided = true ∧
        e'.trel = s.nowA) ∧
    (∀ i h a, (s.nme i).find h = some a →
      (a.phase = .optimizing → Answers (.releaseComplete i h) s ((s.setPhase i h .done).entryDone i h)) ∧
      (a.phase = .forwarding → s.forwarded i h = true → ∃ t b, exec (.releaseComplete i h) s = .next t ∧
        t.fab.nextRec = s.fab.nextRec + 1 ∧ (t.nme i).find h = some b ∧ b.phase = .done ∧ t.cores = s.cores)) ∧
    (∀ k j e, s.slotRuns k = true → (s.slotState k = 2 ∨ s.slotState k = 3 ∨ s.slotState k = 6) →
      (s.slot k).entries[j]? = some e → e.opten = true → e.decided = true → e.optLeft = [] → s.staged e.optd = false →
      Answers (.optimizerComplete k j) s (s.setStaged e.optd false true))) ∧
  (∀ (k : Nat) (s : State), s.regsOk = true → s.slotsOk = true → s.stops 0 = false → s.fab.recs = [] → k < 32 →
    s.stops (s.slotJob k) = false → (∀ c, c < 192 → s.coreState c ≠ 2) →
    let x := s.slot k
    (∀ pf, s.writeRefusal pf Reg.gateResolve = none → s.slotState k = 6 →
      (s.ckpJob ≠ s.slotJob k → x.opten.any (fun e => !s.staged e.optd) = false →
        ∃ t, exec (.resolveCommit pf k) s = .next t ∧ t.slotState k = (if x.opten = [] then 5 else 4) ∧
          t.reg Reg.gateCommit = min (s.field Reg.gateCommit 0 48 + 1) (2 ^ 48 - 1)) ∧
      (x.bsemen = false → ∃ t, exec (.resolveSkip pf k) s = .next t ∧ t.slotState k = 7 ∧
        t.reg Reg.gateSkip = min (s.field Reg.gateSkip 0 48 + 1) (2 ^ 48 - 1)) ∧
      (∃ t, exec (.resolveAbort pf k) s = .next t ∧ t.slotState k = 8)) ∧
    (∀ port vc r, s.head port vc = some r → r.packet.flood = 1 → r.packet.type = tyAbort →
      s.fab.flood.any (fun f => f.key == Packet.floodKey r.packet) = false → s.arrivalCheck r.packet = none →
      s.slotState k ∈ [1, 2, 3, 6] → s.slotJob k = r.packet.job → s.slotEpoch k = r.packet.epoch →
      r.packet.ext 0 48 < s.slotStep k → (s.slotState k = 3 → r.stampA / 16 ≤ x.tc + 40000) → ∃ t, exec (.abortReceive port vc) s = .next t ∧ t.slotState k = 8 ∧
        t.reg Reg.rstAbortRx = min (s.field Reg.rstAbortRx 0 48 + 1) (2 ^ 48 - 1)) ∧
    (s.slotState k = 4 → x.converted = false → s.own.children s.own.node s.own.node ≠ [] →
      let s1 := s.setSlot k { x with converted := true }
      let q := x.opten.foldl (fun (a : List (Nat × Nat) × State) e =>
        let r := a.2.convertEntry k e
        (a.1 ++ r.1, r.2)) ([], s1)
      q.2.fab.recs = [] → q.2.gate = s1.gate → ∃ t b, exec (.conversionComplete k) s = .next t ∧ t.gate.bcasts = s.gate.bcasts ++ [b] ∧
        b.slot = some k ∧ b.isRoot = true ∧ b.root = s.own.node ∧ b.npkt = (convRanges q.1).length ∧
        (t.slot k).converted = true))

/-! ### NME command rings and readings (R159, R160, R168, R177, R181, R189-R195) -/

/-- The check of a ring command as its NME takes it from the found commands, with STATE 4 written. -/
def ringStart (s : State) (i : Nat) (c : RingCmd) : Nat × Found2 × State :=
  let m := s.nme i
  let u := s.setNme i { m with found := m.found.filter (fun d => d.index != c.index) }
  (u.entryState i c.index (s.ringAddr i c.index) 4).ringErr i c

/-- The next command of an NME's ring is c of an operation, and no order of R195 stops it. -/
def ringReady (s : State) (i : Nat) (c : RingCmd) (op : Nat) : Prop :=
  i < 32 ∧ s.stops 0 = false ∧ s.fab.recs = [] ∧ (s.nme i).running = true ∧ (s.region 3 i).running = true ∧ (s.nme i).run = none ∧
  s.ringNext i = some c ∧
  c.op = op ∧ (ringStart s i c).1 = 0

/-- A ring command whose checks pass and whose reads succeed has its effect and is in progress with its RESULT: ARM arms the handle
with nothing zeroed yet, DISARM leaves it unarmed, CVTW and CKCVT convert the lanes of the NME, CBWARM and CBWEND begin and end a
bank's protection, HASH and SCRUBNOW go over their range, ZERO writes zeros. -/
def Obligations.RingCommands : Prop :=
  ∀ (i : Nat) (c : RingCmd) (s : State), s.nmesOk = true →
    let e := ringStart s i c
    let u := e.2.2
    let f := e.2.1
    let runs (x : Instr) (n : Nat) (p : State → Prop) : Prop :=
      ∃ t, exec x s = .next t ∧ (t.nme i).run = some ⟨c, n, 0⟩ ∧ t.cores = s.cores ∧ p t
    (ringReady s i c 1 → runs (.arm i) 0 (fun t => ∃ a, a ∈ (t.nme i).armed ∧ a.desc = f.desc ∧ a.zeroed = 0 ∧
      a.phase = .unreleased)) ∧
    (ringReady s i c 2 → runs (.disarm i) 0 (fun t => (t.nme i).find c.handle = none)) ∧
    (∀ v o r, ringReady s i c 3 → Conv.ofWords (c.opnd 2) (c.opnd 3) = some v → f.opt = some o →
      u.cvtw v f.desc o (c.opnd 1) i = (none, r) → runs (.cvtw i) (f.desc.lanesOf i).length (fun t => t.hbm = r.hbm)) ∧
    (∀ o r, ringReady s i c 4 → f.opt = some o →
      u.ckcvt f.desc o.alg (bit (c.opnd 0) 16) i (o.bank f.desc i (u.sweepBank i c.handle o)) (i / 4 * 2 ^ 39 + c.opnd 1) =
        (none, r) → runs (.ckcvt i) (f.desc.lanesOf i).length (fun t => t.hbm = r.hbm)) ∧
    (∀ o, ringReady s i c 5 → f.opt = some o → runs (.cbwarm i) (o.bankGranules f.desc) (fun t =>
      ∃ x, x ∈ (t.nme i).cbw ∧ x.handle = c.handle ∧ x.bank = bit (c.opnd 0) 16 ∧ x.size = o.bankBytes f.desc ∧
        x.snap = i / 4 * 2 ^ 39 + c.opnd 1 ∧ x.marks = [])) ∧
    (ringReady s i c 6 → runs (.cbwend i) 0 (fun t => ∀ x, x ∈ (t.nme i).cbw → x.handle ≠ c.handle)) ∧
    (∀ r, ringReady s i c 7 → u.hash i (c.opnd 0) (c.opnd 2) (List.range (c.opnd 1 / granule)) = (none, r) →
      runs (.hash i) (c.opnd 1 / granule) (fun t => t.hbm = r.hbm)) ∧
    (∀ n r, ringReady s i c 8 → u.patrol i (pieces (c.opnd 0) (c.opnd 1)) 0 = ⟨none, n, r⟩ →
      runs (.scrubnow i) n (fun t => t.hbm = r.hbm ∧ t.ecc = r.ecc)) ∧
    (ringReady s i c 9 → runs (.zero i) 0 (fun t => t.hbm =
      ((pieces (c.opnd 0) (c.opnd 1)).foldl (fun s p => s.memWrite p.1 (List.replicate p.2 0)) u).hbm))

/-- A ring's scan finds a command the host has entered and moves SCANS on; a command's end writes RESULT and STATE into its
entry, counts a late one and leaves the NME free. What an NME reads of its stack: the patrol handles its next line and moves
on, the temperature is shown in whole degrees from 0 to 255, the on-die error counts are recorded, and a write of
NME_WSPILL_BASE places the spill table. -/
def Obligations.RingsAndReadings : Prop :=
  (∀ (i : Nat) (s : State), i < 32 → s.stops 0 = false → s.regsOk = true → s.nmesOk = true → (s.nme i).running = true →
    (∀ l : List Byte, s.serving = true → (s.region 3 i).running = true → s.tableEntries (Reg.nmeCqCtl i) = 1 → (s.nme i).lastScan ≠ s.scanTick →
      (s.nme i).found = [] → (s.nme i).run = none → s.backed (s.ringAddr i 0) 64 = true →
      s.memRead (s.ringAddr i 0) 64 = (l, none, s) →
      let c := RingCmd.ofBytes 0 s.nowA l
      let entered := bits (wordAt l 0) 0 4 = 1
      (entered → c.bad (wordAt l 0) = false ∧ c.start ≤ s.nowA + 2 ^ 36) →
      ∃ t, exec (.nmeRingScan i) s = .next t ∧ (t.nme i).found = (if entered then [c] else []) ∧
        (t.nme i).lastScan = s.scanTick ∧
        t.field (Reg.nmeCqStat i) 0 32 = (s.field (Reg.nmeCqStat i) 0 32 + 1) % 2 ^ 32 ∧ t.cores = s.cores ∧ t.hbm = s.hbm) ∧
    (∀ r, (s.nme i).run = some r → r.cmd.semEn = false →
      let c := r.cmd
      let a := s.ringAddr i c.index
      ∃ t, exec (.nmeCommandComplete i) s = .next t ∧ (t.nme i).run = none ∧ t.cores = s.cores ∧
        t.hbm = ((s.entryWrite i c.index a 0x38 (r.err + r.result % 2 ^ 56 * 256)).entryState i c.index a
          (if c.late then 2 else 1)).hbm ∧
        t.field (Reg.nmeCqStat i) 32 16 = min (s.field (Reg.nmeCqStat i) 32 16 + b2n c.late) (2 ^ 16 - 1))) ∧
  (∀ (i : Nat) (s : State), i < 32 → s.stops 0 = false → s.regsOk = true → s.nmesOk = true →
    ((s.nme i).running = true → s.flag (Reg.nmeCtl i) 0 = true → (s.nme i).scrubPtr + 1 < 2 ^ 31 →
      let line := i * 2 ^ 31 + (s.nme i).scrubPtr
      let wide := { s.nme i with scrubPtr := (s.nme i).scrubPtr + 1 }
      (s.lineErrs line = 0 → s.linePoison line = false → Answers (.scrubRead i 0) s
        ((s.count (Reg.nmeScrubLines i)).setNme i wide)) ∧
      (s.linePoison line = false → Tab.wf (fun _ => (0 : Nat)) s.ecc = true → ∃ t, exec (.scrubRead i 1) s = .next t ∧ t.hbm = s.hbm ∧ t.lineErrs line = 0 ∧
        t.linePoison line = false ∧ (t.nme i).scrubPtr = (s.nme i).scrubPtr + 1 ∧
        t.reg (Reg.nmeScrubLines i) = min (s.field (Reg.nmeScrubLines i) 0 48 + 1) (2 ^ 48 - 1))) ∧
    (∀ x : Int, Answers (.hbmTempSample i x) s (s.setField (Reg.nmeStat i) 8 8 (max 0 (min x 255)).toNat)) ∧
    (∀ n, n ≠ 0 → s.recorder.raised = [] → s.heldByFreeze s.nowA = false → s.recorder.clearing = false →
      s.recorder.store.length < 65000 → s.recorder.staged < 4000 → ∃ t r, exec (.ecsCountRead i n) s = .next t ∧
        r ∈ t.recorder.store ∧ r.event.code = 0x6002 ∧ r.event.skind = 3 ∧ r.event.sidx = i ∧ r.event.stamp = s.nowA ∧
        t.cores = s.cores ∧ t.hbm = s.hbm) ∧
    (∀ (pf : Nat) (v : Word), s.writeRefusal pf (Reg.nmeWspill i) = none → ∃ t, exec (.nmeWspillBaseWrite pf i v) s = .next t ∧
      t.reg (Reg.nmeWspill i) = v.toNat % 2 ^ 48 ∧ t.cores = s.cores ∧ t.hbm = s.hbm ∧
      (∀ j, bookKey j = false → j ≠ Reg.nmeWspill i → j ≠ Reg.nmeStat i → t.reg j = s.reg j)))

/-! ### The Groomer (R305-R318, R324-R329) -/

/-- The Groomer starts a section of its package where one falls due on an IDLE core that nothing else claims: the core runs in a
screening package from the parts image, its MISR zero. Without a package the timer only marks the core. The end of a QUICK
run (R304, R305, R312): its program at END, with the MISR its section names and in time, it passes, the core's state is
restored and nothing is due; with another MISR or past its limit it fails, and the core is SUSPECT. -/
def Obligations.Screens : Prop :=
  (∀ (p : Nat) (s : State), p < 200 → s.stops 0 = false → s.flag Reg.grmCtl 0 = true → s.grmUsable p = true →
    let due (x : Instr) (b kind : Nat) (why : RunFor) (s1 : State) : Prop :=
      (s.grm.package = none → s.grm.staged = none → Answers x s (s1.setDue p (s.due p ||| b))) ∧
      (∀ k sec c, s.grm.package = some k → s.grm.staged = none → k.find kind 0 0 = some sec → s.logicalOf p = some c →
        s.physOf c = some p → s.coresOk = true → s.coreState c = 0 → s.due p = 0 → Tab.find s.grm.runs p = none →
        Tab.find s.grm.classify p = none → s.fullDue p = false → s.recovering c = false → s.wanted c = false →
        ∃ t r, exec x s = .next t ∧ Tab.find t.grm.runs p = some r ∧ r.part = sec ∧ r.why = why ∧
          r.saved = some (s.core c) ∧ (t.core c).package = true ∧ (t.core c).misr = 0 ∧
          (t.core c).pc = (s.field Reg.grmPkgBase 0 48 + sec.imoff) % 2 ^ 48)
    (Tab.get s.grm.quickAt 0 p + s.quickPeriod ≤ s.time.count → due (.quickScreenTimer p) 1 1 .quick
      { s with grm := { s.grm with quickAt := Tab.put s.grm.quickAt 0 p s.time.count } }) ∧
    (Tab.get s.grm.hbAt 0 p + s.hbPeriod ≤ s.time.count → due (.hbTimer p) 2 0 .heartbeat
      { s with grm := { s.grm with hbAt := Tab.put s.grm.hbAt 0 p s.time.count } })) ∧
  (∀ (p c : Nat) (r : SectionRun) (k : Core) (s : State), p < 200 → c < 192 → s.stops 0 = false → s.regsOk = true → s.coresOk = true →
    s.grm.runs.keys.Pairwise (· < ·) → Tab.wf (fun _ => (0 : Nat)) s.grm.due = true → Tab.find s.grm.runs p = some r →
    r.why = .quick → r.atSyld = false → r.saved = some k → s.logicalOf p = some c → s.physOf c = some p → s.coreState c = 0 →
    s.due p = 1 → Tab.find s.grm.classify p = none → s.fullDue p = false →
    let ended := (s.core c).wait = .ended ∧ (s.core c).fenceClear 0x1E = true
    let fails (x : Instr) : Prop := (s.grmState p = 0 ∨ s.grmState p = 3) → s.corrLive (p / 25) = [] →
      s.grm.package = none → s.grm.staged = none → ∃ t, exec x s = .next t ∧ Tab.find t.grm.runs p = none ∧ t.grmState p = 1 ∧
        t.field (Reg.grmCore p) 13 4 = 4 ∧ t.core c = (s.core c).restored k r.part ∧
        t.reg Reg.grmScreenFail = min (s.field Reg.grmScreenFail 0 48 + 1) (2 ^ 48 - 1)
    (s.overdue p r = false → ended → (s.core c).misr.toNat = r.part.misr → ∃ t, exec (.sectionRunComplete p 0) s = .next t ∧
      Tab.find t.grm.runs p = none ∧ t.due p = 0 ∧ t.core c = (s.core c).restored k r.part ∧ t.grmState p = s.grmState p ∧
      t.reg Reg.grmScreens = min (s.field Reg.grmScreens 0 48 + 1) (2 ^ 48 - 1) ∧
      t.reg Reg.grmScreenFail = s.reg Reg.grmScreenFail) ∧
    (ended → (s.core c).misr.toNat ≠ r.part.misr ∨ s.overdue p r = true → fails (.sectionRunComplete p 0)) ∧
    (s.overdue p r = true → fails (.sectionTimeout p)))

/-- Samples and windows (R307, R310, R317, R325): the pass run again on core Y, on an operand that tells which bits of its digest
the hardware got wrong, frees the slot where the digest agrees, and goes on to core Z, counted, where it differs; after 60 s
a sample that found nothing is dropped and counted; a transient leaves its window, and charges of a tile older than CORRW
leave the correlation. Commands of the Groomer (R308, R324, R329): SCREEN and MODSCREEN begin on their cores with BUSY set,
RCMP where its handle and areas check, and else ends with its ERR; the end of a SCREEN or MODSCREEN gives RESULT 1 or, with a
failing core, 3, and a MODSCREEN without one sets MODSUSP; a write of GRM_PROB clears it. -/
def Obligations.SamplesAndCommands : Prop :=
  (∀ (s : State), s.stops 0 = false → s.regsOk = true →
    (∀ tile k x y (w : Word) d, tile < 8 → k < 16 → Tab.find s.grm.samples (16 * tile + k) = some x → x.phase = .onY →
      s.pickCore [x.x / 25] = some y → s.groomFree y = true → d = passDigest x.run ^^^ w.toNat →
      (d = x.digestX → Answers (.sampleReexecComplete tile k w) s ((s.reexecuted y).freeSample (16 * tile + k))) ∧
      (d ≠ x.digestX → ∃ t, exec (.sampleReexecComplete tile k w) s = .next t ∧
        Tab.find t.grm.samples (16 * tile + k) = some { x with y := y, digestY := d, phase := .onZ, takenAt := s.time.count } ∧
        t.reg Reg.grmSampleMism = min (s.field Reg.grmSampleMism 0 48 + 1) (2 ^ 48 - 1))) ∧
    (∀ tile k x, Tab.find s.grm.samples (16 * tile + k) = some x → (x.phase = .onX ∨ x.phase = .onY) →
      x.takenAt + 60000000000 ≤ s.time.count → Answers (.sampleTimeout tile k) s
        ((s.count Reg.grmSampleSkip).freeSample (16 * tile + k))) ∧
    (∀ p a l, Tab.get s.grm.transients [] p = a :: l → a + s.twin ≤ s.time.count → Answers (.transientExpire p) s
      (({ s with grm := { s.grm with transients := Tab.put s.grm.transients [] p l } }).setField (Reg.grmCore p) 17 8
        (min 255 l.length))) ∧
    (∀ n, (s.corrLive n).length < (Tab.get s.grm.window [] n).length →
      Answers (.tileCorrWindowExpire n) s { s with grm := { s.grm with window := Tab.put s.grm.window [] n (s.corrLive n) } }) ∧
    (∀ n e, e ∈ s.corrLive n ↔ (e ∈ Tab.get s.grm.window [] n ∧ s.time.count ≤ e.2.2.2 + 1000 * s.field Reg.grmCtl 51 10))) ∧
  (∀ (pf : Nat) (v : Word) (s : State), s.regsOk = true → s.stops 0 = false →
    (s.writeRefusal pf Reg.grmCmd = none → v.toNat.testBit 28 = true → s.flag Reg.grmCmd 29 = false →
      (s.grmUsable (v.toNat / 16 % 256) = true → v.toNat / 16 % 256 < 200 → ∃ t m, exec (.screen pf v) s = .next t ∧
        t.reg Reg.grmCmd = 2 ^ 29 ∧ t.grm.cmd = some m ∧ m.op = 1 ∧ m.cores = [v.toNat / 16 % 256]) ∧
      (∃ t m, exec (.modscreen pf v) s = .next t ∧ t.reg Reg.grmCmd = 2 ^ 29 ∧ t.grm.cmd = some m ∧ m.op = 2 ∧
        m.cores = (List.range 200).filter s.grmUsable) ∧
      (let e := s.rcmpErr (v.toNat / 2 ^ 12 % 2 ^ 16) (s.field Reg.grmCmdArg 0 39)
       (e = 0 → ∃ t m, exec (.rcmp pf v) s = .next t ∧ t.reg Reg.grmCmd = 2 ^ 29 ∧ t.grm.cmd = some m ∧ m.op = 3 ∧
         m.handle = v.toNat / 2 ^ 12 % 2 ^ 16) ∧
       (e ≠ 0 → Answers (.rcmp pf v) s
         { s.setReg Reg.grmCmd (e % 256 * 2 ^ 33) with grm := { s.grm with cmd := none } }))) ∧
    (∀ m, s.grm.cmd = some m → m.cores = [] → (m.op = 1 ∨ m.op = 2) → ∃ t, exec .grmCmdComplete s = .next t ∧
      t.grm.cmd = none ∧ t.reg Reg.grmCmd = (if m.failed then 3 else 1) * 2 ^ 30 ∧
      t.flag Reg.grmStat 19 = (s.flag Reg.grmStat 19 || (m.op == 2 && !m.failed)) ∧ t.cores = s.cores ∧ t.hbm = s.hbm) ∧
    (s.writeRefusal pf Reg.grmProb = none → ∃ t, exec (.grmProbWrite pf v) s = .next t ∧
      t.reg Reg.grmProb = v.toNat % 2 ^ 14 ∧ t.flag Reg.grmStat 19 = false ∧ t.cores = s.cores ∧ t.hbm = s.hbm))

/-! ### Recovery (R332-R361) -/

/-- The recovery queue of t holds an entry for a domain, its unit and cause, in capture; BUSY is set. -/
def entered (t : State) (d u cause : Nat) : Prop :=
  ∃ q, q < 8 ∧ t.flag (Reg.rstRecqA q) 0 = true ∧ t.recDomain q = d ∧ t.recUnit q = u ∧ t.recCause q = cause ∧
    t.recState q = 1 ∧ t.flag Reg.rstStat 0 = true

/-- Watchdogs, internal errors and requests (R333, R336, R354, R358): each puts its domain into the empty recovery queue with its cause,
and its capture begins; a watchdog only where the unit has made no progress for its limit. The program concerned has had its ABORT, or none is concerned. -/
def Obligations.FaultsEnterRecovery : Prop :=
  ∀ (s : State), s.regsOk = true → s.recLive = [] → s.rst.ended = [] → s.stops 0 = false → s.flag Reg.rstCtl 1 = true →
    (∀ c, s.coreWatched c = true → (s.core c).ctx.job ≠ 0 → s.stops (s.core c).ctx.job = false →
      s.rst.sent.contains ((s.core c).ctx.job, (s.core c).ctx.epoch, (s.core c).ctx.step) = true →
      (∀ e, e < 4 → (s.core c).engineBusy e = true → (e = 0 → s.queueStalled c = false) →
        s.expired (4 * c + e) (s.field Reg.rstCtl 2 10) = true → ∃ t, exec (.progressWatchdog c e) s = .next t ∧
        entered t 0 (4 * c + e) 0x30 ∧ t.cores = s.cores) ∧
      (s.waitOverdue c = true → ∃ t, exec (.waitWatchdog c) s = .next t ∧ entered t 1 c 0x31 ∧ t.cores = s.cores)) ∧
    (∀ i, i < 32 → s.watching = true → (s.nme i).running = true → (s.nme i).busy = true → (s.nme i).armed = [] →
      s.expired (0x1000 + i) (s.field Reg.rstCtl 24 8) = true → ∃ t, exec (.nmeWatchdog i) s = .next t ∧ entered t 5 i 0x32 ∧ t.cores = s.cores) ∧
    (∀ f, f < 2 → s.tileUp f = true →
      (s.watching = true → s.tileHolds f = true → s.expired (0x2000 + f) (s.field Reg.rstCtl 32 8) = true →
        ∃ t, exec (.fabricTileWatchdog f) s = .next t ∧ entered t 4 f 0x33 ∧ t.cores = s.cores) ∧
      (∃ t, exec (.fabricTileInternalError f) s = .next t ∧ entered t 4 f 0x34 ∧ t.cores = s.cores)) ∧
    (∀ (pf d u : Nat) (v : Word), s.writeRefusal pf Reg.rstReq = none → d ∈ [0, 1, 2, 3, 5] → u < unitsOf d →
      v.toNat = d + u * 8 + 2 ^ 14 → ∃ t, exec (.rstReq pf v) s = .next t ∧ entered t d u 0x38 ∧ t.cores = s.cores)

/-- A reset runs its course (R332-R335, R339, R343): the end of the capture of an engine's entry starts its reset and puts the
core in RESET, the drain window closes with what it dropped counted, the end of the reset returns the core to IDLE and
empties the queue; a debug port that does not answer is noted, and the wait-for graph is written behind its dump. Fabric
tiles, isolation trials and NMEs in reset (R233, R334, R353): a withdrawn tile enters reset 2,000 ns after T, behind its
capture where captures are on, an isolation trial is set up and shown in RST_STAT, and a packet that waited for an NME in
reset is judged against its disarmed handles. -/
def Obligations.Resets : Prop :=
  (∀ (q : Nat) (s : State), q < 8 → s.regsOk = true → Tab.wf (fun _ => Recovery.fresh) s.rst.entries = true → s.stops 0 = false →
    s.flag (Reg.rstRecqA q) 0 = true →
    (∀ u, s.recState q = 1 → (s.recEntry q).captured = false → s.recDomain q = 0 → s.recUnit q = u → u < 768 →
      (s.recEntry q).nmes = [] → s.coreState (u / 4) ≠ 2 → s.coreState (u / 4) ≠ 5 →
      ∃ t, exec (.captureComplete q) s = .next t ∧ t.recState q = 2 ∧ t.coreState (u / 4) = 4 ∧
        (t.recEntry q).drainOpen = true ∧ (t.recEntry q).captured = true ∧ (t.recEntry q).startedAt = s.time.count) ∧
    (∀ n, s.recState q = 2 → (s.recEntry q).drainOpen = true → (s.recEntry q).startedAt + 2000 ≤ s.time.count →
      ∃ t, exec (.drainWindowClose q n) s = .next t ∧ (t.recEntry q).drainOpen = false ∧
        t.reg Reg.rstDrainDrop = min (s.field Reg.rstDrainDrop 0 48 + n) (2 ^ 48 - 1) ∧ t.cores = s.cores ∧ t.hbm = s.hbm) ∧
    (∀ n u, s.recState q = 2 → (s.recEntry q).startedAt + 2000 ≤ s.time.count → s.recDomain q = 0 → s.recUnit q = u → u < 768 →
      (s.recEntry q).nmes = [] → s.recLive = [q] → s.fab.recs = [] → s.coreState (u / 4) = 4 → groomerQuiet s (u / 4) →
      ∃ t, exec (.resetComplete q n) s = .next t ∧ t.recState q = 3 ∧ t.coreState (u / 4) = 0 ∧ t.flag Reg.rstStat 0 = false ∧
        t.field Reg.rstStat 1 4 = 0 ∧ t.reg Reg.rstResets = min (s.field Reg.rstResets 0 48 + 1) (2 ^ 48 - 1) ∧
        t.reg Reg.rstAbsorb = min (s.field Reg.rstAbsorb 0 48 + n) (2 ^ 48 - 1)) ∧
    (∀ part r, s.recState q = 1 → (s.recEntry q).captured = false → (s.recEntry q).records[part]? = some r → r.body ≠ .missing →
      ∃ t, exec (.debugPortTimeout q part) s = .next t ∧
        (t.recEntry q).records = (s.recEntry q).records.set part { r with body := .missing, waits := [] } ∧
        t.reg Reg.rstNotcap = min (s.field Reg.rstNotcap 0 48 + 1) (2 ^ 48 - 1) ∧ t.cores = s.cores ∧ t.hbm = s.hbm) ∧
    (∀ k d, Tab.find s.rst.dumps k = some d → d.off3 = 0 → d.complete = false → ∃ t, exec (.waitForGraphBuilt k) s = .next t ∧
      Tab.find t.rst.dumps k = some { d with off3 := d.len, len := d.len + d.graphBytes.length } ∧ t.cores = s.cores)) ∧
  (∀ (s : State), s.regsOk = true → s.stops 0 = false →
    (∀ f, f < 2 → s.withdrawn f = true → s.host.offlineT = none → s.recLive = [] → ∃ t q, exec (.withdrawReset f) s = .next t ∧
      q < 8 ∧ t.flag (Reg.rstRecqA q) 0 = true ∧ t.recDomain q = 4 ∧ t.recUnit q = f ∧ t.cores = s.cores ∧ t.hbm = s.hbm ∧
      t.recState q = (if s.flag Reg.rstCtl 1 then 1 else 2) ∧
      (s.flag Reg.rstCtl 1 = false → t.tileUp f = false ∧ t.flag Reg.rstStat (18 + f) = true)) ∧
    (∀ f q, f < 2 → q < 8 → s.withdrawn f = true → s.host.offlineT = none → s.plannedOf f = some q → (s.recEntry q).captured = true →
      (s.recEntry q).nmes = [] → ∃ t, exec (.withdrawReset f) s = .next t ∧ t.recState q = 2 ∧ t.tileUp f = false ∧
        t.flag Reg.rstStat (18 + f) = true ∧ t.cores = s.cores ∧ t.hbm = s.hbm) ∧
    (∀ (pf : Nat) (v : Word), s.writeRefusal pf Reg.rstIsol = none → ∃ t, exec (.rstIsolWrite pf v) s = .next t ∧
      t.field Reg.rstIsol 0 42 = v.toNat % 2 ^ 42 ∧ t.flag Reg.rstIsol 42 = (s.flag Reg.rstIsol 42 && !v.toNat.testBit 42) ∧
      t.flag Reg.rstStat 6 = v.toNat.testBit 0 ∧ t.cores = s.cores ∧ t.hbm = s.hbm) ∧
    (∀ i q h, s.nmesOk = true → i < 32 → q < 8 → s.flag (Reg.rstRecqA q) 0 = true → s.recState q = 2 → s.recDomain q = 5 →
      s.recUnit q = i → (s.recEntry q).startedAt + 50000 ≤ s.time.count → s.fab.recs = [] → s.field Reg.fabE2e 16 8 ≠ 0 →
      s.fab.acks = [] → (s.nme i).running = false → (s.nme i).windows = [] → (s.nme i).spilled = [] → (s.nme i).armed = [] →
      (s.nme i).waiting = [h] → h.dedup = false → h.viaPort = true → h.packet.type = tyAcc →
      ∃ t, exec (.nmeAbsorbTimeout i) s = .next t ∧ (t.nme i).waiting = [] ∧
        t.fab.acks = [⟨h.packet.src, h.packet.job, h.packet.epoch, h.packet.seq, 0, [(h.packet.seq, 1)], s.time.count⟩] ∧
        t.reg (Reg.nmeDiscHandle i) = min (s.field (Reg.nmeDiscHandle i) 0 48 + 1) (2 ^ 48 - 1) ∧ t.cores = s.cores ∧
        t.hbm = s.hbm))

/-! ### Fabric time (R243-R265) -/

/-- A link-local message given to a port with none waiting (R219): it joins the port's output queue and takes its flits' credits where
the link partner has room for it, and waits for credits otherwise. -/
def SendsLink (x y : Port) (m : Packet) : Prop :=
  x.linkq = [] →
    (flitsIn m ≤ (x.credits[m.vc]?).getD 0 → y.outq = x.outq ++ [⟨m, none⟩] ∧ y.linkq = [] ∧
      y.credits = x.credits.modify m.vc (fun n => n - flitsIn m)) ∧
    ((x.credits[m.vc]?).getD 0 < flitsIn m → y.outq = x.outq ∧ y.linkq = [m] ∧ y.credits = x.credits)

/-- The parameters of a domain change as R245, R246, R256 and R268 say: a SET gives it a value at this count and clears its slew (not one
given in this same count), or is
refused and counted; a rate re-bases it without a jump; a slew replaces what remained; ROLE gives it a state; a step point moves 1 ns of
slew into BASE. -/
def Obligations.TimeParameters : Prop :=
  ∀ (pf : Nat) (b : Bool) (v : Word) (s : State), s.regsOk = true →
    let d := s.domain b
    let held (t : State) : Prop := t.domain (!b) = s.domain (!b) ∧ t.time.count = s.time.count ∧ t.hbm = s.hbm ∧ t.fab = s.fab
    (s.writeRefusal pf (Reg.timeSet b) = none →
      let refused := (!b && s.anyPiste) || (b && s.time.switch.isSome)
      (refused = false → ∃ t, exec (.timeSetWrite pf b v) s = .next t ∧ held t ∧
        t.domain b = { d with base := v.toNat, cref := s.time.count, slew := (if d.slewAt = s.time.count then d.slew else 0), least := none } ∧
        (s.time.switch = none → t.nowD b = v.toNat) ∧
        (∀ c, (b = true ∨ ((∀ x n th start limit began, (s.core c).wait ≠ .sem x n th start limit began) ∧
          ∀ x start began, (s.core c).wait ≠ .fence x start began)) → t.core c = s.core c)) ∧
      (refused = true → ∃ t, exec (.timeSetWrite pf b v) s = .next t ∧ held t ∧ t.domain b = d ∧ t.cores = s.cores ∧
        t.reg Reg.timeSetRefused = min (s.field Reg.timeSetRefused 0 48 + 1) (2 ^ 48 - 1))) ∧
    (s.writeRefusal pf (Reg.timeRate b) = none →
      (s.follows b = true → Answers (.timeRateWrite pf b v) s s) ∧
      (s.follows b = false → s.time.switch = none → ∃ t, exec (.timeRateWrite pf b v) s = .next t ∧ held t ∧ t.cores = s.cores ∧
        t.domain b = { d with base := s.nowD b, cref := s.time.count, rate := signed (v.toNat % 2 ^ 32) 32 } ∧
        (s.nowD b < 2 ^ 64 → t.nowD b = s.nowD b))) ∧
    (s.writeRefusal pf (Reg.timeSlew b) = none →
      ((s.follows b = true ∨ s.time.switch.isSome = true) → Answers (.timeSlewWrite pf b v) s s) ∧
      (s.follows b = false → s.time.switch = none → Answers (.timeSlewWrite pf b v) s
        (s.setDomain b { d with slew := signed (v.toNat % 2 ^ 32) 32, slewAt := s.time.count, slewSteps := 0 }))) ∧
    (s.writeRefusal pf (Reg.timeCfg b) = none → s.time.switch = none → ∃ t, exec (.timeCfgWrite pf b v) s = .next t ∧
      t.domain (!b) = s.domain (!b) ∧ t.cores = s.cores ∧ t.hbm = s.hbm ∧ t.reg (Reg.timeCfg b) = v.toNat % 2 ^ 25 ∧
      (v.toNat % 4 = 0 ∨ v.toNat % 4 = 3 → t.timeState b = tsFree) ∧
      (v.toNat % 4 = 1 → t.timeState b = if s.timeState b = tsFree ∨ s.timeState b = tsMaster then tsAcquire else s.timeState b) ∧
      (v.toNat % 4 = 2 → t.timeState b = tsMaster ∧ (s.own.node < 2 ^ 15 → t.grandmaster b = s.own.node) ∧ (t.domain b).steps = 0)) ∧
    (d.slew ≠ 0 → d.slewAt + 4096 * (d.slewSteps + 1) ≤ s.time.count →
      (0 < d.slew → Answers (.slewStep b) s
        (s.setDomain b { d with base := (d.base + 1) % 2 ^ 64, slew := d.slew - 1, slewSteps := d.slewSteps + 1 })) ∧
      (d.slew < 0 → 0 < s.time.count → d.formula (s.time.count - 1) < d.formula s.time.count → Answers (.slewStep b) s
        (s.setDomain b { d with base := (d.base + (2 ^ 64 - 1)) % 2 ^ 64, slew := d.slew + 1, slewSteps := d.slewSteps + 1 })))

/-- Time messages (R251-R257): a link-local one whose number is of neither domain is counted and dropped; a Sync waits for its Follow_Up and
the Follow_Up completes it: TIME_PMEAS takes the offset, and a domain that follows the port takes it in TIME_OFFS and, LOCKED and in
range, gives it to the servo; a Pdelay_Req is answered with its receipt stamp; an exchange completes with its mean delay; an
Announce of the parent gives its grandmaster, and a changed one ends LOCKED. -/
def Obligations.TimeMessages : Prop :=
  ∀ (port vc : Nat) (r : RxPacket) (s : State), s.regsOk = true → s.portsOk = true → Tab.wf (fun _ => TimePort.reset) s.time.ports = true →
    port < 12 → s.head port vc = some r → r.packet.type = tyCtrl → r.packet.linkLocal = true →
    let p := r.packet
    let num := p.ext 4 8
    let seqid := p.ext 12 16
    let tp := s.timePort port
    let ok := num = s.domNum false ∨ num = s.domNum true
    let gone (t : State) : Prop := t.port port = (s.popHead port vc).port port
    let w : TimeWait := ⟨num, seqid, r.stampA, r.stampB, s.time.count⟩
    let f : TimeFollow := ⟨num, seqid, timeOrigin p, s.time.count⟩
    (∀ x, x ∈ [(Instr.sync port vc, 0x10), (.followUp port vc, 0x11), (.pdelayReq port vc, 0x12), (.pdelayResp port vc, 0x13),
        (.pdelayRespFollowUp port vc, 0x14), (.announce port vc, 0x15)] → p.sub = x.2 → ¬ ok →
      Answers x.1 s ((s.popHead port vc).count Reg.timeDiscDom)) ∧
    (p.sub = 0x10 → ok → (∀ g, g ∈ tp.follows → ¬ (g.domnum = num ∧ g.seqid = seqid)) →
      Answers (.sync port vc) s ((s.popHead port vc).setTimePort port
        { tp with syncs := tp.syncs.filter (fun x => x.domnum != num) ++ [w] })) ∧
    (p.sub = 0x11 → ok → (∀ y, y ∈ tp.syncs → ¬ (y.domnum = num ∧ y.seqid = seqid)) →
      Answers (.followUp port vc) s ((s.popHead port vc).setTimePort port
        { tp with follows := tp.follows ++ [f] })) ∧
    (∀ (y : TimeWait) (b : Bool), p.sub = 0x11 → tp.syncs = [y] → y.domnum = num → y.seqid = seqid → num = s.domNum b →
      num ≠ s.domNum (!b) → s.time.switch = none →
      let o : Int := (if b then y.stampB else y.stampA) - (timeOrigin p + (s.field (Reg.timePmeas port) 0 24 : Nat))
      let span := timeOrigin p - (s.domain b).lastT1
      ∃ t, exec (.followUp port vc) s = .next t ∧ gone t ∧ (t.timePort port).syncs = [] ∧ t.hbm = s.hbm ∧
        (s.flag Reg.timeCtl 20 = b → t.flag (Reg.timePmeas port) 49 = true ∧
          t.field (Reg.timePmeas port) 24 24 = (saturate 24 o % (2 : Int) ^ 24).toNat) ∧
        (s.follows b = true → s.parentPort b = some port → (t.domain b).lastSync = s.time.count ∧
          t.field (Reg.timeOffs b) 32 16 = seqid % 2 ^ 16 ∧
          (saturate 32 o = o → t.field (Reg.timeOffs b) 0 32 = (o % (2 : Int) ^ 32).toNat) ∧
          (s.timeState b = tsLocked → o.natAbs ≤ 16000 → span ≠ 0 → t.timeState b = tsLocked ∧
            (t.domain b).slew = -roundDiv o 16 ∧ (t.domain b).lastT1 = timeOrigin p ∧
            (t.domain b).rate =
              saturate 32 ((s.domain b).rate - roundDiv (o * 2 ^ 40) (span * 2 ^ s.field Reg.timeCtl 9 3))))) ∧
    (p.sub = 0x12 → ok →
      let at' : Int := if num = s.domNum false then r.stampA else r.stampB
      ∃ t, exec (.pdelayReq port vc) s = .next t ∧ t.time = s.time ∧ t.hbm = s.hbm ∧
        SendsLink (s.port port) (t.port port) (s.timeMessage 0x13 num seqid
          (timeStamp at' ++ [(448, 15, p.src), (463, 4, port / 6 * 6 + (port % 6 ^^^ 1))]))) ∧
    (∀ x, ok → s.answers port p = some x →
      let done (c : Instr) (t1 t2 t3 t4 : Int) : Prop :=
        ∃ t, exec c s = .next t ∧ gone t ∧ (t.timePort port).pds = tp.pds.filter (fun y => y.seq != x.seq) ∧
          t.flag (Reg.timePmeas port) 48 = true ∧ t.hbm = s.hbm ∧
          (((t4 - t1) - (t3 - t2)) % 2 = 0 → 0 ≤ (t4 - t1) - (t3 - t2) → (t4 - t1) - (t3 - t2) < 2 ^ 25 →
            (t.field (Reg.timePmeas port) 0 24 : Int) = ((t4 - t1) - (t3 - t2)) / 2)
      (∀ t1 g, p.sub = 0x13 → x.t1 = some t1 → tp.pdFollows = [g] → g.own = true → g.seqid = x.seq →
        done (.pdelayResp port vc) t1 (timeOrigin p) g.origin r.stampA) ∧
      (p.sub = 0x13 → (∀ g, g ∈ tp.pdFollows → ¬ (g.own = true ∧ g.seqid = x.seq)) → Answers (.pdelayResp port vc) s
        ((s.popHead port vc).setTimePort port { tp with pds := tp.pds.map (fun y =>
          if y.seq = x.seq then { y with t2 := some (timeOrigin p), t4 := (r.stampA : Int) } else y) })) ∧
      (∀ t1 t2, p.sub = 0x14 → x.t1 = some t1 → x.t2 = some t2 →
        done (.pdelayRespFollowUp port vc) t1 t2 (timeOrigin p) x.t4)) ∧
    (ok → p.sub = 0x13 → s.answers port p = none → Answers (.pdelayResp port vc) s (s.popHead port vc)) ∧
    (ok → p.sub = 0x14 → (∀ x, s.answers port p = some x → x.t1 = none ∨ x.t2 = none) → Answers (.pdelayRespFollowUp port vc) s
      ((s.popHead port vc).setTimePort port { tp with pdFollows := tp.pdFollows ++
        [⟨s.answersHere port p, seqid, timeOrigin p, s.time.count⟩] })) ∧
    (∀ b, p.sub = 0x15 → num = s.domNum b → num ≠ s.domNum (!b) → s.follows b = true → s.parentPort b = some port → s.time.switch = none →
      ∃ t, exec (.announce port vc) s = .next t ∧ gone t ∧ t.hbm = s.hbm ∧ (t.domain b).announced = some (p.ext 56 15) ∧
        (t.domain b).steps = p.ext 72 16 + 1 ∧
        (s.timeState b = tsAcquire → t.grandmaster b = p.ext 56 15 ∧ t.timeState b = tsAcquire) ∧
        (s.timeState b = tsLocked → (∃ n, (s.domain b).announced = some n ∧ n ≠ p.ext 56 15) →
          t.timeState b = if b then tsAcquire else tsHoldover))

/-- Timers of the time unit (R252, R256), a switch of A to B (R260) and the clock regions (R264, R265): Sync and Pdelay_Req leave the UP
ports on their intervals, late responses fail their exchange and are counted, late follow-ups are discarded and counted, lost Syncs give HOLDOVER; METHOD 0
slews A toward B at B's rate, METHOD 1 steps A forward in the next count or holds it, and a completed switch gives A all that B has; a region's reported
transition changes its clock, and its stretches are reported once. -/
def Obligations.TimersSwitchAndRegions : Prop :=
  ∀ (s : State), s.regsOk = true → s.portsOk = true → Tab.wf (fun _ => TimePort.reset) s.time.ports = true →
    Tab.wf (fun _ => Region.off) s.regions = true →
    (∀ b, (s.timeState b = tsLocked ∨ s.timeState b = tsMaster) → s.passed (s.logSync b) (s.domain b).lastSend = true →
      (s.domain b).sends % 16 ≠ 0 → ∃ t, exec (.syncSendTimer b) s = .next t ∧
        t.domain b = { s.domain b with seqid := ((s.domain b).seqid + 1) % 2 ^ 16, sends := (s.domain b).sends + 1, lastSend := s.time.count } ∧
        t.cores = s.cores ∧ t.hbm = s.hbm ∧
        (∀ p, p < 12 → s.portUp p = true →
          SendsLink (s.port p) (t.port p) (s.timeMessage 0x10 (s.domNum b) (s.domain b).seqid [])) ∧
        (∀ p, p < 12 → s.portUp p = false → t.port p = s.port p)) ∧
    (∀ p, p < 12 → s.portUp p = true → s.passed (logInterval (s.field Reg.timeCtl 12 8) 0 8 4) (s.timePort p).pdCount = true →
      let q := ((s.timePort p).pdSeq + 1) % 2 ^ 16
      ∃ t, exec (.pdelaySendTimer p) s = .next t ∧
        t.timePort p = { s.timePort p with pdSeq := q, pds := (s.timePort p).pds ++ [⟨q, none, none, 0, s.time.count⟩], pdCount := s.time.count } ∧
        SendsLink (s.port p) (t.port p) (s.timeMessage 0x12 (s.domNum false) q []) ∧ t.cores = s.cores ∧ t.hbm = s.hbm) ∧
    (∀ p, p < 12 →
      let old (x : Pdelay) : Bool := decide (x.count + 10000000 < s.time.count)
      (s.timePort p).pds.any old = true → Answers (.pdelayTimeout p) s
        ((s.setTimePort p { s.timePort p with pds := (s.timePort p).pds.filter (fun x => !old x) }).countN Reg.timePdFail
          ((s.timePort p).pds.filter old).length)) ∧
    (∀ p f l, p < 12 → (s.timePort p).follows = f :: l → f.count + 1000000 < s.time.count →
      (∀ g, g ∈ l → s.time.count ≤ g.count + 1000000) →
      (∀ g, g ∈ (s.timePort p).pdFollows → s.time.count ≤ g.count + 1000000) → Answers (.followUpTimeout p) s
        ((s.setTimePort p { s.timePort p with follows := l }).countN Reg.timeDiscSeq 1)) ∧
    (∀ p f l, p < 12 → (s.timePort p).pdFollows = f :: l → f.count + 1000000 < s.time.count →
      (∀ g, g ∈ l → s.time.count ≤ g.count + 1000000) →
      (∀ g, g ∈ (s.timePort p).follows → s.time.count ≤ g.count + 1000000) → Answers (.followUpTimeout p) s
        ((s.setTimePort p { s.timePort p with pdFollows := l }).countN Reg.timeDiscSeq 1)) ∧
    (∀ b, s.timeState b = tsLocked → s.time.switch = none → s.flag Reg.timeCtl 0 = false →
      10 ^ 9 * max 1 (s.field (Reg.timeCfg b) 13 4) < 2 ^ s.logSync b * (s.time.count - (s.domain b).lastSync) →
      ∃ t, exec (.syncLossTimeout b) s = .next t ∧ t.timeState b = tsHoldover ∧ t.domain b = { s.domain b with slew := 0 } ∧
        t.reg Reg.timeHoldover = min (s.field Reg.timeHoldover 0 48 + 1) (2 ^ 48 - 1) ∧ t.cores = s.cores ∧ t.hbm = s.hbm) ∧
    (∀ pf, s.writeRefusal pf Reg.timeSwitch = none →
      let d := s.timeDelta
      let may := s.time.switch = none ∧ (s.timeState true = tsLocked ∨ s.timeState true = tsMaster)
      (¬ may → Answers (.switchSlew pf) s s ∧ Answers (.switchMeet pf) s s) ∧
      (may → d.natAbs < 2 ^ 31 → ∃ t, exec (.switchSlew pf) s = .next t ∧ t.time.switch = some ⟨false, d, none, none⟩ ∧ t.time.a.slew = d ∧
        t.time.a.rate = s.time.b.rate ∧ t.time.a.base = s.nowA ∧ t.time.b = s.time.b ∧ t.flag Reg.timeStat 6 = true ∧
        t.cores = s.cores ∧ t.hbm = s.hbm) ∧
      (may → ¬ d.natAbs < 2 ^ 31 → Answers (.switchSlew pf) s s) ∧
      (may → ∃ t, exec (.switchMeet pf) s = .next t ∧ t.flag Reg.timeStat 6 = true ∧ t.time.b = s.time.b ∧ t.cores = s.cores ∧ t.hbm = s.hbm ∧
        (0 ≤ d → t.time.switch = some ⟨true, d, none, some (s.time.count, s.nowA)⟩ ∧ t.time.a.base = s.nowB ∧
          t.time.a.cref = s.time.count ∧ t.nowA = s.nowA ∧
          ∀ c, s.time.count < c → State.nowA { t with time := { t.time with count := c } } = t.time.a.value c) ∧
        (d < 0 → t.time.switch = some ⟨true, d, some s.nowA, none⟩ ∧ t.time.a = s.time.a ∧ t.nowA = s.nowA))) ∧
    (s.time.switch.isSome = true → s.timeDelta.natAbs ≤ 1 → ∃ t, exec .switchComplete s = .next t ∧ t.time.switch = none ∧
      t.time.b = s.time.b ∧ t.time.a.base = s.time.b.base ∧ t.time.a.cref = s.time.b.cref ∧ t.time.a.rate = s.time.b.rate ∧
      t.time.a.slew = s.time.b.slew ∧ t.time.a.steps = s.time.b.steps ∧ s.nowA ≤ t.nowA ∧ t.timeState false = s.timeState true ∧
      t.grandmaster false = s.grandmaster true ∧ t.field (Reg.timeCfg false) 0 13 = s.field (Reg.timeCfg true) 0 13 ∧
      t.flag Reg.timeStat 6 = false ∧ t.cores = s.cores ∧ t.hbm = s.hbm) ∧
    (∀ kind i n, isRegion kind i = true →
      let r := s.region kind i
      let lc := r.lcyc s.time.count
      let cy := r.cycles s.time.count
      (Answers (.clockRegionTransition kind i .start) s
        (s.setRegion kind i { r with cyc := cy, mark := s.time.count, running := true, startAt := some lc, stopReq := false })) ∧
      (Answers (.clockRegionTransition kind i .stop) s
        (s.setRegion kind i { r with cyc := cy, mark := s.time.count, running := false, stopReq := true })) ∧
      (Answers (.clockRegionTransition kind i .stopRequested) s (s.setRegion kind i { r with stopReq := true })) ∧
      (Answers (.clockRegionTransition kind i (.frequency n)) s
        (s.setRegion kind i { r with cyc := cy, mark := s.time.count, mhz := n })) ∧
      (Answers (.clockRegionTransition kind i (.stretched n)) s
        (s.setRegion kind i { r with cyc := cy, mark := s.time.count, stretches := r.stretches + n, stretchAt := some lc })) ∧
      (0 < r.stretches → r.reported ≠ s.time.count / 1000000 + 1 → Answers (.stretchTotalReport kind i) s
        (s.setRegion kind i { r with stretches := 0, reported := s.time.count / 1000000 + 1 })))

/-! ### The recorder's freeze, counters, trace and global stops (R263, R400, R403, R417, R420-R433) -/

/-- The recorder freezes and thaws (R262, R400, R403, R409): a begin that is due starts a freeze with its own record, an end of a later T, its
greatest length or THAW ends it and nothing is held any more, an end of an earlier T leaves it; records drain to flash in order. -/
def Obligations.RecorderFreeze : Prop :=
  ∀ (s : State), s.regsOk = true → s.recorder.raised = [] →
    let rest (t : State) : Prop := t.cores = s.cores ∧ t.hbm = s.hbm ∧ t.time = s.time ∧ t.fab = s.fab ∧ t.gate = s.gate
    (∀ t0, s.recorder.frozen = none → s.freezeDue = some t0 → ∃ t e, exec .recorderFreezeBegin s = .next t ∧ rest t ∧
      t.recorder.frozen = some t0 ∧ t.recorder.begun = [e] ∧ e.code = 5 ∧ e.stamp = s.nowA ∧ t.recorder.store = s.recorder.store ∧
      (s.reg Reg.recFreeze = t0 → t.reg Reg.recFreeze = 0)) ∧
    (∀ t0 t1, s.recorder.frozen = some t0 → s.thawDue = some t1 →
      (t0 < t1 → ∃ t, exec .recorderFreezeEnd s = .next t ∧ rest t ∧ t.recorder.frozen = none ∧ t.recorder.held = [] ∧
        t.recorder.thawAt = s.recorder.thawAt.erase t1) ∧
      (t1 ≤ t0 → ∃ t, exec .recorderFreezeEnd s = .next t ∧ rest t ∧ t.recorder.frozen = some t0 ∧
        t.recorder.thawAt = s.recorder.thawAt.erase t1)) ∧
    (∀ t0, s.recorder.frozen = some t0 → s.recorder.frzFrom + 1000000000 * max 1 (s.field Reg.recCtl 1 8) ≤ s.nowA →
      ∃ t, exec .freezeMaxExpire s = .next t ∧ rest t ∧ t.recorder.frozen = none ∧ t.recorder.held = []) ∧
    (∀ (pf : Nat) (v : Word), s.writeRefusal pf Reg.recCtl = none → ∃ t, exec (.thaw pf v) s = .next t ∧ rest t ∧
      t.reg Reg.recCtl = v.toNat &&& 0x1FE ∧ (v.toNat.testBit 0 = true → t.recorder.frozen = none) ∧
      (v.toNat.testBit 0 = false → t.recorder = s.recorder)) ∧
    (∀ n, exec (.flashDrain n) s = .next { s with recorder :=
      { s.recorder with flashed := min s.recorder.store.length (s.recorder.flashed + n) } })

/-- Programmable counters and trace (R417, R420-R424): a counter of all ones goes on from 0, a write gives a counter its value and the
increments of the cycle; TRC_CTL is written without its read-only bits, enabling begins DROP anew, the ring's registers empty it;
the drain copies a block to the ring or sends a frame, and takes its records off the buffer. -/
def Obligations.CountersAndTrace : Prop :=
  ∀ (s : State), s.regsOk = true → s.recorder.raised = [] → Tab.wf (fun _ => TraceBuf.empty) s.traces = true →
    let rest (t : State) : Prop := t.cores = s.cores ∧ t.time = s.time ∧ t.fab = s.fab ∧ t.gate = s.gate
    (∀ unit j, unit < 203 → j < (pmcUnit unit).size → s.flag ((pmcUnit unit).sel j) 12 = true →
      ¬ (j % 2 = 1 ∧ s.flag ((pmcUnit unit).sel j) 13 = true) →
      s.field ((pmcUnit unit).cnt j) 0 (pmcUnit unit).width = 2 ^ (pmcUnit unit).width - 1 →
      ∃ t, exec (.counterWrap unit j) s = .next t ∧ Books s t ∧ t.field ((pmcUnit unit).cnt j) 0 (pmcUnit unit).width = 0) ∧
    (∀ (pf off same : Nat) (v : Word) set j, pmcAt off = some (set, j) → off % 8 = 0 → s.writeRefusal pf off = none →
      ∃ t, exec (.pmcCounterWrite pf off v same) s = .next t ∧ Books s t ∧
        t.field off 0 set.width = (v.toNat % 2 ^ set.width + same) % 2 ^ set.width) ∧
    (∀ (pf c : Nat) (v : Word), c < 192 →
      (s.writeRefusal pf (Reg.trcCtl c) = none → ∃ t, exec (.trcCtlWrite pf c v) s = .next t ∧ rest t ∧ t.hbm = s.hbm ∧
        t.reg (Reg.trcCtl c) = v.toNat &&& 0xFFFF7F ∧
        (s.flag (Reg.trcCtl c) 0 = false → v.toNat.testBit 0 = true → t.field (Reg.trcStat c) 16 32 = 0)) ∧
      (s.writeRefusal pf (Reg.trcRbase c) = none → Answers (.trcRingWrite pf c true v) s
        (((s.setReg (Reg.trcRbase c) (v.toNat % 2 ^ 48)).setReg (Reg.trcRwr c) 0).setReg (Reg.trcRrd c) 0)) ∧
      (s.writeRefusal pf (Reg.trcRsize c) = none → Answers (.trcRingWrite pf c false v) s
        (((s.setReg (Reg.trcRsize c) (v.toNat % 2 ^ 32)).setReg (Reg.trcRwr c) 0).setReg (Reg.trcRrd c) 0))) ∧
    (∀ c, c < 192 → s.flag (Reg.trcStat c) 13 = false →
      let b := s.traceBuf c
      (s.flag (Reg.trcCtl c) 1 = true → s.flag Reg.trcPort 0 = true → s.ringCapturing (c / 24) = false → s.drainable c 15 ≠ 0 →
        ∃ t, exec (.traceDrainBlock c) s = .next t ∧ rest t ∧ t.hbm = s.hbm ∧
          t.out = s.out ++ [Output.trace c (traceFrame c b.frameSeq b.frameLost (b.recs.take (s.drainable c 15)))] ∧
          (t.traceBuf c).recs = b.recs.drop (s.drainable c 15) ∧ (t.traceBuf c).frameSeq = (b.frameSeq + 1) % 2 ^ 32) ∧
      (let n := s.drainable c 256
       let size := s.field (Reg.trcRsize c) 0 32
       let wr := s.field (Reg.trcRwr c) 0 32
       s.flag (Reg.trcCtl c) 1 = false → n ≠ 0 → 8192 ≤ size → size % 4096 = 0 →
         (wr + 4096) % size ≠ s.field (Reg.trcRrd c) 0 32 →
         ∃ t, exec (.traceDrainBlock c) s = .next t ∧ rest t ∧
           t.hbm = (s.memWrite (s.field (Reg.trcRbase c) 0 48 + wr) ((b.recs.take n).flatMap traceBytes)).hbm ∧
           t.reg (Reg.trcRwr c) = (wr + 4096) % size ∧ (t.traceBuf c).recs = b.recs.drop n))

/-- Global stops and dumps (R263, R427-R433): TRC_GSTOP_T schedules a stop, a TIME packet a stop, a freeze or its end at its T; a stop that is
due stops its scope, takes the capture of its units and begins its reading, which ends in a dump of cause 0x3A without a reset; the last parts of a dump complete
it, copy it to flash and release the trace buffers it held. -/
def Obligations.StopsAndDumps : Prop :=
  ∀ (s : State), s.regsOk = true → s.portsOk = true → Tab.wf (fun _ => TraceBuf.empty) s.traces = true →
    (∀ (pf : Nat) (v : Word), s.writeRefusal pf Reg.trcGstopT = none → Answers (.gstopRequestWrite pf v) s
      (s.setReg Reg.trcGstopT v.toNat)) ∧
    (∀ t0 job l, s.stopsDue = (t0, job) :: l → s.stoppedBy job = false → ∃ t, exec .globalStop s = .next t ∧ t.stoppedBy job = true ∧
      t.gstop.capturing = s.gstop.capturing ++ [(job, t0)] ∧ (t0, job) ∉ t.gstop.sched ∧ t.time = s.time ∧
      (∀ c, s.coreState c ≠ 2 → (s.core c).package = false → t.core c = s.core c) ∧
      (job ≠ 0 → s.gstop.capturing = [] → t.gstop.records.map (fun r => (r.kind, r.index)) =
        ((List.range 192).filter (fun c => s.runsJob c job)).map (fun c => (0, c))) ∧ (∀ c, c < 192 → (job = 0 ∨ s.runsJob c job = true) → t.flag (Reg.trcStat c) 13 = true)) ∧
    (∀ t0 job l, s.gstop.capturing = (job, t0) :: l → ∃ t k d, exec .globalStopCaptureComplete s = .next t ∧
      t.gstop.capturing = l ∧ (l = [] → t.gstop.records = []) ∧ Tab.find t.rst.dumps k = some d ∧ d.cause = 0x3A ∧ d.job = job ∧ d.tf = t0 ∧
      d.records = s.gstop.records ∧
      d.complete = false ∧ t.cores = s.cores ∧ t.recLive = s.recLive) ∧
    (∀ slot d, Tab.find s.rst.dumps slot = some d → d.complete = false → d.off3 ≠ 0 → ∃ t x, exec (.dumpComplete slot) s = .next t ∧
      Tab.find t.rst.dumps slot = some x ∧ x.complete = true ∧ x.flashed = true ∧ x.off4 = d.len ∧ x.off3 = d.off3 ∧
      t.rst.flashDumps.head? = some x ∧ t.rst.flashDumps.length ≤ 2 ∧ t.cores = s.cores ∧
      (∀ c, c ∈ d.cores → c < 192 → t.flag (Reg.trcStat c) 13 = false ∧ (t.traceBuf c).recs = [])) ∧
    (∀ (port vc : Nat) (r : RxPacket), s.stops 0 = false → s.head port vc = some r → r.packet.flood = 1 → r.packet.type = tyTime →
      s.arrivalCheck r.packet = none → s.fab.flood.any (·.key == Packet.floodKey r.packet) = false → s.nowA ≤ r.packet.ext 4 64 →
      (r.packet.ext 0 4 = 1 → s.gstop.sched.contains (r.packet.ext 4 64, r.packet.job) = false →
        ∃ t, exec (.timePacket port vc) s = .next t ∧ t.cores = s.cores ∧ t.hbm = s.hbm ∧
          t.gstop.sched = s.gstop.sched ++ [(r.packet.ext 4 64, r.packet.job)]) ∧
      (r.packet.ext 0 4 = 2 → s.recorder.frozen = none → ∃ t, exec (.timePacket port vc) s = .next t ∧ t.cores = s.cores ∧
        t.hbm = s.hbm ∧ t.recorder.freezeAt = s.recorder.freezeAt ++ [r.packet.ext 4 64]) ∧
      (r.packet.ext 0 4 = 3 → ∃ t, exec (.timePacket port vc) s = .next t ∧ t.cores = s.cores ∧ t.hbm = s.hbm ∧
        t.recorder.thawAt = s.recorder.thawAt ++ [r.packet.ext 4 64]))

/-! ### Checkpoint and restore (R362-R378) -/

/-- A trigger finds what R367 asks for: the controller is enabled and free, the job's latest committed step is in slot k with its handles, no
own generation holds that step, and the start conditions hold. -/
def ckpReady (s : State) (step k : Nat) (hs : List CkHandle) : Prop :=
  s.flag Reg.ckpCtl 0 = true ∧ s.ckp.run = none ∧ s.ckp.mirror = none ∧ s.latestStep = some step ∧
  s.committedSlot s.ckpJob step = some k ∧ (∀ g, g < 2 → s.genState g = 2 ∨ s.genState g = 4 → s.genStep g ≠ step) ∧
  s.latchHandles k = (hs, s) ∧ s.ckpConditions hs (s.flag Reg.ckpCtl 13) = true

/-- The checkpoint of a step of slot k has begun in t for a trigger: a generation is WRITING with the step and its commit instant, the
controller is BUSY, and no core or memory has changed. -/
def ckpBegun (s t : State) (trig step k : Nat) (hs : List CkHandle) : Prop :=
  ∃ r, t.ckp.run = some r ∧ r.job = s.ckpJob ∧ r.step = step ∧ r.trig = trig ∧ r.handles = hs ∧ r.tcommit = (s.slot k).tdec ∧
    r.gen < 2 ∧ r.signing = false ∧ t.genState r.gen = 1 ∧ t.genStep r.gen = step % 2 ^ 48 ∧
    t.field (Reg.ckpGenA r.gen) 4 2 = trig ∧ t.reg (Reg.ckpGenB r.gen) = (s.slot k).tdec % 2 ^ 64 ∧ t.flag Reg.ckpStat 0 = true ∧
    t.cores = s.cores ∧ t.hbm = s.hbm

/-- Checkpoints begin and are taken (R365-R367): the requested time clears CKP_REQ and triggers, a monitor that trips is marked and triggers
where EW is enabled, TAKE triggers or ends with 0x0F; the end of the sweep writes the manifest and begins signing, the end of signing
writes the signatures and leaves the generation SIGNED. -/
def Obligations.CheckpointsTaken : Prop :=
  ∀ (s : State), s.regsOk = true →
    (s.ckpLive = true → s.reg Reg.ckpReq ≠ 0 → s.reg Reg.ckpReq ≤ s.nowA →
      let u := s.setReg Reg.ckpReq 0
      (s.flag Reg.ckpCtl 0 = false → Answers .ckpRequestedTime s u) ∧
      (∀ step k hs, ckpReady u step k hs → ∃ t, exec .ckpRequestedTime s = .next t ∧ ckpBegun u t 2 step k hs ∧
        t.reg Reg.ckpReq = 0)) ∧
    (let l := (List.range 8).filter s.monitorTrips
      let u := l.foldl (fun (s : State) b => (s.setFlag Reg.ckpStat (5 + b)).ckpEvent 0x009 s.ckpJob 0 0 [(8, b)]) s.monitorSeen
      (l = [] → Answers (.ewMonitorEval ()) s s.monitorSeen) ∧
      (s.flag Reg.ckpEw 0 = false → ∃ t, exec (.ewMonitorEval ()) s = .next t ∧ t.ckp = s.monitorSeen.ckp ∧
        ∀ b, b ∈ l → t.flag Reg.ckpStat (5 + b) = true) ∧
      (∀ step k hs, l ≠ [] → s.flag Reg.ckpEw 0 = true → s.earlyAllowed = true → s.ckpLive = true → ckpReady u step k hs →
        ∃ t, exec (.ewMonitorEval ()) s = .next t ∧ ckpBegun u t 1 step k hs ∧ t.ckp.lastEarly = some s.time.count ∧
          t.reg Reg.ckpEarly = min (s.field Reg.ckpEarly 0 48 + 1) (2 ^ 48 - 1) ∧
          ∀ b, b ∈ l → t.flag Reg.ckpStat (5 + b) = true)) ∧
    (∀ (pf : Nat) (v : Word), s.writeRefusal pf Reg.ckpCmd = none → s.cmdIgnored (setBits v.toNat 0 4 1) = false →
      (∀ step k hs, ckpReady s step k hs → ∃ t, exec (.take pf v) s = .next t ∧ ckpBegun s t 3 step k hs ∧
        t.field Reg.ckpCmd 23 8 = 0) ∧
      (s.flag Reg.ckpCtl 0 = true → s.latestStep = none → Answers (.take pf v) s
        ((s.count Reg.ckpFail).setField Reg.ckpCmd 23 8 0x0F))) ∧
    (∀ r, s.ckpLive = true → s.ckp.run = some r → r.gen < 2 →
      (r.signing = false →
        (∀ j, j < 32 → (s.nme j).running = false → j ≠ 0 ∧ ∀ h, h ∈ r.handles → h.uses j = false) →
        let q := s.sweepAll r (List.range 32)
        let d := q.2.roots r (List.range 32)
        q.1 = none → d.2.1 = none → ∃ t, exec .ckpSweepComplete s = .next t ∧
          t.ckp.run = some { r with signing := true } ∧ t.hbm = (d.2.2.writeManifest r d.1).hbm ∧ t.field Reg.ckpStat 1 3 = 3 ∧
          t.cores = s.cores) ∧
      (r.signing = true → s.ckp.pend = none → s.ckp.mirror = none → s.flag Reg.ckpMirout 15 = false → s.fab.recs = [] →
        let a := s.area r.gen 0
        let m := s.memRead a signedBytes
        m.2.1 = none → ∃ t, exec .ckpSignComplete s = .next t ∧ t.ckp.run = none ∧ t.genState r.gen = 2 ∧
          t.hbm = ((m.2.2.memWrite (a + 0x2840) (sigEd infoDevId [] m.1)).memWrite (a + 0x2880) (sigMd infoDevId [] m.1)).hbm ∧
          t.reg Reg.ckpTaken = min (s.field Reg.ckpTaken 0 48 + 1) (2 ^ 48 - 1) ∧ t.flag Reg.ckpStat 0 = false ∧
          t.cores = s.cores))

/-- Commands of CKP_CMD (R371-R375, R378): VERIFY and RESTORE set BUSY and end with the code found, NOCOMMON gives 0x09, RELEASE makes
the generation INVALID without ASIDE, MIRROR refuses what is no image or is set aside and else opens the stream; a host that has
verified a sealed generation makes it VERIFIED with the manifest's step, or INVALID with the code. -/
def Obligations.CheckpointCommands : Prop :=
  ∀ (pf : Nat) (v : Word) (s : State), s.regsOk = true →
    let n := v.toNat
    let g := n / 16 % 4
    let may (op : Nat) : Prop := s.writeRefusal pf Reg.ckpCmd = none ∧ s.cmdIgnored (setBits n 0 4 op) = false
    (may 2 → ∃ t c, exec (.verify pf v) s = .next t ∧ t.ckp.cmd = some c ∧ c.op = 2 ∧ c.gen = g ∧ t.flag Reg.ckpCmd 22 = true ∧
      t.field Reg.ckpCmd 23 8 = 0 ∧ t.reg Reg.ckpCmdRes = 0 ∧ t.cores = s.cores ∧ t.hbm = s.hbm) ∧
    (may 3 → (n / 64 % 2 ^ 15 = s.own.node ∨ g < 2) → ∃ t c, exec (.restore pf v) s = .next t ∧ t.ckp.cmd = some c ∧ c.op = 3 ∧
      c.gen = g ∧ c.fetching = false ∧ c.step = s.field Reg.ckpCmdStep 0 48 ∧ t.flag Reg.ckpCmd 22 = true ∧
      t.field Reg.ckpCmd 23 8 = 0 ∧ t.cores = s.cores ∧ t.hbm = s.hbm) ∧
    (may 4 → Answers (.nocommon pf v) s (s.setField Reg.ckpCmd 23 8 9)) ∧
    (may 5 → s.ckp.mirror = none → ∃ t, exec (.release pf v) s = .next t ∧ t.genState g = 7 ∧ t.flag (Reg.ckpGenA g) 3 = false ∧
      t.field Reg.ckpCmd 23 8 = 0 ∧ g ∉ t.ckp.sealed' ∧ t.cores = s.cores ∧ t.hbm = s.hbm) ∧
    (may 6 →
      let image := g < 2 ∧ (s.genState g = 2 ∨ s.genState g = 4)
      (¬ image → Answers (.mirror pf v) s (s.setField Reg.ckpCmd 23 8 1)) ∧
      (image → s.aside g = true → Answers (.mirror pf v) s (s.setField Reg.ckpCmd 23 8 2)) ∧
      (image → s.aside g = false → s.flag Reg.ckpMirout 15 = false → s.fab.recs = [] →
        Answers (.mirror pf v) s (s.setField Reg.ckpCmd 23 8 0)) ∧
      (image → s.aside g = false → s.flag Reg.ckpMirout 15 = true → s.ckp.mirror = none → ∃ t, exec (.mirror pf v) s = .next t ∧
        Books ((((s.setField Reg.ckpCmd 23 8 0).mirrorOpen g)).settle 64) t)) ∧
    (∀ c, s.ckpLive = true → s.ckp.cmd = some c → c.fetching = false →
      let u := { s with ckp := { s.ckp with cmd := none } }.setField Reg.ckpCmd 22 1 0
      ∃ t, exec .ckpCommandComplete s = .next t ∧ t.ckp.cmd = none ∧ t.flag Reg.ckpCmd 22 = false ∧ t.cores = s.cores ∧
        (c.op = 2 → c.gen < 4 → t.field Reg.ckpCmd 23 8 = c.codeOf (u.verifyGen c.gen none).1 % 256 ∧ t.hbm = s.hbm ∧
          t.field (Reg.ckpGenA c.gen) 8 8 = c.codeOf (u.verifyGen c.gen none).1 % 256) ∧
        (c.op ≠ 2 → t.field Reg.ckpCmd 23 8 = (u.runRestore c).1 % 256 ∧ t.hbm = (u.runRestore c).2.hbm)) ∧
    (∀ h, s.ckpLive = true → (h = 2 ∨ h = 3) → s.ckp.sealed'.contains h = true → s.genState h = 5 →
      let r := { s with ckp := { s.ckp with sealed' := s.ckp.sealed'.filter (· != h) } }.verifyImage h none
      ∃ t, exec (.hostVerifyComplete h) s = .next t ∧ h ∉ t.ckp.sealed' ∧ t.cores = s.cores ∧
        (r.1.code = 0 → t.genState h = 6 ∧ t.genStep h = r.2.1.step % 2 ^ 48 ∧ t.reg (Reg.ckpGenB h) = r.2.1.tcommit) ∧
        (r.1.code ≠ 0 → t.genState h = 7 ∧ t.field (Reg.ckpGenA h) 8 8 = r.1.code % 256))

/-! ### The Isrek pair, sensors and management ports (R381-R393) -/

/-- Controller c owns the arbiter and is ACTIVE. -/
def ctlOwns (s : State) (c : Nat) : Prop := c < 2 ∧ s.isk.owner = some c ∧ s.ctl c = ctlActive

/-- The controllers (R381-R386): a cycle of the active one advances its count and sends a copy, and a failed check, a second overrun, its
watchdog or its supply make it yield and FAILED; a new owner becomes ACTIVE; a copy is applied or counted as failed, three missed ones
make the standby STALE; a claim succeeds on an unowned or lapsed arbiter; a diagnosis makes a controller STALE, or OFF at its third
failure within an hour. -/
def Obligations.Controllers : Prop :=
  ∀ (s : State), s.regsOk = true →
    let rest (t : State) : Prop := t.cores = s.cores ∧ t.hbm = s.hbm ∧ t.time = s.time
    let failed (t : State) (c check : Nat) : Prop := rest t ∧ t.ctl c = ctlFailed ∧ t.isk.owner = none ∧ t.field Reg.iskStat 0 2 = 3 ∧
      t.field Reg.iskStat 40 8 = check ∧ t.isk.yield = some (c, check)
    (∀ c check late, ctlOwns s c → s.isk.lastCycle ≠ s.nowA / 1000000 + 1 → s.isk.next = none →
      ((check = 1 ∨ check = 2 ∨ check = 3) → ∃ t, exec (.managementCycle check late) s = .next t ∧ failed t c check) ∧
      (check = 0 → late = true → s.isk.overran = true → ∃ t, exec (.managementCycle check late) s = .next t ∧ failed t c 4 ∧
        t.reg Reg.iskOverrun = min (s.field Reg.iskOverrun 0 48 + 1) (2 ^ 48 - 1)) ∧
      (check = 0 → late = false → s.isk.swap = none → ∃ t, exec (.managementCycle check late) s = .next t ∧ rest t ∧
        t.ctl c = ctlActive ∧ t.isk.owner = some c ∧ t.isk.copyDue = true ∧ t.isk.lastCycle = s.nowA / 1000000 + 1 ∧
        t.field Reg.iskStat 8 32 = (s.field Reg.iskStat 8 32 + 1) % 2 ^ 32)) ∧
    (∀ c old chk check late, c < 2 → s.isk.owner = some c → s.isk.lastCycle ≠ s.nowA / 1000000 + 1 →
      s.isk.next = some (c, old, chk) → ∃ t, exec (.managementCycle check late) s = .next t ∧ rest t ∧ t.ctl c = ctlActive ∧
        t.field Reg.iskStat 0 2 = c ∧ t.isk.next = none ∧
        t.reg Reg.iskHandover = (if old = 3 then s.reg Reg.iskHandover else min (s.field Reg.iskHandover 0 48 + 1) (2 ^ 48 - 1))) ∧
    (∀ c, ctlOwns s c → s.isk.copyDue = true → (s.ctl (1 - c) = ctlStandby ∨ s.ctl (1 - c) = ctlStale) →
      (∃ t, exec (.stateCopyReceive true) s = .next t ∧ rest t ∧ t.ctl (1 - c) = ctlStandby ∧ t.isk.copyDue = false ∧ t.isk.missed = 0 ∧
        t.isk.copied = s.isk.done ∧ t.ctl c = ctlActive) ∧
      (∃ t, exec (.stateCopyReceive false) s = .next t ∧ rest t ∧ t.ctl (1 - c) = s.ctl (1 - c) ∧ t.isk.copyDue = false ∧
        t.isk.copied = s.isk.copied ∧ t.reg Reg.iskCopyFail = min (s.field Reg.iskCopyFail 0 48 + 1) (2 ^ 48 - 1))) ∧
    (∀ c, c < 2 → s.isk.owner = some c → s.ctl (1 - c) = ctlStandby → 3 + b2n s.isk.copyDue ≤ s.isk.missed → ∃ t, exec .standbyStale s = .next t ∧ rest t ∧
      t.ctl (1 - c) = ctlStale ∧ t.ctl c = s.ctl c ∧ t.isk = s.isk) ∧
    (∀ c, ctlOwns s c →
      (s.isk.activeAt + 1500000 ≤ s.time.count → ∃ t, exec (.iskWatchdogExpire c) s = .next t ∧ failed t c 5) ∧
      (∃ t, exec (.iskSupplyLoss c) s = .next t ∧ failed t c 6) ∧
      (s.isk.lapsed = false → s.isk.activeAt + 2500000 ≤ s.time.count → Answers .heartbeatLapse s { s with isk := { s.isk with lapsed := true } })) ∧
    (∀ c, c < 2 → ¬ (s.isk.owner = some c ∧ s.ctl c = ctlActive) → s.ctl c ≠ ctlOff → ∃ t, exec (.iskSupplyLoss c) s = .next t ∧ rest t ∧
      t.ctl c = ctlOff ∧ t.ctl (1 - c) = s.ctl (1 - c)) ∧
    (∀ c, c < 2 → s.isk.owner = none →
      (s.ctl c = ctlBoot → s.host.auxIn = true → 1 ≤ s.host.stage → s.flag Reg.secBoot 4 = false →
        ∃ t, exec (.ownershipClaim c) s = .next t ∧ rest t ∧ t.ctl c = ctlStale ∧
          (if c = s.field Reg.iskCtl 0 1 ∨ s.ctl (1 - c) ≠ ctlBoot then t.isk.owner = some c
            else t.isk.owner = none ∧ t.isk.prefer = some (c, s.time.count))) ∧
      ((s.ctl c = ctlStandby ∨ s.ctl c = ctlStale) → ∃ t, exec (.ownershipClaim c) s = .next t ∧ rest t ∧ t.isk.owner = some c ∧
        t.isk.yield = none ∧ t.ctl c = s.ctl c) ∧
      (∀ t0, s.isk.prefer = some (c, t0) → s.ctl (1 - c) = ctlBoot → t0 + 500000000 ≤ s.time.count →
        ∃ t, exec .bootPreferTimeout s = .next t ∧ rest t ∧ t.isk.owner = some c ∧ t.isk.prefer = none)) ∧
    (∀ c o, c < 2 → o < 2 → o ≠ c → s.isk.owner = some o → s.isk.lapsed = true → (s.ctl c = ctlStandby ∨ s.ctl c = ctlStale) →
      ∃ t, exec (.ownershipClaim c) s = .next t ∧ rest t ∧ t.isk.owner = some c ∧ t.ctl o = ctlFailed ∧ t.field Reg.iskStat 0 2 = 3 ∧
        t.isk.next = some (c, o, 0)) ∧
    (∀ c check, c < 2 → s.ctl c = ctlFailed →
      (∃ t, exec (.diagnosisComplete c true check) s = .next t ∧ rest t ∧ t.ctl c = ctlStale) ∧
      (let l := s.isk.failures.filter (fun e => decide (s.time.count ≤ e.2 + 3600000000000))
       ∃ t, exec (.diagnosisComplete c false check) s = .next t ∧ rest t ∧ t.isk.failures = l ++ [(c, s.time.count)] ∧
         t.ctl c = if 2 ≤ (l.filter (fun e => e.1 == c)).length then ctlOff else ctlFailed))

/-- Sensors, thermal clocks and management ports (R387-R393): a sample is VALUE with VALID and trips its limits while a controller is
active; a sensor without readings loses VALID, one within its limits for 100 ms its flags; a junction above THROT lowers its cluster's
clock by 100 MHz and a cool one raises it; a trip removes main power; a port's link follows its wire, and a datagram waits or is
dropped and counted. -/
def Obligations.SensorsAndPorts : Prop :=
  ∀ (s : State), s.regsOk = true →
    (∀ k (x : Int), s.host.bs1Done = true → sensorExists k = true →
      let raw := if 0x50 ≤ k ∧ k ≤ 0x6F then 8 * (s.field (Reg.nmeStat (k - 0x50)) 8 8 : Int) else x
      let v := (s.sensorValue k raw).1
      ∃ t, exec (.sensorSample k x) s = .next t ∧ t.reading k = v ∧ t.flag (Reg.iskSens k) 32 = true ∧
        t.flag (Reg.iskSens k) 33 = (s.flag (Reg.iskSens k) 33 || (s.iskActive && s.aboveHi k v)) ∧
        t.flag (Reg.iskSens k) 34 = (s.flag (Reg.iskSens k) 34 || (s.iskActive && s.belowLo k v)) ∧ t.cores = s.cores ∧ t.hbm = s.hbm) ∧
    (∀ k, sensorExists k = true → s.flag (Reg.iskSens k) 32 = true → Tab.get s.isk.validAt 0 k + 10000000 ≤ s.time.count + 1 →
      Answers (.sensorInvalidTimeout k) s (s.setField (Reg.iskSens k) 32 1 0)) ∧
    (∀ k, s.iskActive = true → s.flag (Reg.iskSens k) 32 = true → (s.flag (Reg.iskSens k) 33 = true ∨ s.flag (Reg.iskSens k) 34 = true) →
      Tab.get s.isk.withinAt 0 k ≠ 0 → Tab.get s.isk.withinAt 0 k + 100000000 ≤ s.time.count + 1 →
      ∃ t, exec (.sensorClearTimeout k) s = .next t ∧ t.field (Reg.iskSens k) 33 2 = 0 ∧ t.reading k = s.reading k ∧
        t.cores = s.cores ∧ t.hbm = s.hbm ∧ t.time = s.time) ∧
    (∀ n, n < 40 → s.host.powered = true → s.flag (Reg.iskSens (0x20 + n)) 32 = true →
      (s.throt < s.reading (0x20 + n) → Tab.find s.isk.thermal n = none → ∃ t, exec (.thermalClockStep n) s = .next t ∧
        Tab.find t.isk.thermal n = some (max 900 (s.thermalClock n - 100), s.time.count) ∧ t.cores = s.cores ∧ t.hbm = s.hbm) ∧
      (∀ mhz at', s.reading (0x20 + n) ≤ s.throt - 24 → Tab.find s.isk.thermal n = some (mhz, at') →
        Tab.get s.isk.coolAt 0 n ≠ 0 → Tab.get s.isk.coolAt 0 n + 10000000 ≤ s.time.count + 1 → at' + 10000000 ≤ s.time.count →
        s.thermalClock n + 100 < s.clkCap (n / 5) → ∃ t, exec (.thermalClockStep n) s = .next t ∧
          Tab.find t.isk.thermal n = some (s.thermalClock n + 100, s.time.count) ∧ t.cores = s.cores ∧ t.hbm = s.hbm)) ∧
    (∀ k, s.host.powered = true → s.flag (Reg.iskSens k) 32 = true → Tab.get s.isk.hotAt 0 k ≠ 0 → Tab.get s.isk.hotAt 0 k + 1000000 ≤ s.time.count + 1 →
      ∃ t, exec (.thermalTrip k) s = .next t ∧ t.host.powered = false ∧ t.flag Reg.iskStat 48 = true ∧ t.host.bs8Done = false) ∧
    (∀ p up, p < 2 → s.host.bs1Done = true → s.flag Reg.iskMport p ≠ up → ∃ t, exec (.mgmtPortLinkChange p up) s = .next t ∧
      t.flag Reg.iskMport p = up ∧ t.flag Reg.iskMport (1 - p) = s.flag Reg.iskMport (1 - p) ∧ t.cores = s.cores ∧ t.hbm = s.hbm ∧
      (up = true → s.iskActive = true → Tab.wf (fun _ => ([] : List StagePost)) s.isk.posts = true → Tab.get t.isk.posts [] p = [])) ∧
    (∀ p d, p < 2 → s.flag Reg.iskMport p = true → s.host.bs1Done = true →
      let full := !s.iskActive && decide (262144 < s.frameBytes p + 64 + d.payload.length)
      let more := Tab.put s.isk.frames [] p (Tab.get s.isk.frames [] p ++ [d])
      (full = false → Answers (.impDatagramReceive p d) s { s with isk := { s.isk with frames := more } }) ∧
      (full = true → Answers (.impDatagramReceive p d) s (s.count Reg.iskMportDrop)))

/-! ### Mailbox and management commands (R394, R395, R402-R405) -/

/-- The active controller takes a request of one of the OPs from its place, and its TAG lies above the last completed one. -/
def freshRequest (s : State) (src : Nat) (q : Datagram) (ops : Nat → Bool) : Prop :=
  s.mboxTakes src q ops = true ∧ (∀ d, Tab.find s.isk.done (requester src) = some d → d.tag < q.tag) ∧ q.payload.length ≤ 4032

/-- In t a request has been answered with ERR and a result: both are kept under its TAG, the slot's STATE is 1, or 2 with an ERR, and a
frame's answer has left on its port. -/
def answered (t : State) (src : Nat) (q : Datagram) (err : Nat) (r : List Byte) : Prop :=
  Tab.find t.isk.done (requester src) = some ⟨q.tag, err, r.take 4032⟩ ∧
  (src < 16 → Tab.get t.isk.mbox 0 (4096 * src) = if err = 0 then 3 else 5) ∧
  (16 ≤ src → Output.imp (src - 16) q.op q.tag err (r.take 4032) ∈ t.out)

/-- Commands without signatures (R394, R395, R402, R403): a request that the active controller takes is run once and answered.
INFO begins with the module's identification, RDREG gives registers or refuses its length, WRREG writes until a register
refuses, RDREC gives records from a SEQ on, SENSORS the valid readings, FREEZE writes REC_FREEZE, SWAP waits for the cycle's
end or finds no standby, NETCFG is kept, REPORT is refused; a TAG already completed is answered from what was recorded and
has no effect. CLRREC and the commands that run on (R394, R404): CLRREC of another length than its five items is refused with
a new nonce; one whose signatures, nonce, node and LASTSEQ hold, without a freeze or a clear, begins to clear, and else is
refused; its end leaves the recorder out of clearing, the end of an erase leaves the area erased, the end of a commit makes
the staging copy the set in flash. -/
def Obligations.ManagementCommands : Prop :=
  (∀ (src : Nat) (q : Datagram) (s : State), s.regsOk = true →
    let u := s.slotFill src q
    let l := q.payload
    let w := payloadWords l
    let runs (x : Instr) (err : Nat) (r : List Byte) (p : State → Prop) : Prop :=
      ∃ t, exec x s = .next t ∧ answered t src q err r ∧ t.cores = s.cores ∧ t.hbm = s.hbm ∧ p t
    let any (_ : State) : Prop := True
    (freshRequest s src q (· == 0x01) → ∃ r, r.length = 48 ∧ r.take 8 = toBytes 8 (s.reg Reg.hifId) ∧ runs (.info src q) 0 r any) ∧
    (freshRequest s src q (· == 0x02) →
      (l.length % 8 = 0 → l.length ≤ 512 → runs (.rdreg src q) 0 (w.flatMap (fun off => toBytes 8
        (if u.readRefusal 2 off = none then u.regRead 2 off else 0))) any) ∧
      ((l.length % 8 ≠ 0 ∨ 512 < l.length) → runs (.rdreg src q) 1 [] any)) ∧
    (freshRequest s src q (· == 0x03) →
      ((l.length % 16 ≠ 0 ∨ 1024 < l.length) → runs (.wrreg src q) 1 [] any) ∧
      (l.length % 16 = 0 → l.length ≤ 1024 →
        let b := u.writeList src q.tag 0 w
        ∃ t, exec (.wrreg src q) s = .next t ∧ answered t src q (if b.1 then 0 else 4) [] ∧ t.cores = b.2.cores ∧
          t.hbm = b.2.hbm ∧ t.time = b.2.time ∧ t.fab = b.2.fab ∧
          ∀ k, bookKey k = false → k ≠ Reg.iskMbxRej → t.reg k = b.2.reg k)) ∧
    (freshRequest s src q (· == 0x04) → runs (.rdrec src q) 0
      (((s.recorder.store.filter (fun r => decide (q.word18.toNat % 2 ^ 32 ≤ r.seq))).take 62).flatMap Record.bytes) any) ∧
    (freshRequest s src q (· == 0x06) → runs (.sensors src q) 0
      (((List.range 0x80).filter (fun k => s.flag (Reg.iskSens k) 32)).flatMap (fun k =>
        toBytes 8 k ++ toBytes 8 (s.reg (Reg.iskSens k)))) any) ∧
    (freshRequest s src q (· == 0x07) → (∀ x, s.isk.passed = some x → ¬ (x.1 = requester src ∧ x.2.1 = q.tag)) →
      runs (.freeze src q) 0 [] (fun t => t.reg Reg.recFreeze = q.word18.toNat)) ∧
    (freshRequest s src q (· == 0x08) → s.isk.swapped ≠ some (src, q.tag) →
      (s.ctl (1 - s.isk.owner.getD 0) = ctlStandby → s.isk.swap = none → ∃ t, exec (.swap src q) s = .next t ∧
        t.isk.swap = some (src, q.tag) ∧ t.isk.done = s.isk.done ∧ (src < 16 → Tab.get t.isk.mbox 0 (4096 * src) = 7) ∧
        t.cores = s.cores ∧ t.hbm = s.hbm) ∧
      (s.ctl (1 - s.isk.owner.getD 0) ≠ ctlStandby → runs (.swap src q) 3 [] (fun t => t.isk.swap = s.isk.swap))) ∧
    (freshRequest s src q (· == 0x0C) → (∀ x, s.isk.passed = some x → ¬ (x.1 = requester src ∧ x.2.1 = q.tag)) →
      runs (.netcfg src q) 0 [] (fun t => t.isk.netcfg = l)) ∧
    (freshRequest s src q (fun op => op == 0 || decide (0x0E ≤ op)) → runs (.report src q) 1 [] (fun t =>
      t.reg Reg.iskMbxRej = min (s.field Reg.iskMbxRej 0 48 + 1) (2 ^ 48 - 1))) ∧
    (∀ x d, x ∈ [(Instr.info src q, 0x01), (.rdreg src q, 2), (.wrreg src q, 3), (.rdrec src q, 4), (.clrrec src q, 5),
        (.sensors src q, 6), (.freeze src q, 7), (.swap src q, 8), (.signed src q, 9), (.netcfg src q, 0x0C)] →
      s.mboxTakes src q (· == x.2) = true → Tab.find s.isk.done (requester src) = some d → q.tag ≤ d.tag →
      ∃ t, exec x.1 s = .next t ∧ t.isk.done = s.isk.done ∧ t.cores = s.cores ∧ t.hbm = s.hbm ∧
        (∀ k, bookKey k = false → t.reg k = s.reg k) ∧ (src < 16 → Tab.get t.isk.mbox 0 (4096 * src) = if d.err = 0 then 3 else 5) ∧
        (16 ≤ src → Output.imp (src - 16) q.op q.tag d.err d.result ∈ t.out))) ∧
  (∀ (src : Nat) (q : Datagram) (s : State), s.regsOk = true →
    let p := q.payload
    let once := ∀ r, s.sec.cmdDone = some r → ¬ (r.1 = requester src ∧ r.2.1 = q.tag)
    (freshRequest s src q (· == 0x05) → once →
      (p.length ≠ 3389 → ∃ t, exec (.clrrec src q) s = .next t ∧ answered t src q 1 [] ∧ t.recorder.clearing = s.recorder.clearing ∧
        t.isk.long = s.isk.long ∧ t.reg Reg.recNonce = Config.freeValue s.freeIndex % 2 ^ 64 ∧ t.cores = s.cores ∧ t.hbm = s.hbm) ∧
      (p.length = 3389 →
        let may := (s.clrSigner p).isSome = true ∧ le p 8 8 = s.reg Reg.recNonce ∧ le p 0 4 = s.own.node ∧
          s.recorder.frozen = none ∧ s.recorder.clearing = false ∧ (le p 4 4 + 1) % 2 ^ 32 = s.nextSeq
        ∃ t, exec (.clrrec src q) s = .next t ∧ t.cores = s.cores ∧ t.hbm = s.hbm ∧
          (may → t.recorder.clearing = true ∧ ∃ x, t.isk.long = s.isk.long ++ [x] ∧ x.src = src ∧ x.tag = q.tag ∧ x.kind = 0) ∧
          (¬ may → t.recorder.clearing = s.recorder.clearing ∧ t.isk.long = s.isk.long ∧
            ∃ e, e ≠ 0 ∧ answered t src q e []))) ∧
    (∀ x, (s.iskActive = true ∨ s.flag Reg.secBoot 4 = true) → s.isk.long.find? (fun x => x.src == src) = some x → src < 16 →
      ∃ t, exec (.mailboxCommandComplete src) s = .next t ∧ (∀ y, y ∈ t.isk.long → y.src ≠ src) ∧
        Tab.find t.isk.done (requester src) = some ⟨x.tag, 0, []⟩ ∧ Tab.get t.isk.mbox 0 (4096 * src) = 3 ∧ t.cores = s.cores ∧
        t.hbm = s.hbm ∧
        (x.kind = 0 → s.recorder.frozen = none → t.recorder.clearing = false ∧ t.recorder.waiting = [] ∧
          t.field Reg.recStat 32 16 = (s.field Reg.recStat 32 16 + 1) % 2 ^ 16 ∧
          t.sec.cmdDone = some (requester src, x.tag, 0)) ∧
        (x.kind = 1 → t.sec.erasing = false ∧
          (x.data = 1 → t.sec.pkgArea = [] ∧ t.sec.bank0 = s.sec.bank0 ∧ t.sec.bank1 = s.sec.bank1) ∧
          (x.data ≠ 1 → (t.sec.bank s.bankIdle).bytes = [] ∧ t.sec.bank s.bankCur = s.sec.bank s.bankCur)) ∧
        (x.kind = 2 → s.host.calStage.isSome = true → t.host.calStage = none ∧ t.host.calBusy = false ∧
          t.field Reg.calStat 6 2 = 0 ∧ t.host.calLoaded = s.host.calLoaded)))

/-! ### Signed commands, staging, calibration and SPDM (R443, R444, R447-R449, R477-R479) -/

/-- Signed commands (R443, R444): a fragment past the buffer is refused, one that does not complete its envelope is kept, and the
completing one is verified: with code 0 the command's effect is made, with another nothing of it is and SEC_BOOT shows the code. -/
def Obligations.SignedCommands : Prop :=
  ∀ (src : Nat) (q : Datagram) (s : State), s.regsOk = true → s.sec.owners.keys.Pairwise (· < ·) →
    freshRequest s src q (· == 0x09) → (∀ r, s.sec.cmdDone = some r → ¬ (r.1 = requester src ∧ r.2.1 = q.tag)) →
    let u := s.slotFill src q
    (s.withFragment src q = none → ∃ t, exec (.signed src q) s = .next t ∧ answered t src q 1 [] ∧ t.sec = s.sec ∧
      t.cores = s.cores ∧ t.hbm = s.hbm) ∧
    (∀ l, s.withFragment src q = some l → s.completes src q = false → ∃ t, exec (.signed src q) s = .next t ∧
      answered t src q 0 [] ∧ Tab.find t.sec.frags (requester src) = some l ∧ t.sec.owners = s.sec.owners ∧ t.sec.keys = s.sec.keys ∧
      t.reg Reg.secFuse = s.reg Reg.secFuse ∧ t.cores = s.cores ∧ t.hbm = s.hbm) ∧
    (∀ l c k, s.withFragment src q = some l → s.completes src q = true → 1 ≤ assembledLen l → assembledLen l ≤ 60032 →
      let r := requester src
      let w := { u with sec := { u.sec with frags := Tab.erase u.sec.frags r, lasts := u.sec.lasts.filter (· != r) } }
      let h := areaBytes (assembled l) 0 envBytes
      let p := areaBytes (assembled l) envBytes (assembledLen l)
      let code := w.envVerify h p (w.cmdPermits h p)
      let a := le p 1 1
      le p 0 1 = k → s.completedCmd src q = k → c ∈ [(Instr.signed src q, k), (.ownerset src q, 1), (.ownerdel src q, 2),
        (.revoke src q, 3), (.svncommit src q, 4), (.keyinst src q, 5), (.keydel src q, 6), (.coreset src q, 7)] → c.2 = k →
      ∃ t e, exec c.1 s = .next t ∧ answered t src q e [] ∧ (e = 0 ∨ e = 2) ∧ t.sec.cmdDone = some (r, q.tag, e) ∧
        (code ≠ 0 → e = 2 ∧ t.sec.owners = s.sec.owners ∧ t.sec.keys = s.sec.keys ∧ t.reg Reg.secFuse = s.reg Reg.secFuse ∧
          t.reg Reg.secCmdRej = min (s.field Reg.secCmdRej 0 48 + 1) (2 ^ 48 - 1) ∧ t.field Reg.secBoot 5 8 = code % 256 ∧
          t.cores = s.cores ∧ t.hbm = s.hbm) ∧
        (code = 0 →
          (k = 1 → a < 4 → p.length = 0x7D0 → Tab.find t.sec.owners a = some ((p.drop 0x10).take 1984)) ∧
          (k = 2 → a < 4 → Tab.find t.sec.owners a = none) ∧
          (k = 3 → 1 ≤ a → a < 4 → s.kepoch < a → t.field Reg.secFuse 0 2 = a) ∧
          (k = 4 → 1 ≤ a → a ≤ 5 → le p 2 1 < 64 → le p 2 1 ≤ s.runningSvn a → s.svnFuse a < le p 2 1 →
            t.field Reg.secFuse (6 * a - 4) 6 = le p 2 1) ∧
          (k = 5 →
            let h2 := (p.drop 0x10).take envBytes
            let chain := (p.drop (0x10 + envBytes)).take (envLen h2)
            (w.objectJudged h code).envVerify h2 chain (envType h2 == 6 && vendorSlot (envKslot h2)) = 0 → s.sec.keys.length < 64 →
              Config.chainKeys chain ∈ t.sec.keys) ∧
          (k = 6 → ∀ x, x ∈ t.sec.keys → keyId x ≠ le p 8 8) ∧
          (k = 7 → le p 1 2 < 200 → le p 3 1 < 8 → s.grmState (le p 1 2) ≠ 6 → s.grmState (le p 1 2) ≠ 7 →
            t.field (Reg.grmCore (le p 1 2)) 3 3 = le p 3 1)))

/-- An FWSTAGE or CALIO request is taken: of its ACTION, by the active controller, or in recovery mode from a slot. -/
def stageTaken (s : State) (a src : Nat) (q : Datagram) : Prop :=
  q.op = 0x0B ∧ fwAction q = a ∧ (∀ d, Tab.find s.isk.done (requester src) = some d → d.tag < q.tag) ∧ q.payload.length ≤ 4032 ∧
  (if s.flag Reg.secBoot 4 = true then src < 16 ∧ q.tag < 2 ^ 32 ∧ (∀ l, l ∈ s.isk.long → l.src ≠ src) ∧ fwArea q = 0
    else s.mboxTakes src q (· == 0x0B) = true)

/-- Staging (R449, R450): BEGIN opens an area and begins its erase, or finds one open; DATA writes into the area that is open and erased, or is
refused; FINISH closes it with the code its verification gives; CANCEL closes an open one, not one that is being erased. -/
def Obligations.Staging : Prop :=
  ∀ (src : Nat) (q : Datagram) (s : State), s.regsOk = true →
    let area := fwArea q
    let off := q.word20.toNat % 2 ^ 32
    let u := s.slotFill src q
    let open' := s.sec.staging = some area ∧ s.sec.erasing = false
    let runs (x : Instr) (err : Nat) (p : State → Prop) : Prop :=
      ∃ t, exec x s = .next t ∧ answered t src q err [] ∧ t.cores = s.cores ∧ p t
    let same (t : State) : Prop := t.sec = s.sec ∧ t.hbm = s.hbm
    (stageTaken s 0 src q →
      (s.sec.staging = none → ∃ t, exec (.fwstageBegin src q) s = .next t ∧ t.sec.staging = some area ∧ t.sec.erasing = true ∧
        (∃ l, t.isk.long = s.isk.long ++ [l] ∧ l.src = src ∧ l.tag = q.tag ∧ l.kind = 1 ∧ l.data = area) ∧
        (src < 16 → Tab.get t.isk.mbox 0 (4096 * src) = 7) ∧ t.cores = s.cores ∧ t.hbm = s.hbm) ∧
      (s.sec.staging.isSome = true → runs (.fwstageBegin src q) 3 same)) ∧
    (stageTaken s 1 src q →
      let fits := off + q.payload.length ≤ if area = 1 then pkgSize else bankSize
      (¬ open' → runs (.fwstageData src q) 3 same) ∧ (open' → ¬ fits → runs (.fwstageData src q) 1 same) ∧
      (open' → fits → runs (.fwstageData src q) 0 (fun t => t.hbm = s.hbm ∧
        (area = 1 → t.sec.pkgArea = putBytes s.sec.pkgArea off q.payload ∧ t.sec.bank0 = s.sec.bank0 ∧ t.sec.bank1 = s.sec.bank1) ∧
        (area ≠ 1 → (t.sec.bank s.bankIdle).bytes = putBytes (s.sec.bank s.bankIdle).bytes off q.payload ∧
          t.sec.bank s.bankCur = s.sec.bank s.bankCur ∧ t.sec.pkgArea = s.sec.pkgArea)))) ∧
    (stageTaken s 2 src q →
      (¬ open' → runs (.fwstageFinish src q) 3 same) ∧
      (open' →
        let w := { u with sec := { u.sec with staging := none } }
        runs (.fwstageFinish src q) (if area = 1 then w.finishPackage.1 else w.finishBank.1) (fun t => t.sec.staging = none ∧ t.hbm = s.hbm ∧
          (area ≠ 1 → t.flag Reg.secBoot 2 = (w.finishBank.1 == 0))))) ∧
    (stageTaken s 3 src q →
      (s.sec.erasing = true → runs (.fwstageCancel src q) 3 same) ∧
      (s.sec.erasing = false → runs (.fwstageCancel src q) 0 (fun t => t.sec = { s.sec with staging := none } ∧ t.hbm = s.hbm)))

/-- Calibration (R477-R479): without READY every CALIO is refused with 3; READ gives the set in flash from its OFFSET, OPEN takes it for
staging, WRITE and CAPTURE change the staging copy, COMMIT of one that checks in full begins to run and of another is refused,
CANCEL discards it. -/
def Obligations.CalibrationCommands : Prop :=
  ∀ (src : Nat) (q : Datagram) (s : State), s.regsOk = true → freshRequest s src q (· == 0x0D) →
    let off := calOff q
    let l := q.payload
    let act' (a : Nat) : Prop := q.word18.toNat % 8 = a ∧ s.flag Reg.hifBs 7 = true
    let runs (x : Instr) (err : Nat) (r : List Byte) (p : State → Prop) : Prop :=
      ∃ t, exec x s = .next t ∧ answered t src q err r ∧ t.cores = s.cores ∧ t.hbm = s.hbm ∧ t.host.calFlash = s.host.calFlash ∧ p t
    let any (_ : State) : Prop := True
    (∀ x, x ∈ [(Instr.calioRead src q, 0), (.calioOpen src q, 1), (.calioWrite src q, 2), (.calioCapture src q, 3),
        (.calioCommit src q, 4), (.calioCancel src q, 5)] → q.word18.toNat % 8 = x.2 → s.flag Reg.hifBs 7 = false →
      runs x.1 3 [] (fun t => t.host.calStage = s.host.calStage)) ∧
    (act' 0 → (off < calSize → runs (.calioRead src q) 0 (areaBytes s.host.calFlash off (min 4032 (calSize - off))) any) ∧
      (calSize ≤ off → runs (.calioRead src q) 1 [] any)) ∧
    (act' 1 → (s.host.calBusy = false → runs (.calioOpen src q) 0 [] (fun t => t.host.calStage = some s.host.calFlash ∧
        t.flag Reg.calStat 6 = true)) ∧
      (s.host.calBusy = true → runs (.calioOpen src q) 3 [] any)) ∧
    (∀ m, s.host.calStage = some m → s.host.calBusy = false →
      (act' 2 → (off + l.length ≤ calSize → runs (.calioWrite src q) 0 [] (fun t => t.host.calStage = some (putBytes m off l))) ∧
        (calSize < off + l.length → runs (.calioWrite src q) 1 [] (fun t => t.host.calStage = some m))) ∧
      (act' 3 → ((calSec q = 0 ∨ calSec q = 1 ∨ calSec q = 3) → runs (.calioCapture src q) 0 [] (fun t => t.host.calStage.isSome = true)) ∧
        (calSec q ≠ 0 → calSec q ≠ 1 → calSec q ≠ 3 → runs (.calioCapture src q) 1 [] (fun t => t.host.calStage = some m))) ∧
      (act' 4 → (calValid m (s.reg Reg.fuseSerial) = [0, 1, 2, 3, 4] → ∃ t, exec (.calioCommit src q) s = .next t ∧
          t.host.calBusy = true ∧ t.flag Reg.calStat 7 = true ∧ t.host.calFlash = s.host.calFlash ∧ t.host.calStage = some m ∧
          (∃ x, t.isk.long = s.isk.long ++ [x] ∧ x.src = src ∧ x.kind = 2) ∧ t.cores = s.cores ∧ t.hbm = s.hbm) ∧
        (calValid m (s.reg Reg.fuseSerial) ≠ [0, 1, 2, 3, 4] → runs (.calioCommit src q) 1 [] (fun t => t.host.calStage = some m))) ∧
      (act' 5 → runs (.calioCancel src q) 0 [] (fun t => t.host.calStage = none ∧ t.flag Reg.calStat 6 = false))) ∧
    (s.host.calStage = none → ∀ x, x ∈ [(Instr.calioWrite src q, 2), (.calioCapture src q, 3), (.calioCommit src q, 4)] → act' x.2 →
      runs x.1 3 [] (fun t => t.host.calStage = none))

/-- SPDM (R447, R448; the message layouts are those of log entry 45): a message of each kind is answered with the response for it, an
unsupported one with ERROR, over the mailbox and the ports; over DOE the response leaves at once. The keys, owners and fuses stay. -/
def Obligations.SpdmMessages : Prop :=
  ∀ (src : Nat) (q : Datagram) (s : State), s.regsOk = true → q.op = 0x0A →
    let l := q.payload
    let u := s.slotFill src q
    ∀ x, x ∈ [(Instr.spdm src q, true), (.getVersion src q, spdmCode l == spdmGetVersion),
        (.getCapabilities src q, spdmCode l == spdmGetCapabilities), (.negotiateAlgorithms src q, spdmCode l == spdmNegotiate),
        (.getDigests src q, spdmCode l == spdmGetDigests), (.getCertificate src q, spdmCode l == spdmGetCertificate),
        (.challenge src q, spdmCode l == spdmChallenge), (.getMeasurements src q, spdmCode l == spdmGetMeasurements),
        (.getMdSig src q, spdmVendorOp l == some 1), (.getMdCert src q, spdmVendorOp l == some 2),
        (.spdmUnsupportedRequest src q, !spdmSupported l)] → x.2 = true →
      let kept (t : State) : Prop := t.cores = s.cores ∧ t.hbm = s.hbm ∧ t.sec.owners = s.sec.owners ∧ t.sec.keys = s.sec.keys ∧
        t.reg Reg.secFuse = s.reg Reg.secFuse
      (freshRequest s src q (· == 0x0A) → ∃ t r, exec x.1 s = .next t ∧ answered t src q 0 r ∧ kept t ∧
        r = (u.spdmAnswer src l).1 ∧ (spdmCode l = spdmGetVersion → r = spdmVersion) ∧
        (spdmSupported l = false → spdmVendorOp l = none → r = spdmError 7 (spdmCode l))) ∧
      (src = 18 → s.host.bs1Done = true → s.iskActive = true → ∃ t, exec x.1 s = .next t ∧ kept t ∧
        Output.doe (s.spdmAnswer src l).1 ∈ t.out)

/-! ### The host interface (R10-R15, R456-R468) -/

/-- Register and memory accesses (R11, R13, R14, R460, R461): a read of a register answers with its value, a refused or misaligned one with 0; a
64-bit write of an ordinary register keeps RO bits, clears W1C bits and writes RW bits, a narrower or misaligned one is refused;
refusals are counted and shown in HIF_REFUSE; the window of BAR2 moves, and its requests reach HBM in order or are refused. -/
def Obligations.HostAccesses : Prop :=
  ∀ (pf off : Nat) (s : State), s.regsOk = true → pf < 2 →
    let refused (t : State) (kind : Nat) (bar2 : Bool) : Prop :=
      t.reg Reg.hifRefused = min (s.field Reg.hifRefused 0 48 + 1) (2 ^ 48 - 1) ∧
      t.reg Reg.hifRefuse = kind % 16 + pf % 2 * 16 + b2n bar2 * 32 + off % 2 ^ 40 * 256 ∧ t.cores = s.cores ∧ t.hbm = s.hbm ∧
      (∀ k, bookKey k = false → k ≠ Reg.hifRefused → k ≠ Reg.hifRefuse → t.reg k = s.reg k)
    let shown (v : Nat) (t : State) : Prop := Output.read pf off (BitVec.ofNat 64 v) ∈ t.out ∧ t.cores = s.cores ∧ t.hbm = s.hbm
    (∀ n, n ≠ 0 → n % 8 = 0 → off % 8 = 0 → ∃ t, exec (.registerRead pf off n) s = .next t ∧
      shown (if s.readRefusal pf off = none then s.regRead pf off else 0) t ∧
      (∀ k, n = 8 → s.readRefusal pf off = some k → refused t k false)) ∧
    (off % 4 = 0 → s.readRefusal pf (off - off % 8) = none → ∃ t, exec (.registerRead pf off 4) s = .next t ∧
      shown (bits (s.regRead pf (off - off % 8)) (off % 8 * 8) 32) t) ∧
    (∀ n, ¬ (n = 4 ∧ off % 4 = 0) → ¬ (n ≠ 0 ∧ n % 8 = 0 ∧ off % 8 = 0) → ∃ t, exec (.registerRead pf off n) s = .next t ∧
      shown 0 t ∧ refused t 7 false) ∧
    (∀ (v : Word) (l : List (BitVec 64)),
      (∀ n, n < 8 → ∃ t, exec (.registerWrite pf off n (v :: l)) s = .next t ∧ refused t 1 false) ∧
      (∀ n, 8 ≤ n → (n % 8 ≠ 0 ∨ off % 8 ≠ 0) → ∃ t, exec (.registerWrite pf off n (v :: l)) s = .next t ∧ refused t 7 false) ∧
      (off % 8 = 0 → ∀ k, s.writeRefusal pf off = some k → ∃ t, exec (.registerWrite pf off 8 (v :: l)) s = .next t ∧ refused t k false) ∧
      (∀ i, off % 8 = 0 → s.writeRefusal pf off = none → s.unitWrite pf off v.toNat = none → regInfo off = some i →
        let x := s.reg (regKey pf off)
        let ro := x - (x &&& i.rw)
        Answers (.registerWrite pf off 8 (v :: l)) s
          (s.setReg (regKey pf off) ((ro - (ro &&& (v.toNat &&& i.w1c))) + (v.toNat &&& i.rw))))) ∧
    (∀ v : Word, s.writeRefusal pf Reg.hifAper = none → ∃ t, exec (.hifAperWrite pf v) s = .next t ∧
      t.field (regKey pf Reg.hifAper) 30 18 = v.toNat / 2 ^ 30 % 2 ^ 18 ∧ t.cores = s.cores ∧ t.hbm = s.hbm) ∧
    (∀ d : List Byte,
      (s.bar2Refusal pf off d.length = none → ∃ t, exec (.bar2Write pf off d) s = .next t ∧
        t.hbm = (s.memWrite (s.bar2Addr pf off) d).hbm ∧ t.cores = s.cores) ∧
      (∀ k, s.bar2Refusal pf off d.length = some k → ∃ t, exec (.bar2Write pf off d) s = .next t ∧ refused t k true)) ∧
    (∀ n,
      (∀ m, s.bar2Refusal pf off n = none → s.memRead (s.bar2Addr pf off) n = m → m.2.1 = none →
        ∃ t, exec (.bar2Read pf off n) s = .next t ∧ Output.bar2 pf off m.1 false ∈ t.out ∧ t.cores = s.cores) ∧
      (∀ k, s.bar2Refusal pf off n = some k → ∃ t, exec (.bar2Read pf off n) s = .next t ∧ refused t k true ∧
        Output.bar2 pf off (List.replicate n 0xFF) false ∈ t.out))

/-- The link and HIF_OFFLINE (R456, R463, R465, R468): a link that comes up shows its rate and width; its loss, PERST and a hot reset take it
down, count it and reset both functions, a function-level reset only its own; GO withdraws the module unless a piste entry is ACTIVE,
and 2,000 ns after the withdrawal main power is removed and READY set. -/
def Obligations.LinkAndOffline : Prop :=
  ∀ (s : State), s.regsOk = true →
    let reset (t : State) (pf : Nat) : Prop := t.reg (regKey pf Reg.hifAper) = (regReset (regKey pf Reg.hifAper)).toNat ∧
      t.reg (regKey pf Reg.hifIrqEn) = (regReset (regKey pf Reg.hifIrqEn)).toNat
    let rest (t : State) : Prop := t.cores = s.cores ∧ t.hbm = s.hbm ∧ t.fab = s.fab ∧ t.time = s.time
    let down (t : State) : Prop := rest t ∧ reset t 0 ∧ reset t 1 ∧ t.flag Reg.hifStat 0 = false
    (∀ rate width, s.host.auxIn = true → s.flag Reg.hifStat 0 = false → ∃ t, exec (.linkUp rate width) s = .next t ∧ rest t ∧
      t.field Reg.hifStat 0 8 = 1 + rate % 8 * 2 + width % 16 * 16) ∧
    (s.flag Reg.hifStat 0 = true →
      (∀ x, x ∈ [Instr.linkDown, .hotReset, .perstAssert] → ∃ t, exec x s = .next t ∧ down t ∧
        t.reg Reg.hifLinkdown = min (s.field Reg.hifLinkdown 0 48 + 1) (2 ^ 48 - 1)) ∧
      (∀ pf, pf < 2 → ∃ t, exec (.functionLevelReset pf) s = .next t ∧ rest t ∧ reset t pf ∧
        t.reg (regKey (1 - pf) Reg.hifAper) = s.reg (regKey (1 - pf) Reg.hifAper) ∧
        t.reg (regKey (1 - pf) Reg.hifIrqEn) = s.reg (regKey (1 - pf) Reg.hifIrqEn) ∧ t.flag Reg.hifStat 0 = true)) ∧
    (s.flag Reg.hifStat 0 = false → ∃ t, exec .perstAssert s = .next t ∧ down t ∧ t.reg Reg.hifLinkdown = s.reg Reg.hifLinkdown) ∧
    (∀ (pf : Nat) (v : Word), s.writeRefusal pf Reg.hifOffline = none → v.toNat.testBit 0 = true → s.host.offlineT = none →
      let active := (List.range 16).any (fun e => pisteCode (s.reg (Reg.fabPisteA e)) == 0)
      (active = true → Answers (.offlineGo pf v) s s) ∧
      (active = false → ∃ t, exec (.offlineGo pf v) s = .next t ∧ t.host.offlineT = some (s.nowA + 10000) ∧ t.cores = s.cores ∧
        t.hbm = s.hbm)) ∧
    (∀ t0, s.host.offlineT = some t0 → t0 + 2000 ≤ s.nowA → ∃ t, exec .offlinePowerRemove s = .next t ∧ t.host.powered = false ∧
      t.host.offlineT = none ∧ t.flag Reg.hifStat 8 = true ∧ t.flag Reg.hifOffline 1 = true)
end

