-- ==== Sys2Proof/Laws/State.lean ====
section
/-! SUPPORT. Laws of the state: what each plain update leaves, field by field, so that no proof unfolds a record update. -/

namespace Sys2Proof.Machine

variable (s : State)

/-! ### setReg -/

@[simp] theorem State.setReg_pending (k v : Nat) : (s.setReg k v).pending = s.pending := rfl
@[simp] theorem State.setReg_time (k v : Nat) : (s.setReg k v).time = s.time := rfl
@[simp] theorem State.setReg_recorder (k v : Nat) : (s.setReg k v).recorder = s.recorder := rfl
@[simp] theorem State.setReg_cores (k v : Nat) : (s.setReg k v).cores = s.cores := rfl
@[simp] theorem State.setReg_regions (k v : Nat) : (s.setReg k v).regions = s.regions := rfl
@[simp] theorem State.setReg_disp (k v : Nat) : (s.setReg k v).disp = s.disp := rfl
@[simp] theorem State.setReg_devSems (k v : Nat) : (s.setReg k v).devSems = s.devSems := rfl
@[simp] theorem State.setReg_hbm (k v : Nat) : (s.setReg k v).hbm = s.hbm := rfl
@[simp] theorem State.setReg_ecc (k v : Nat) : (s.setReg k v).ecc = s.ecc := rfl
@[simp] theorem State.setReg_traces (k v : Nat) : (s.setReg k v).traces = s.traces := rfl
@[simp] theorem State.setReg_host (k v : Nat) : (s.setReg k v).host = s.host := rfl
@[simp] theorem State.setReg_fab (k v : Nat) : (s.setReg k v).fab = s.fab := rfl
@[simp] theorem State.setReg_gate (k v : Nat) : (s.setReg k v).gate = s.gate := rfl
@[simp] theorem State.setReg_grm (k v : Nat) : (s.setReg k v).grm = s.grm := rfl
@[simp] theorem State.setReg_rst (k v : Nat) : (s.setReg k v).rst = s.rst := rfl
@[simp] theorem State.setReg_nmes (k v : Nat) : (s.setReg k v).nmes = s.nmes := rfl
@[simp] theorem State.setReg_routes (k v : Nat) : (s.setReg k v).routes = s.routes := rfl
@[simp] theorem State.setReg_gstop (k v : Nat) : (s.setReg k v).gstop = s.gstop := rfl
@[simp] theorem State.setReg_ckp (k v : Nat) : (s.setReg k v).ckp = s.ckp := rfl
@[simp] theorem State.setReg_sec (k v : Nat) : (s.setReg k v).sec = s.sec := rfl
@[simp] theorem State.setReg_queues (k v : Nat) : (s.setReg k v).queues = s.queues := rfl
@[simp] theorem State.setReg_isk (k v : Nat) : (s.setReg k v).isk = s.isk := rfl
@[simp] theorem State.setReg_out (k v : Nat) : (s.setReg k v).out = s.out := rfl
@[simp] theorem State.setReg_freeIndex (k v : Nat) : (s.setReg k v).freeIndex = s.freeIndex := rfl

/-! ### setField -/

@[simp] theorem State.setField_pending (k lo w v : Nat) : (s.setField k lo w v).pending = s.pending := rfl
@[simp] theorem State.setField_time (k lo w v : Nat) : (s.setField k lo w v).time = s.time := rfl
@[simp] theorem State.setField_recorder (k lo w v : Nat) : (s.setField k lo w v).recorder = s.recorder := rfl
@[simp] theorem State.setField_cores (k lo w v : Nat) : (s.setField k lo w v).cores = s.cores := rfl
@[simp] theorem State.setField_regions (k lo w v : Nat) : (s.setField k lo w v).regions = s.regions := rfl
@[simp] theorem State.setField_disp (k lo w v : Nat) : (s.setField k lo w v).disp = s.disp := rfl
@[simp] theorem State.setField_devSems (k lo w v : Nat) : (s.setField k lo w v).devSems = s.devSems := rfl
@[simp] theorem State.setField_hbm (k lo w v : Nat) : (s.setField k lo w v).hbm = s.hbm := rfl
@[simp] theorem State.setField_ecc (k lo w v : Nat) : (s.setField k lo w v).ecc = s.ecc := rfl
@[simp] theorem State.setField_traces (k lo w v : Nat) : (s.setField k lo w v).traces = s.traces := rfl
@[simp] theorem State.setField_host (k lo w v : Nat) : (s.setField k lo w v).host = s.host := rfl
@[simp] theorem State.setField_fab (k lo w v : Nat) : (s.setField k lo w v).fab = s.fab := rfl
@[simp] theorem State.setField_gate (k lo w v : Nat) : (s.setField k lo w v).gate = s.gate := rfl
@[simp] theorem State.setField_grm (k lo w v : Nat) : (s.setField k lo w v).grm = s.grm := rfl
@[simp] theorem State.setField_rst (k lo w v : Nat) : (s.setField k lo w v).rst = s.rst := rfl
@[simp] theorem State.setField_nmes (k lo w v : Nat) : (s.setField k lo w v).nmes = s.nmes := rfl
@[simp] theorem State.setField_routes (k lo w v : Nat) : (s.setField k lo w v).routes = s.routes := rfl
@[simp] theorem State.setField_gstop (k lo w v : Nat) : (s.setField k lo w v).gstop = s.gstop := rfl
@[simp] theorem State.setField_ckp (k lo w v : Nat) : (s.setField k lo w v).ckp = s.ckp := rfl
@[simp] theorem State.setField_sec (k lo w v : Nat) : (s.setField k lo w v).sec = s.sec := rfl
@[simp] theorem State.setField_queues (k lo w v : Nat) : (s.setField k lo w v).queues = s.queues := rfl
@[simp] theorem State.setField_isk (k lo w v : Nat) : (s.setField k lo w v).isk = s.isk := rfl
@[simp] theorem State.setField_out (k lo w v : Nat) : (s.setField k lo w v).out = s.out := rfl
@[simp] theorem State.setField_freeIndex (k lo w v : Nat) : (s.setField k lo w v).freeIndex = s.freeIndex := rfl

/-! ### setFlag -/

@[simp] theorem State.setFlag_pending (k i : Nat) : (s.setFlag k i).pending = s.pending := rfl
@[simp] theorem State.setFlag_time (k i : Nat) : (s.setFlag k i).time = s.time := rfl
@[simp] theorem State.setFlag_recorder (k i : Nat) : (s.setFlag k i).recorder = s.recorder := rfl
@[simp] theorem State.setFlag_cores (k i : Nat) : (s.setFlag k i).cores = s.cores := rfl
@[simp] theorem State.setFlag_regions (k i : Nat) : (s.setFlag k i).regions = s.regions := rfl
@[simp] theorem State.setFlag_disp (k i : Nat) : (s.setFlag k i).disp = s.disp := rfl
@[simp] theorem State.setFlag_devSems (k i : Nat) : (s.setFlag k i).devSems = s.devSems := rfl
@[simp] theorem State.setFlag_hbm (k i : Nat) : (s.setFlag k i).hbm = s.hbm := rfl
@[simp] theorem State.setFlag_ecc (k i : Nat) : (s.setFlag k i).ecc = s.ecc := rfl
@[simp] theorem State.setFlag_traces (k i : Nat) : (s.setFlag k i).traces = s.traces := rfl
@[simp] theorem State.setFlag_host (k i : Nat) : (s.setFlag k i).host = s.host := rfl
@[simp] theorem State.setFlag_fab (k i : Nat) : (s.setFlag k i).fab = s.fab := rfl
@[simp] theorem State.setFlag_gate (k i : Nat) : (s.setFlag k i).gate = s.gate := rfl
@[simp] theorem State.setFlag_grm (k i : Nat) : (s.setFlag k i).grm = s.grm := rfl
@[simp] theorem State.setFlag_rst (k i : Nat) : (s.setFlag k i).rst = s.rst := rfl
@[simp] theorem State.setFlag_nmes (k i : Nat) : (s.setFlag k i).nmes = s.nmes := rfl
@[simp] theorem State.setFlag_routes (k i : Nat) : (s.setFlag k i).routes = s.routes := rfl
@[simp] theorem State.setFlag_gstop (k i : Nat) : (s.setFlag k i).gstop = s.gstop := rfl
@[simp] theorem State.setFlag_ckp (k i : Nat) : (s.setFlag k i).ckp = s.ckp := rfl
@[simp] theorem State.setFlag_sec (k i : Nat) : (s.setFlag k i).sec = s.sec := rfl
@[simp] theorem State.setFlag_queues (k i : Nat) : (s.setFlag k i).queues = s.queues := rfl
@[simp] theorem State.setFlag_isk (k i : Nat) : (s.setFlag k i).isk = s.isk := rfl
@[simp] theorem State.setFlag_out (k i : Nat) : (s.setFlag k i).out = s.out := rfl
@[simp] theorem State.setFlag_freeIndex (k i : Nat) : (s.setFlag k i).freeIndex = s.freeIndex := rfl

/-! ### resetReg -/

@[simp] theorem State.resetReg_pending (k : Nat) : (s.resetReg k).pending = s.pending := rfl
@[simp] theorem State.resetReg_time (k : Nat) : (s.resetReg k).time = s.time := rfl
@[simp] theorem State.resetReg_recorder (k : Nat) : (s.resetReg k).recorder = s.recorder := rfl
@[simp] theorem State.resetReg_cores (k : Nat) : (s.resetReg k).cores = s.cores := rfl
@[simp] theorem State.resetReg_regions (k : Nat) : (s.resetReg k).regions = s.regions := rfl
@[simp] theorem State.resetReg_disp (k : Nat) : (s.resetReg k).disp = s.disp := rfl
@[simp] theorem State.resetReg_devSems (k : Nat) : (s.resetReg k).devSems = s.devSems := rfl
@[simp] theorem State.resetReg_hbm (k : Nat) : (s.resetReg k).hbm = s.hbm := rfl
@[simp] theorem State.resetReg_ecc (k : Nat) : (s.resetReg k).ecc = s.ecc := rfl
@[simp] theorem State.resetReg_traces (k : Nat) : (s.resetReg k).traces = s.traces := rfl
@[simp] theorem State.resetReg_host (k : Nat) : (s.resetReg k).host = s.host := rfl
@[simp] theorem State.resetReg_fab (k : Nat) : (s.resetReg k).fab = s.fab := rfl
@[simp] theorem State.resetReg_gate (k : Nat) : (s.resetReg k).gate = s.gate := rfl
@[simp] theorem State.resetReg_grm (k : Nat) : (s.resetReg k).grm = s.grm := rfl
@[simp] theorem State.resetReg_rst (k : Nat) : (s.resetReg k).rst = s.rst := rfl
@[simp] theorem State.resetReg_nmes (k : Nat) : (s.resetReg k).nmes = s.nmes := rfl
@[simp] theorem State.resetReg_routes (k : Nat) : (s.resetReg k).routes = s.routes := rfl
@[simp] theorem State.resetReg_gstop (k : Nat) : (s.resetReg k).gstop = s.gstop := rfl
@[simp] theorem State.resetReg_ckp (k : Nat) : (s.resetReg k).ckp = s.ckp := rfl
@[simp] theorem State.resetReg_sec (k : Nat) : (s.resetReg k).sec = s.sec := rfl
@[simp] theorem State.resetReg_queues (k : Nat) : (s.resetReg k).queues = s.queues := rfl
@[simp] theorem State.resetReg_isk (k : Nat) : (s.resetReg k).isk = s.isk := rfl
@[simp] theorem State.resetReg_out (k : Nat) : (s.resetReg k).out = s.out := rfl
@[simp] theorem State.resetReg_freeIndex (k : Nat) : (s.resetReg k).freeIndex = s.freeIndex := rfl

/-! ### resetRegs -/

@[simp] theorem State.resetRegs_pending (lo hi : Nat) : (s.resetRegs lo hi).pending = s.pending := rfl
@[simp] theorem State.resetRegs_time (lo hi : Nat) : (s.resetRegs lo hi).time = s.time := rfl
@[simp] theorem State.resetRegs_recorder (lo hi : Nat) : (s.resetRegs lo hi).recorder = s.recorder := rfl
@[simp] theorem State.resetRegs_cores (lo hi : Nat) : (s.resetRegs lo hi).cores = s.cores := rfl
@[simp] theorem State.resetRegs_regions (lo hi : Nat) : (s.resetRegs lo hi).regions = s.regions := rfl
@[simp] theorem State.resetRegs_disp (lo hi : Nat) : (s.resetRegs lo hi).disp = s.disp := rfl
@[simp] theorem State.resetRegs_devSems (lo hi : Nat) : (s.resetRegs lo hi).devSems = s.devSems := rfl
@[simp] theorem State.resetRegs_hbm (lo hi : Nat) : (s.resetRegs lo hi).hbm = s.hbm := rfl
@[simp] theorem State.resetRegs_ecc (lo hi : Nat) : (s.resetRegs lo hi).ecc = s.ecc := rfl
@[simp] theorem State.resetRegs_traces (lo hi : Nat) : (s.resetRegs lo hi).traces = s.traces := rfl
@[simp] theorem State.resetRegs_host (lo hi : Nat) : (s.resetRegs lo hi).host = s.host := rfl
@[simp] theorem State.resetRegs_fab (lo hi : Nat) : (s.resetRegs lo hi).fab = s.fab := rfl
@[simp] theorem State.resetRegs_gate (lo hi : Nat) : (s.resetRegs lo hi).gate = s.gate := rfl
@[simp] theorem State.resetRegs_grm (lo hi : Nat) : (s.resetRegs lo hi).grm = s.grm := rfl
@[simp] theorem State.resetRegs_rst (lo hi : Nat) : (s.resetRegs lo hi).rst = s.rst := rfl
@[simp] theorem State.resetRegs_nmes (lo hi : Nat) : (s.resetRegs lo hi).nmes = s.nmes := rfl
@[simp] theorem State.resetRegs_routes (lo hi : Nat) : (s.resetRegs lo hi).routes = s.routes := rfl
@[simp] theorem State.resetRegs_gstop (lo hi : Nat) : (s.resetRegs lo hi).gstop = s.gstop := rfl
@[simp] theorem State.resetRegs_ckp (lo hi : Nat) : (s.resetRegs lo hi).ckp = s.ckp := rfl
@[simp] theorem State.resetRegs_sec (lo hi : Nat) : (s.resetRegs lo hi).sec = s.sec := rfl
@[simp] theorem State.resetRegs_queues (lo hi : Nat) : (s.resetRegs lo hi).queues = s.queues := rfl
@[simp] theorem State.resetRegs_isk (lo hi : Nat) : (s.resetRegs lo hi).isk = s.isk := rfl
@[simp] theorem State.resetRegs_out (lo hi : Nat) : (s.resetRegs lo hi).out = s.out := rfl
@[simp] theorem State.resetRegs_freeIndex (lo hi : Nat) : (s.resetRegs lo hi).freeIndex = s.freeIndex := rfl

/-! ### countN -/

@[simp] theorem State.countN_pending (k n : Nat) : (s.countN k n).pending = s.pending := rfl
@[simp] theorem State.countN_time (k n : Nat) : (s.countN k n).time = s.time := rfl
@[simp] theorem State.countN_recorder (k n : Nat) : (s.countN k n).recorder = s.recorder := rfl
@[simp] theorem State.countN_cores (k n : Nat) : (s.countN k n).cores = s.cores := rfl
@[simp] theorem State.countN_regions (k n : Nat) : (s.countN k n).regions = s.regions := rfl
@[simp] theorem State.countN_disp (k n : Nat) : (s.countN k n).disp = s.disp := rfl
@[simp] theorem State.countN_devSems (k n : Nat) : (s.countN k n).devSems = s.devSems := rfl
@[simp] theorem State.countN_hbm (k n : Nat) : (s.countN k n).hbm = s.hbm := rfl
@[simp] theorem State.countN_ecc (k n : Nat) : (s.countN k n).ecc = s.ecc := rfl
@[simp] theorem State.countN_traces (k n : Nat) : (s.countN k n).traces = s.traces := rfl
@[simp] theorem State.countN_host (k n : Nat) : (s.countN k n).host = s.host := rfl
@[simp] theorem State.countN_fab (k n : Nat) : (s.countN k n).fab = s.fab := rfl
@[simp] theorem State.countN_gate (k n : Nat) : (s.countN k n).gate = s.gate := rfl
@[simp] theorem State.countN_grm (k n : Nat) : (s.countN k n).grm = s.grm := rfl
@[simp] theorem State.countN_rst (k n : Nat) : (s.countN k n).rst = s.rst := rfl
@[simp] theorem State.countN_nmes (k n : Nat) : (s.countN k n).nmes = s.nmes := rfl
@[simp] theorem State.countN_routes (k n : Nat) : (s.countN k n).routes = s.routes := rfl
@[simp] theorem State.countN_gstop (k n : Nat) : (s.countN k n).gstop = s.gstop := rfl
@[simp] theorem State.countN_ckp (k n : Nat) : (s.countN k n).ckp = s.ckp := rfl
@[simp] theorem State.countN_sec (k n : Nat) : (s.countN k n).sec = s.sec := rfl
@[simp] theorem State.countN_queues (k n : Nat) : (s.countN k n).queues = s.queues := rfl
@[simp] theorem State.countN_isk (k n : Nat) : (s.countN k n).isk = s.isk := rfl
@[simp] theorem State.countN_out (k n : Nat) : (s.countN k n).out = s.out := rfl
@[simp] theorem State.countN_freeIndex (k n : Nat) : (s.countN k n).freeIndex = s.freeIndex := rfl

/-! ### count -/

@[simp] theorem State.count_pending (k : Nat) : (s.count k).pending = s.pending := rfl
@[simp] theorem State.count_time (k : Nat) : (s.count k).time = s.time := rfl
@[simp] theorem State.count_recorder (k : Nat) : (s.count k).recorder = s.recorder := rfl
@[simp] theorem State.count_cores (k : Nat) : (s.count k).cores = s.cores := rfl
@[simp] theorem State.count_regions (k : Nat) : (s.count k).regions = s.regions := rfl
@[simp] theorem State.count_disp (k : Nat) : (s.count k).disp = s.disp := rfl
@[simp] theorem State.count_devSems (k : Nat) : (s.count k).devSems = s.devSems := rfl
@[simp] theorem State.count_hbm (k : Nat) : (s.count k).hbm = s.hbm := rfl
@[simp] theorem State.count_ecc (k : Nat) : (s.count k).ecc = s.ecc := rfl
@[simp] theorem State.count_traces (k : Nat) : (s.count k).traces = s.traces := rfl
@[simp] theorem State.count_host (k : Nat) : (s.count k).host = s.host := rfl
@[simp] theorem State.count_fab (k : Nat) : (s.count k).fab = s.fab := rfl
@[simp] theorem State.count_gate (k : Nat) : (s.count k).gate = s.gate := rfl
@[simp] theorem State.count_grm (k : Nat) : (s.count k).grm = s.grm := rfl
@[simp] theorem State.count_rst (k : Nat) : (s.count k).rst = s.rst := rfl
@[simp] theorem State.count_nmes (k : Nat) : (s.count k).nmes = s.nmes := rfl
@[simp] theorem State.count_routes (k : Nat) : (s.count k).routes = s.routes := rfl
@[simp] theorem State.count_gstop (k : Nat) : (s.count k).gstop = s.gstop := rfl
@[simp] theorem State.count_ckp (k : Nat) : (s.count k).ckp = s.ckp := rfl
@[simp] theorem State.count_sec (k : Nat) : (s.count k).sec = s.sec := rfl
@[simp] theorem State.count_queues (k : Nat) : (s.count k).queues = s.queues := rfl
@[simp] theorem State.count_isk (k : Nat) : (s.count k).isk = s.isk := rfl
@[simp] theorem State.count_out (k : Nat) : (s.count k).out = s.out := rfl
@[simp] theorem State.count_freeIndex (k : Nat) : (s.count k).freeIndex = s.freeIndex := rfl

/-! ### countField -/

@[simp] theorem State.countField_pending (k lo w : Nat) : (s.countField k lo w).pending = s.pending := rfl
@[simp] theorem State.countField_time (k lo w : Nat) : (s.countField k lo w).time = s.time := rfl
@[simp] theorem State.countField_recorder (k lo w : Nat) : (s.countField k lo w).recorder = s.recorder := rfl
@[simp] theorem State.countField_cores (k lo w : Nat) : (s.countField k lo w).cores = s.cores := rfl
@[simp] theorem State.countField_regions (k lo w : Nat) : (s.countField k lo w).regions = s.regions := rfl
@[simp] theorem State.countField_disp (k lo w : Nat) : (s.countField k lo w).disp = s.disp := rfl
@[simp] theorem State.countField_devSems (k lo w : Nat) : (s.countField k lo w).devSems = s.devSems := rfl
@[simp] theorem State.countField_hbm (k lo w : Nat) : (s.countField k lo w).hbm = s.hbm := rfl
@[simp] theorem State.countField_ecc (k lo w : Nat) : (s.countField k lo w).ecc = s.ecc := rfl
@[simp] theorem State.countField_traces (k lo w : Nat) : (s.countField k lo w).traces = s.traces := rfl
@[simp] theorem State.countField_host (k lo w : Nat) : (s.countField k lo w).host = s.host := rfl
@[simp] theorem State.countField_fab (k lo w : Nat) : (s.countField k lo w).fab = s.fab := rfl
@[simp] theorem State.countField_gate (k lo w : Nat) : (s.countField k lo w).gate = s.gate := rfl
@[simp] theorem State.countField_grm (k lo w : Nat) : (s.countField k lo w).grm = s.grm := rfl
@[simp] theorem State.countField_rst (k lo w : Nat) : (s.countField k lo w).rst = s.rst := rfl
@[simp] theorem State.countField_nmes (k lo w : Nat) : (s.countField k lo w).nmes = s.nmes := rfl
@[simp] theorem State.countField_routes (k lo w : Nat) : (s.countField k lo w).routes = s.routes := rfl
@[simp] theorem State.countField_gstop (k lo w : Nat) : (s.countField k lo w).gstop = s.gstop := rfl
@[simp] theorem State.countField_ckp (k lo w : Nat) : (s.countField k lo w).ckp = s.ckp := rfl
@[simp] theorem State.countField_sec (k lo w : Nat) : (s.countField k lo w).sec = s.sec := rfl
@[simp] theorem State.countField_queues (k lo w : Nat) : (s.countField k lo w).queues = s.queues := rfl
@[simp] theorem State.countField_isk (k lo w : Nat) : (s.countField k lo w).isk = s.isk := rfl
@[simp] theorem State.countField_out (k lo w : Nat) : (s.countField k lo w).out = s.out := rfl
@[simp] theorem State.countField_freeIndex (k lo w : Nat) : (s.countField k lo w).freeIndex = s.freeIndex := rfl

/-! ### setRegion -/

@[simp] theorem State.setRegion_pending (k i : Nat) (r : Region) : (s.setRegion k i r).pending = s.pending := rfl
@[simp] theorem State.setRegion_time (k i : Nat) (r : Region) : (s.setRegion k i r).time = s.time := rfl
@[simp] theorem State.setRegion_recorder (k i : Nat) (r : Region) : (s.setRegion k i r).recorder = s.recorder := rfl
@[simp] theorem State.setRegion_regs (k i : Nat) (r : Region) : (s.setRegion k i r).regs = s.regs := rfl
@[simp] theorem State.setRegion_cores (k i : Nat) (r : Region) : (s.setRegion k i r).cores = s.cores := rfl
@[simp] theorem State.setRegion_disp (k i : Nat) (r : Region) : (s.setRegion k i r).disp = s.disp := rfl
@[simp] theorem State.setRegion_devSems (k i : Nat) (r : Region) : (s.setRegion k i r).devSems = s.devSems := rfl
@[simp] theorem State.setRegion_hbm (k i : Nat) (r : Region) : (s.setRegion k i r).hbm = s.hbm := rfl
@[simp] theorem State.setRegion_ecc (k i : Nat) (r : Region) : (s.setRegion k i r).ecc = s.ecc := rfl
@[simp] theorem State.setRegion_traces (k i : Nat) (r : Region) : (s.setRegion k i r).traces = s.traces := rfl
@[simp] theorem State.setRegion_host (k i : Nat) (r : Region) : (s.setRegion k i r).host = s.host := rfl
@[simp] theorem State.setRegion_fab (k i : Nat) (r : Region) : (s.setRegion k i r).fab = s.fab := rfl
@[simp] theorem State.setRegion_gate (k i : Nat) (r : Region) : (s.setRegion k i r).gate = s.gate := rfl
@[simp] theorem State.setRegion_grm (k i : Nat) (r : Region) : (s.setRegion k i r).grm = s.grm := rfl
@[simp] theorem State.setRegion_rst (k i : Nat) (r : Region) : (s.setRegion k i r).rst = s.rst := rfl
@[simp] theorem State.setRegion_nmes (k i : Nat) (r : Region) : (s.setRegion k i r).nmes = s.nmes := rfl
@[simp] theorem State.setRegion_routes (k i : Nat) (r : Region) : (s.setRegion k i r).routes = s.routes := rfl
@[simp] theorem State.setRegion_gstop (k i : Nat) (r : Region) : (s.setRegion k i r).gstop = s.gstop := rfl
@[simp] theorem State.setRegion_ckp (k i : Nat) (r : Region) : (s.setRegion k i r).ckp = s.ckp := rfl
@[simp] theorem State.setRegion_sec (k i : Nat) (r : Region) : (s.setRegion k i r).sec = s.sec := rfl
@[simp] theorem State.setRegion_queues (k i : Nat) (r : Region) : (s.setRegion k i r).queues = s.queues := rfl
@[simp] theorem State.setRegion_isk (k i : Nat) (r : Region) : (s.setRegion k i r).isk = s.isk := rfl
@[simp] theorem State.setRegion_out (k i : Nat) (r : Region) : (s.setRegion k i r).out = s.out := rfl
@[simp] theorem State.setRegion_freeIndex (k i : Nat) (r : Region) : (s.setRegion k i r).freeIndex = s.freeIndex := rfl

/-! ### setTraceBuf -/

@[simp] theorem State.setTraceBuf_pending (c : Nat) (t : TraceBuf) : (s.setTraceBuf c t).pending = s.pending := rfl
@[simp] theorem State.setTraceBuf_time (c : Nat) (t : TraceBuf) : (s.setTraceBuf c t).time = s.time := rfl
@[simp] theorem State.setTraceBuf_recorder (c : Nat) (t : TraceBuf) : (s.setTraceBuf c t).recorder = s.recorder := rfl
@[simp] theorem State.setTraceBuf_regs (c : Nat) (t : TraceBuf) : (s.setTraceBuf c t).regs = s.regs := rfl
@[simp] theorem State.setTraceBuf_cores (c : Nat) (t : TraceBuf) : (s.setTraceBuf c t).cores = s.cores := rfl
@[simp] theorem State.setTraceBuf_regions (c : Nat) (t : TraceBuf) : (s.setTraceBuf c t).regions = s.regions := rfl
@[simp] theorem State.setTraceBuf_disp (c : Nat) (t : TraceBuf) : (s.setTraceBuf c t).disp = s.disp := rfl
@[simp] theorem State.setTraceBuf_devSems (c : Nat) (t : TraceBuf) : (s.setTraceBuf c t).devSems = s.devSems := rfl
@[simp] theorem State.setTraceBuf_hbm (c : Nat) (t : TraceBuf) : (s.setTraceBuf c t).hbm = s.hbm := rfl
@[simp] theorem State.setTraceBuf_ecc (c : Nat) (t : TraceBuf) : (s.setTraceBuf c t).ecc = s.ecc := rfl
@[simp] theorem State.setTraceBuf_host (c : Nat) (t : TraceBuf) : (s.setTraceBuf c t).host = s.host := rfl
@[simp] theorem State.setTraceBuf_fab (c : Nat) (t : TraceBuf) : (s.setTraceBuf c t).fab = s.fab := rfl
@[simp] theorem State.setTraceBuf_gate (c : Nat) (t : TraceBuf) : (s.setTraceBuf c t).gate = s.gate := rfl
@[simp] theorem State.setTraceBuf_grm (c : Nat) (t : TraceBuf) : (s.setTraceBuf c t).grm = s.grm := rfl
@[simp] theorem State.setTraceBuf_rst (c : Nat) (t : TraceBuf) : (s.setTraceBuf c t).rst = s.rst := rfl
@[simp] theorem State.setTraceBuf_nmes (c : Nat) (t : TraceBuf) : (s.setTraceBuf c t).nmes = s.nmes := rfl
@[simp] theorem State.setTraceBuf_routes (c : Nat) (t : TraceBuf) : (s.setTraceBuf c t).routes = s.routes := rfl
@[simp] theorem State.setTraceBuf_gstop (c : Nat) (t : TraceBuf) : (s.setTraceBuf c t).gstop = s.gstop := rfl
@[simp] theorem State.setTraceBuf_ckp (c : Nat) (t : TraceBuf) : (s.setTraceBuf c t).ckp = s.ckp := rfl
@[simp] theorem State.setTraceBuf_sec (c : Nat) (t : TraceBuf) : (s.setTraceBuf c t).sec = s.sec := rfl
@[simp] theorem State.setTraceBuf_queues (c : Nat) (t : TraceBuf) : (s.setTraceBuf c t).queues = s.queues := rfl
@[simp] theorem State.setTraceBuf_isk (c : Nat) (t : TraceBuf) : (s.setTraceBuf c t).isk = s.isk := rfl
@[simp] theorem State.setTraceBuf_out (c : Nat) (t : TraceBuf) : (s.setTraceBuf c t).out = s.out := rfl
@[simp] theorem State.setTraceBuf_freeIndex (c : Nat) (t : TraceBuf) : (s.setTraceBuf c t).freeIndex = s.freeIndex := rfl

/-! ### setCore -/

@[simp] theorem State.setCore_pending (c : Nat) (k : Core) : (s.setCore c k).pending = s.pending := rfl
@[simp] theorem State.setCore_time (c : Nat) (k : Core) : (s.setCore c k).time = s.time := rfl
@[simp] theorem State.setCore_recorder (c : Nat) (k : Core) : (s.setCore c k).recorder = s.recorder := rfl
@[simp] theorem State.setCore_regs (c : Nat) (k : Core) : (s.setCore c k).regs = s.regs := rfl
@[simp] theorem State.setCore_regions (c : Nat) (k : Core) : (s.setCore c k).regions = s.regions := rfl
@[simp] theorem State.setCore_disp (c : Nat) (k : Core) : (s.setCore c k).disp = s.disp := rfl
@[simp] theorem State.setCore_devSems (c : Nat) (k : Core) : (s.setCore c k).devSems = s.devSems := rfl
@[simp] theorem State.setCore_hbm (c : Nat) (k : Core) : (s.setCore c k).hbm = s.hbm := rfl
@[simp] theorem State.setCore_ecc (c : Nat) (k : Core) : (s.setCore c k).ecc = s.ecc := rfl
@[simp] theorem State.setCore_traces (c : Nat) (k : Core) : (s.setCore c k).traces = s.traces := rfl
@[simp] theorem State.setCore_host (c : Nat) (k : Core) : (s.setCore c k).host = s.host := rfl
@[simp] theorem State.setCore_fab (c : Nat) (k : Core) : (s.setCore c k).fab = s.fab := rfl
@[simp] theorem State.setCore_gate (c : Nat) (k : Core) : (s.setCore c k).gate = s.gate := rfl
@[simp] theorem State.setCore_grm (c : Nat) (k : Core) : (s.setCore c k).grm = s.grm := rfl
@[simp] theorem State.setCore_rst (c : Nat) (k : Core) : (s.setCore c k).rst = s.rst := rfl
@[simp] theorem State.setCore_nmes (c : Nat) (k : Core) : (s.setCore c k).nmes = s.nmes := rfl
@[simp] theorem State.setCore_routes (c : Nat) (k : Core) : (s.setCore c k).routes = s.routes := rfl
@[simp] theorem State.setCore_gstop (c : Nat) (k : Core) : (s.setCore c k).gstop = s.gstop := rfl
@[simp] theorem State.setCore_ckp (c : Nat) (k : Core) : (s.setCore c k).ckp = s.ckp := rfl
@[simp] theorem State.setCore_sec (c : Nat) (k : Core) : (s.setCore c k).sec = s.sec := rfl
@[simp] theorem State.setCore_queues (c : Nat) (k : Core) : (s.setCore c k).queues = s.queues := rfl
@[simp] theorem State.setCore_isk (c : Nat) (k : Core) : (s.setCore c k).isk = s.isk := rfl
@[simp] theorem State.setCore_out (c : Nat) (k : Core) : (s.setCore c k).out = s.out := rfl
@[simp] theorem State.setCore_freeIndex (c : Nat) (k : Core) : (s.setCore c k).freeIndex = s.freeIndex := rfl

/-! ### modCore -/

@[simp] theorem State.modCore_pending (c : Nat) (f : Core → Core) : (s.modCore c f).pending = s.pending := rfl
@[simp] theorem State.modCore_time (c : Nat) (f : Core → Core) : (s.modCore c f).time = s.time := rfl
@[simp] theorem State.modCore_recorder (c : Nat) (f : Core → Core) : (s.modCore c f).recorder = s.recorder := rfl
@[simp] theorem State.modCore_regs (c : Nat) (f : Core → Core) : (s.modCore c f).regs = s.regs := rfl
@[simp] theorem State.modCore_regions (c : Nat) (f : Core → Core) : (s.modCore c f).regions = s.regions := rfl
@[simp] theorem State.modCore_disp (c : Nat) (f : Core → Core) : (s.modCore c f).disp = s.disp := rfl
@[simp] theorem State.modCore_devSems (c : Nat) (f : Core → Core) : (s.modCore c f).devSems = s.devSems := rfl
@[simp] theorem State.modCore_hbm (c : Nat) (f : Core → Core) : (s.modCore c f).hbm = s.hbm := rfl
@[simp] theorem State.modCore_ecc (c : Nat) (f : Core → Core) : (s.modCore c f).ecc = s.ecc := rfl
@[simp] theorem State.modCore_traces (c : Nat) (f : Core → Core) : (s.modCore c f).traces = s.traces := rfl
@[simp] theorem State.modCore_host (c : Nat) (f : Core → Core) : (s.modCore c f).host = s.host := rfl
@[simp] theorem State.modCore_fab (c : Nat) (f : Core → Core) : (s.modCore c f).fab = s.fab := rfl
@[simp] theorem State.modCore_gate (c : Nat) (f : Core → Core) : (s.modCore c f).gate = s.gate := rfl
@[simp] theorem State.modCore_grm (c : Nat) (f : Core → Core) : (s.modCore c f).grm = s.grm := rfl
@[simp] theorem State.modCore_rst (c : Nat) (f : Core → Core) : (s.modCore c f).rst = s.rst := rfl
@[simp] theorem State.modCore_nmes (c : Nat) (f : Core → Core) : (s.modCore c f).nmes = s.nmes := rfl
@[simp] theorem State.modCore_routes (c : Nat) (f : Core → Core) : (s.modCore c f).routes = s.routes := rfl
@[simp] theorem State.modCore_gstop (c : Nat) (f : Core → Core) : (s.modCore c f).gstop = s.gstop := rfl
@[simp] theorem State.modCore_ckp (c : Nat) (f : Core → Core) : (s.modCore c f).ckp = s.ckp := rfl
@[simp] theorem State.modCore_sec (c : Nat) (f : Core → Core) : (s.modCore c f).sec = s.sec := rfl
@[simp] theorem State.modCore_queues (c : Nat) (f : Core → Core) : (s.modCore c f).queues = s.queues := rfl
@[simp] theorem State.modCore_isk (c : Nat) (f : Core → Core) : (s.modCore c f).isk = s.isk := rfl
@[simp] theorem State.modCore_out (c : Nat) (f : Core → Core) : (s.modCore c f).out = s.out := rfl
@[simp] theorem State.modCore_freeIndex (c : Nat) (f : Core → Core) : (s.modCore c f).freeIndex = s.freeIndex := rfl

/-! ### setCoreState -/

@[simp] theorem State.setCoreState_pending (c v : Nat) : (s.setCoreState c v).pending = s.pending := rfl
@[simp] theorem State.setCoreState_time (c v : Nat) : (s.setCoreState c v).time = s.time := rfl
@[simp] theorem State.setCoreState_recorder (c v : Nat) : (s.setCoreState c v).recorder = s.recorder := rfl
@[simp] theorem State.setCoreState_cores (c v : Nat) : (s.setCoreState c v).cores = s.cores := rfl
@[simp] theorem State.setCoreState_regions (c v : Nat) : (s.setCoreState c v).regions = s.regions := rfl
@[simp] theorem State.setCoreState_disp (c v : Nat) : (s.setCoreState c v).disp = s.disp := rfl
@[simp] theorem State.setCoreState_devSems (c v : Nat) : (s.setCoreState c v).devSems = s.devSems := rfl
@[simp] theorem State.setCoreState_hbm (c v : Nat) : (s.setCoreState c v).hbm = s.hbm := rfl
@[simp] theorem State.setCoreState_ecc (c v : Nat) : (s.setCoreState c v).ecc = s.ecc := rfl
@[simp] theorem State.setCoreState_traces (c v : Nat) : (s.setCoreState c v).traces = s.traces := rfl
@[simp] theorem State.setCoreState_host (c v : Nat) : (s.setCoreState c v).host = s.host := rfl
@[simp] theorem State.setCoreState_fab (c v : Nat) : (s.setCoreState c v).fab = s.fab := rfl
@[simp] theorem State.setCoreState_gate (c v : Nat) : (s.setCoreState c v).gate = s.gate := rfl
@[simp] theorem State.setCoreState_grm (c v : Nat) : (s.setCoreState c v).grm = s.grm := rfl
@[simp] theorem State.setCoreState_rst (c v : Nat) : (s.setCoreState c v).rst = s.rst := rfl
@[simp] theorem State.setCoreState_nmes (c v : Nat) : (s.setCoreState c v).nmes = s.nmes := rfl
@[simp] theorem State.setCoreState_routes (c v : Nat) : (s.setCoreState c v).routes = s.routes := rfl
@[simp] theorem State.setCoreState_gstop (c v : Nat) : (s.setCoreState c v).gstop = s.gstop := rfl
@[simp] theorem State.setCoreState_ckp (c v : Nat) : (s.setCoreState c v).ckp = s.ckp := rfl
@[simp] theorem State.setCoreState_sec (c v : Nat) : (s.setCoreState c v).sec = s.sec := rfl
@[simp] theorem State.setCoreState_queues (c v : Nat) : (s.setCoreState c v).queues = s.queues := rfl
@[simp] theorem State.setCoreState_isk (c v : Nat) : (s.setCoreState c v).isk = s.isk := rfl
@[simp] theorem State.setCoreState_out (c v : Nat) : (s.setCoreState c v).out = s.out := rfl
@[simp] theorem State.setCoreState_freeIndex (c v : Nat) : (s.setCoreState c v).freeIndex = s.freeIndex := rfl

/-! ### enq -/

@[simp] theorem State.enq_pending (k : Nat) : (s.enq k).pending = s.pending := rfl
@[simp] theorem State.enq_time (k : Nat) : (s.enq k).time = s.time := rfl
@[simp] theorem State.enq_recorder (k : Nat) : (s.enq k).recorder = s.recorder := rfl
@[simp] theorem State.enq_regs (k : Nat) : (s.enq k).regs = s.regs := rfl
@[simp] theorem State.enq_cores (k : Nat) : (s.enq k).cores = s.cores := rfl
@[simp] theorem State.enq_regions (k : Nat) : (s.enq k).regions = s.regions := rfl
@[simp] theorem State.enq_disp (k : Nat) : (s.enq k).disp = s.disp := rfl
@[simp] theorem State.enq_devSems (k : Nat) : (s.enq k).devSems = s.devSems := rfl
@[simp] theorem State.enq_hbm (k : Nat) : (s.enq k).hbm = s.hbm := rfl
@[simp] theorem State.enq_ecc (k : Nat) : (s.enq k).ecc = s.ecc := rfl
@[simp] theorem State.enq_traces (k : Nat) : (s.enq k).traces = s.traces := rfl
@[simp] theorem State.enq_host (k : Nat) : (s.enq k).host = s.host := rfl
@[simp] theorem State.enq_fab (k : Nat) : (s.enq k).fab = s.fab := rfl
@[simp] theorem State.enq_gate (k : Nat) : (s.enq k).gate = s.gate := rfl
@[simp] theorem State.enq_grm (k : Nat) : (s.enq k).grm = s.grm := rfl
@[simp] theorem State.enq_rst (k : Nat) : (s.enq k).rst = s.rst := rfl
@[simp] theorem State.enq_nmes (k : Nat) : (s.enq k).nmes = s.nmes := rfl
@[simp] theorem State.enq_routes (k : Nat) : (s.enq k).routes = s.routes := rfl
@[simp] theorem State.enq_gstop (k : Nat) : (s.enq k).gstop = s.gstop := rfl
@[simp] theorem State.enq_ckp (k : Nat) : (s.enq k).ckp = s.ckp := rfl
@[simp] theorem State.enq_sec (k : Nat) : (s.enq k).sec = s.sec := rfl
@[simp] theorem State.enq_isk (k : Nat) : (s.enq k).isk = s.isk := rfl
@[simp] theorem State.enq_out (k : Nat) : (s.enq k).out = s.out := rfl
@[simp] theorem State.enq_freeIndex (k : Nat) : (s.enq k).freeIndex = s.freeIndex := rfl

/-! ### raise -/

@[simp] theorem State.raise_pending (code : Nat) (src : Nat × Nat) (items : List (Nat × Nat)) (job : Option (Nat × Nat × Nat)) : (s.raise code src items job).pending = s.pending := rfl
@[simp] theorem State.raise_time (code : Nat) (src : Nat × Nat) (items : List (Nat × Nat)) (job : Option (Nat × Nat × Nat)) : (s.raise code src items job).time = s.time := rfl
@[simp] theorem State.raise_regs (code : Nat) (src : Nat × Nat) (items : List (Nat × Nat)) (job : Option (Nat × Nat × Nat)) : (s.raise code src items job).regs = s.regs := rfl
@[simp] theorem State.raise_cores (code : Nat) (src : Nat × Nat) (items : List (Nat × Nat)) (job : Option (Nat × Nat × Nat)) : (s.raise code src items job).cores = s.cores := rfl
@[simp] theorem State.raise_regions (code : Nat) (src : Nat × Nat) (items : List (Nat × Nat)) (job : Option (Nat × Nat × Nat)) : (s.raise code src items job).regions = s.regions := rfl
@[simp] theorem State.raise_disp (code : Nat) (src : Nat × Nat) (items : List (Nat × Nat)) (job : Option (Nat × Nat × Nat)) : (s.raise code src items job).disp = s.disp := rfl
@[simp] theorem State.raise_devSems (code : Nat) (src : Nat × Nat) (items : List (Nat × Nat)) (job : Option (Nat × Nat × Nat)) : (s.raise code src items job).devSems = s.devSems := rfl
@[simp] theorem State.raise_hbm (code : Nat) (src : Nat × Nat) (items : List (Nat × Nat)) (job : Option (Nat × Nat × Nat)) : (s.raise code src items job).hbm = s.hbm := rfl
@[simp] theorem State.raise_ecc (code : Nat) (src : Nat × Nat) (items : List (Nat × Nat)) (job : Option (Nat × Nat × Nat)) : (s.raise code src items job).ecc = s.ecc := rfl
@[simp] theorem State.raise_traces (code : Nat) (src : Nat × Nat) (items : List (Nat × Nat)) (job : Option (Nat × Nat × Nat)) : (s.raise code src items job).traces = s.traces := rfl
@[simp] theorem State.raise_host (code : Nat) (src : Nat × Nat) (items : List (Nat × Nat)) (job : Option (Nat × Nat × Nat)) : (s.raise code src items job).host = s.host := rfl
@[simp] theorem State.raise_fab (code : Nat) (src : Nat × Nat) (items : List (Nat × Nat)) (job : Option (Nat × Nat × Nat)) : (s.raise code src items job).fab = s.fab := rfl
@[simp] theorem State.raise_gate (code : Nat) (src : Nat × Nat) (items : List (Nat × Nat)) (job : Option (Nat × Nat × Nat)) : (s.raise code src items job).gate = s.gate := rfl
@[simp] theorem State.raise_grm (code : Nat) (src : Nat × Nat) (items : List (Nat × Nat)) (job : Option (Nat × Nat × Nat)) : (s.raise code src items job).grm = s.grm := rfl
@[simp] theorem State.raise_rst (code : Nat) (src : Nat × Nat) (items : List (Nat × Nat)) (job : Option (Nat × Nat × Nat)) : (s.raise code src items job).rst = s.rst := rfl
@[simp] theorem State.raise_nmes (code : Nat) (src : Nat × Nat) (items : List (Nat × Nat)) (job : Option (Nat × Nat × Nat)) : (s.raise code src items job).nmes = s.nmes := rfl
@[simp] theorem State.raise_routes (code : Nat) (src : Nat × Nat) (items : List (Nat × Nat)) (job : Option (Nat × Nat × Nat)) : (s.raise code src items job).routes = s.routes := rfl
@[simp] theorem State.raise_gstop (code : Nat) (src : Nat × Nat) (items : List (Nat × Nat)) (job : Option (Nat × Nat × Nat)) : (s.raise code src items job).gstop = s.gstop := rfl
@[simp] theorem State.raise_ckp (code : Nat) (src : Nat × Nat) (items : List (Nat × Nat)) (job : Option (Nat × Nat × Nat)) : (s.raise code src items job).ckp = s.ckp := rfl
@[simp] theorem State.raise_sec (code : Nat) (src : Nat × Nat) (items : List (Nat × Nat)) (job : Option (Nat × Nat × Nat)) : (s.raise code src items job).sec = s.sec := rfl
@[simp] theorem State.raise_queues (code : Nat) (src : Nat × Nat) (items : List (Nat × Nat)) (job : Option (Nat × Nat × Nat)) : (s.raise code src items job).queues = s.queues := rfl
@[simp] theorem State.raise_isk (code : Nat) (src : Nat × Nat) (items : List (Nat × Nat)) (job : Option (Nat × Nat × Nat)) : (s.raise code src items job).isk = s.isk := rfl
@[simp] theorem State.raise_out (code : Nat) (src : Nat × Nat) (items : List (Nat × Nat)) (job : Option (Nat × Nat × Nat)) : (s.raise code src items job).out = s.out := rfl
@[simp] theorem State.raise_freeIndex (code : Nat) (src : Nat × Nat) (items : List (Nat × Nat)) (job : Option (Nat × Nat × Nat)) : (s.raise code src items job).freeIndex = s.freeIndex := rfl

/-! ### setNme -/

@[simp] theorem State.setNme_pending (i : Nat) (x : Nme) : (s.setNme i x).pending = s.pending := rfl
@[simp] theorem State.setNme_time (i : Nat) (x : Nme) : (s.setNme i x).time = s.time := rfl
@[simp] theorem State.setNme_recorder (i : Nat) (x : Nme) : (s.setNme i x).recorder = s.recorder := rfl
@[simp] theorem State.setNme_regs (i : Nat) (x : Nme) : (s.setNme i x).regs = s.regs := rfl
@[simp] theorem State.setNme_cores (i : Nat) (x : Nme) : (s.setNme i x).cores = s.cores := rfl
@[simp] theorem State.setNme_regions (i : Nat) (x : Nme) : (s.setNme i x).regions = s.regions := rfl
@[simp] theorem State.setNme_disp (i : Nat) (x : Nme) : (s.setNme i x).disp = s.disp := rfl
@[simp] theorem State.setNme_devSems (i : Nat) (x : Nme) : (s.setNme i x).devSems = s.devSems := rfl
@[simp] theorem State.setNme_hbm (i : Nat) (x : Nme) : (s.setNme i x).hbm = s.hbm := rfl
@[simp] theorem State.setNme_ecc (i : Nat) (x : Nme) : (s.setNme i x).ecc = s.ecc := rfl
@[simp] theorem State.setNme_traces (i : Nat) (x : Nme) : (s.setNme i x).traces = s.traces := rfl
@[simp] theorem State.setNme_host (i : Nat) (x : Nme) : (s.setNme i x).host = s.host := rfl
@[simp] theorem State.setNme_fab (i : Nat) (x : Nme) : (s.setNme i x).fab = s.fab := rfl
@[simp] theorem State.setNme_gate (i : Nat) (x : Nme) : (s.setNme i x).gate = s.gate := rfl
@[simp] theorem State.setNme_grm (i : Nat) (x : Nme) : (s.setNme i x).grm = s.grm := rfl
@[simp] theorem State.setNme_rst (i : Nat) (x : Nme) : (s.setNme i x).rst = s.rst := rfl
@[simp] theorem State.setNme_routes (i : Nat) (x : Nme) : (s.setNme i x).routes = s.routes := rfl
@[simp] theorem State.setNme_gstop (i : Nat) (x : Nme) : (s.setNme i x).gstop = s.gstop := rfl
@[simp] theorem State.setNme_ckp (i : Nat) (x : Nme) : (s.setNme i x).ckp = s.ckp := rfl
@[simp] theorem State.setNme_sec (i : Nat) (x : Nme) : (s.setNme i x).sec = s.sec := rfl
@[simp] theorem State.setNme_queues (i : Nat) (x : Nme) : (s.setNme i x).queues = s.queues := rfl
@[simp] theorem State.setNme_isk (i : Nat) (x : Nme) : (s.setNme i x).isk = s.isk := rfl
@[simp] theorem State.setNme_out (i : Nat) (x : Nme) : (s.setNme i x).out = s.out := rfl
@[simp] theorem State.setNme_freeIndex (i : Nat) (x : Nme) : (s.setNme i x).freeIndex = s.freeIndex := rfl

/-! ### setEcc -/

@[simp] theorem State.setEcc_pending (l e : Nat) (p : Bool) : (s.setEcc l e p).pending = s.pending := rfl
@[simp] theorem State.setEcc_time (l e : Nat) (p : Bool) : (s.setEcc l e p).time = s.time := rfl
@[simp] theorem State.setEcc_recorder (l e : Nat) (p : Bool) : (s.setEcc l e p).recorder = s.recorder := rfl
@[simp] theorem State.setEcc_regs (l e : Nat) (p : Bool) : (s.setEcc l e p).regs = s.regs := rfl
@[simp] theorem State.setEcc_cores (l e : Nat) (p : Bool) : (s.setEcc l e p).cores = s.cores := rfl
@[simp] theorem State.setEcc_regions (l e : Nat) (p : Bool) : (s.setEcc l e p).regions = s.regions := rfl
@[simp] theorem State.setEcc_disp (l e : Nat) (p : Bool) : (s.setEcc l e p).disp = s.disp := rfl
@[simp] theorem State.setEcc_devSems (l e : Nat) (p : Bool) : (s.setEcc l e p).devSems = s.devSems := rfl
@[simp] theorem State.setEcc_hbm (l e : Nat) (p : Bool) : (s.setEcc l e p).hbm = s.hbm := rfl
@[simp] theorem State.setEcc_traces (l e : Nat) (p : Bool) : (s.setEcc l e p).traces = s.traces := rfl
@[simp] theorem State.setEcc_host (l e : Nat) (p : Bool) : (s.setEcc l e p).host = s.host := rfl
@[simp] theorem State.setEcc_fab (l e : Nat) (p : Bool) : (s.setEcc l e p).fab = s.fab := rfl
@[simp] theorem State.setEcc_gate (l e : Nat) (p : Bool) : (s.setEcc l e p).gate = s.gate := rfl
@[simp] theorem State.setEcc_grm (l e : Nat) (p : Bool) : (s.setEcc l e p).grm = s.grm := rfl
@[simp] theorem State.setEcc_rst (l e : Nat) (p : Bool) : (s.setEcc l e p).rst = s.rst := rfl
@[simp] theorem State.setEcc_nmes (l e : Nat) (p : Bool) : (s.setEcc l e p).nmes = s.nmes := rfl
@[simp] theorem State.setEcc_routes (l e : Nat) (p : Bool) : (s.setEcc l e p).routes = s.routes := rfl
@[simp] theorem State.setEcc_gstop (l e : Nat) (p : Bool) : (s.setEcc l e p).gstop = s.gstop := rfl
@[simp] theorem State.setEcc_ckp (l e : Nat) (p : Bool) : (s.setEcc l e p).ckp = s.ckp := rfl
@[simp] theorem State.setEcc_sec (l e : Nat) (p : Bool) : (s.setEcc l e p).sec = s.sec := rfl
@[simp] theorem State.setEcc_queues (l e : Nat) (p : Bool) : (s.setEcc l e p).queues = s.queues := rfl
@[simp] theorem State.setEcc_isk (l e : Nat) (p : Bool) : (s.setEcc l e p).isk = s.isk := rfl
@[simp] theorem State.setEcc_out (l e : Nat) (p : Bool) : (s.setEcc l e p).out = s.out := rfl
@[simp] theorem State.setEcc_freeIndex (l e : Nat) (p : Bool) : (s.setEcc l e p).freeIndex = s.freeIndex := rfl

/-! ### fresh -/

@[simp] theorem State.fresh_pending : s.fresh.2.pending = s.pending := rfl
@[simp] theorem State.fresh_time : s.fresh.2.time = s.time := rfl
@[simp] theorem State.fresh_recorder : s.fresh.2.recorder = s.recorder := rfl
@[simp] theorem State.fresh_regs : s.fresh.2.regs = s.regs := rfl
@[simp] theorem State.fresh_cores : s.fresh.2.cores = s.cores := rfl
@[simp] theorem State.fresh_regions : s.fresh.2.regions = s.regions := rfl
@[simp] theorem State.fresh_disp : s.fresh.2.disp = s.disp := rfl
@[simp] theorem State.fresh_devSems : s.fresh.2.devSems = s.devSems := rfl
@[simp] theorem State.fresh_hbm : s.fresh.2.hbm = s.hbm := rfl
@[simp] theorem State.fresh_ecc : s.fresh.2.ecc = s.ecc := rfl
@[simp] theorem State.fresh_traces : s.fresh.2.traces = s.traces := rfl
@[simp] theorem State.fresh_host : s.fresh.2.host = s.host := rfl
@[simp] theorem State.fresh_fab : s.fresh.2.fab = s.fab := rfl
@[simp] theorem State.fresh_gate : s.fresh.2.gate = s.gate := rfl
@[simp] theorem State.fresh_grm : s.fresh.2.grm = s.grm := rfl
@[simp] theorem State.fresh_rst : s.fresh.2.rst = s.rst := rfl
@[simp] theorem State.fresh_nmes : s.fresh.2.nmes = s.nmes := rfl
@[simp] theorem State.fresh_routes : s.fresh.2.routes = s.routes := rfl
@[simp] theorem State.fresh_gstop : s.fresh.2.gstop = s.gstop := rfl
@[simp] theorem State.fresh_ckp : s.fresh.2.ckp = s.ckp := rfl
@[simp] theorem State.fresh_sec : s.fresh.2.sec = s.sec := rfl
@[simp] theorem State.fresh_queues : s.fresh.2.queues = s.queues := rfl
@[simp] theorem State.fresh_isk : s.fresh.2.isk = s.isk := rfl
@[simp] theorem State.fresh_out : s.fresh.2.out = s.out := rfl
@[simp] theorem State.fresh_freeIndex : s.fresh.2.freeIndex = s.freeIndex + 1 := rfl

end Sys2Proof.Machine
end

