-- ==== Sys2Proof/Laws/Tab.lean ====
section
/-! SUPPORT. Laws of sparse tables: what is read after a write, and that writing keeps the canonical form. -/

namespace Sys2Proof.Machine

variable {α : Type}

theorem Tab.find_insert_self (t : Tab α) (n : Nat) (x : α) : Tab.find (Tab.insert t n x) n = some x := by
  induction t with
  | nil => simp [Tab.insert, Tab.find]
  | cons e t ih =>
    obtain ⟨k, v⟩ := e
    simp only [Tab.insert]
    split
    · simp [Tab.find]
    · split
      · simp [Tab.find]
      · next h => simp [Tab.find, h, ih]

theorem Tab.find_insert_ne (t : Tab α) {n m : Nat} (x : α) (h : m ≠ n) :
    Tab.find (Tab.insert t n x) m = Tab.find t m := by
  induction t with
  | nil => simp [Tab.insert, Tab.find, h.symm]
  | cons e t ih =>
    obtain ⟨k, v⟩ := e
    simp only [Tab.insert]
    split
    · simp [Tab.find, h.symm]
    · split
      · next hk => subst hk; simp [Tab.find, h.symm]
      · simp [Tab.find, ih]

theorem Tab.find_erase_ne (t : Tab α) {n m : Nat} (h : m ≠ n) : Tab.find (Tab.erase t n) m = Tab.find t m := by
  induction t with
  | nil => rfl
  | cons e t ih =>
    obtain ⟨k, v⟩ := e
    simp only [Tab.erase]
    split
    · next hk => subst hk; simp [Tab.find, h.symm]
    · simp [Tab.find, ih]

/-- A table whose keys lie above a bound lists nothing at or below it. -/
theorem Tab.find_above {lo n : Nat} {t : Tab α} (h : Tab.above lo t = true) (hn : n ≤ lo) : Tab.find t n = none := by
  induction t with
  | nil => rfl
  | cons e t ih =>
    obtain ⟨k, v⟩ := e
    simp only [Tab.above, List.all_cons, Bool.and_eq_true, decide_eq_true_eq] at h
    have hk : k ≠ n := by omega
    simp only [Tab.find, hk, if_false]
    exact ih (by simpa [Tab.above] using h.2)

theorem Tab.above_mono {lo lo' : Nat} {t : Tab α} (h : Tab.above lo t = true) (hl : lo' ≤ lo) : Tab.above lo' t = true := by
  simp only [Tab.above, List.all_eq_true, decide_eq_true_eq] at *
  intro e he; have := h e he; omega

theorem Tab.above_erase {lo n : Nat} {t : Tab α} (h : Tab.above lo t = true) : Tab.above lo (Tab.erase t n) = true := by
  induction t with
  | nil => exact h
  | cons e t ih =>
    obtain ⟨k, v⟩ := e
    simp only [Tab.above, List.all_cons, Bool.and_eq_true, decide_eq_true_eq] at h
    simp only [Tab.erase]
    split
    · simpa [Tab.above] using h.2
    · simp only [Tab.above, List.all_cons, Bool.and_eq_true, decide_eq_true_eq]
      exact ⟨h.1, by simpa [Tab.above] using ih (by simpa [Tab.above] using h.2)⟩

theorem Tab.above_insert {lo n : Nat} {t : Tab α} {x : α} (h : Tab.above lo t = true) (hn : lo < n) :
    Tab.above lo (Tab.insert t n x) = true := by
  induction t with
  | nil => simp [Tab.insert, Tab.above, hn]
  | cons e t ih =>
    obtain ⟨k, v⟩ := e
    simp only [Tab.above, List.all_cons, Bool.and_eq_true, decide_eq_true_eq] at h
    simp only [Tab.insert]
    split
    · simp only [Tab.above, List.all_cons, Bool.and_eq_true, decide_eq_true_eq]
      exact ⟨hn, h.1, h.2⟩
    · split
      · simp only [Tab.above, List.all_cons, Bool.and_eq_true, decide_eq_true_eq]
        exact ⟨hn, h.2⟩
      · simp only [Tab.above, List.all_cons, Bool.and_eq_true, decide_eq_true_eq]
        exact ⟨h.1, by simpa [Tab.above] using ih (by simpa [Tab.above] using h.2)⟩

variable [DecidableEq α]

theorem Tab.wf_erase {d : Nat → α} {t : Tab α} (n : Nat) (h : Tab.wf d t = true) : Tab.wf d (Tab.erase t n) = true := by
  induction t with
  | nil => rfl
  | cons e t ih =>
    obtain ⟨k, v⟩ := e
    simp only [Tab.wf, Bool.and_eq_true, decide_eq_true_eq] at h
    simp only [Tab.erase]
    split
    · exact h.2
    · simp only [Tab.wf, Bool.and_eq_true, decide_eq_true_eq]
      exact ⟨⟨Tab.above_erase h.1.1, h.1.2⟩, ih h.2⟩

theorem Tab.wf_insert {d : Nat → α} {t : Tab α} {n : Nat} {x : α} (h : Tab.wf d t = true) (hx : x ≠ d n) :
    Tab.wf d (Tab.insert t n x) = true := by
  induction t with
  | nil => simp [Tab.insert, Tab.wf, Tab.above, hx]
  | cons e t ih =>
    obtain ⟨k, v⟩ := e
    simp only [Tab.wf, Bool.and_eq_true, decide_eq_true_eq] at h
    simp only [Tab.insert]
    split
    · next hk =>
      simp only [Tab.wf, Bool.and_eq_true, decide_eq_true_eq]
      refine ⟨⟨?_, hx⟩, ⟨h.1.1, h.1.2⟩, h.2⟩
      simp only [Tab.above, List.all_cons, Bool.and_eq_true, decide_eq_true_eq]
      exact ⟨hk, by simpa [Tab.above] using Tab.above_mono h.1.1 (by omega)⟩
    · split
      · next hk =>
        subst hk
        simp only [Tab.wf, Bool.and_eq_true, decide_eq_true_eq]
        exact ⟨⟨h.1.1, hx⟩, h.2⟩
      · simp only [Tab.wf, Bool.and_eq_true, decide_eq_true_eq]
        exact ⟨⟨Tab.above_insert h.1.1 (by omega), h.1.2⟩, ih h.2⟩

/-- Writing keeps the canonical form. -/
theorem Tab.wf_put {d : Nat → α} {t : Tab α} (n : Nat) (x : α) (h : Tab.wf d t = true) : Tab.wf d (Tab.put t (d n) n x) = true := by
  unfold Tab.put
  split
  · exact Tab.wf_erase n h
  · next hx => exact Tab.wf_insert h hx

/-- In canonical form an erased key reads as unlisted. -/
theorem Tab.find_erase_self {d : Nat → α} {t : Tab α} (n : Nat) (h : Tab.wf d t = true) : Tab.find (Tab.erase t n) n = none := by
  induction t with
  | nil => rfl
  | cons e t ih =>
    obtain ⟨k, v⟩ := e
    simp only [Tab.wf, Bool.and_eq_true, decide_eq_true_eq] at h
    simp only [Tab.erase]
    split
    · next hk => exact Tab.find_above h.1.1 (by omega)
    · next hk => simp [Tab.find, hk, ih h.2]

/-- A write is read back, in canonical form. -/
theorem Tab.get_put_self {d : Nat → α} {t : Tab α} (n : Nat) (x : α) (h : Tab.wf d t = true) :
    Tab.get (Tab.put t (d n) n x) (d n) n = x := by
  unfold Tab.put Tab.get
  split
  · next hx => simp [Tab.find_erase_self n h, hx]
  · simp [Tab.find_insert_self]

/-- A write leaves every other key. -/
theorem Tab.get_put_ne {t : Tab α} {n m : Nat} (d e x : α) (h : m ≠ n) : Tab.get (Tab.put t d n x) e m = Tab.get t e m := by
  unfold Tab.put Tab.get
  split
  · rw [Tab.find_erase_ne t h]
  · rw [Tab.find_insert_ne t x h]

end Sys2Proof.Machine
end

