-- ==== Sys2Proof/Laws/Ops.lean ====
section
/-! SUPPORT. Laws of the shared operations: registers read after they are written, the form of a command's outcome, and what handing
the raised events to the recorder can change. -/

namespace Sys2Proof.Machine

/-! ### Registers -/

/-- The register file is in canonical form. -/
def State.regsWf (s : State) : Prop := Tab.wf regReset s.regs = true

theorem State.regsWf_setReg {s : State} (k v : Nat) (h : s.regsWf) : (s.setReg k v).regsWf := Tab.wf_put k _ h

theorem State.reg_setReg {s : State} (k v : Nat) (h : s.regsWf) : (s.setReg k v).reg k = v % 2 ^ 64 := by
  simp [State.reg, State.setReg, Tab.get_put_self (d := regReset) k _ h]

theorem State.reg_setReg_ne (s : State) {k j : Nat} (v : Nat) (h : j ≠ k) : (s.setReg k v).reg j = s.reg j := by
  simp [State.reg, State.setReg, Tab.get_put_ne _ _ _ h]

theorem State.reg_setField_ne (s : State) {k j : Nat} (lo w v : Nat) (h : j ≠ k) : (s.setField k lo w v).reg j = s.reg j :=
  s.reg_setReg_ne _ h

theorem State.regsWf_setField {s : State} (k lo w v : Nat) (h : s.regsWf) : (s.setField k lo w v).regsWf :=
  State.regsWf_setReg _ _ h

/-- A register lies in 64 bits. -/
theorem State.reg_lt (s : State) (k : Nat) : s.reg k < 2 ^ 64 := BitVec.isLt _

theorem bits_lt (x lo w : Nat) : bits x lo w < 2 ^ w := Nat.mod_lt _ (Nat.two_pow_pos w)

theorem State.field_lt (s : State) (k lo w : Nat) : s.field k lo w < 2 ^ w := bits_lt _ _ _

/-! ### What handing events to the recorder can change -/

/-- The registers that writing records may change: the recorder's counters and SEQ, the causes and pending messages of a function,
and the global performance counters. -/
def flushKey (k : Nat) : Bool :=
  k == Reg.recSeq || k == Reg.recDropped || k == Reg.recOverrun || k == Reg.recFrzDrop ||
  k % 0x4000000 == Reg.hifIrqStat || k % 0x4000000 == Reg.msixPba || (Reg.pmcGlobal ≤ k && k < Reg.pmcGlobal + 0x2000)

/-- A state that differs from another only as writing records makes it differ. -/
structure FlushFrame (s t : State) : Prop where
  shape : t = { s with recorder := t.recorder, regs := t.regs, out := t.out }
  regs : ∀ k, flushKey k = false → t.reg k = s.reg k
  raised : s.recorder.raised = [] → t.recorder.raised = []

theorem FlushFrame.rfl' (s : State) : FlushFrame s s := ⟨by cases s; rfl, fun _ _ => rfl, id⟩

theorem FlushFrame.trans {s t u : State} (h : FlushFrame s t) (g : FlushFrame t u) : FlushFrame s u :=
  ⟨by rw [g.shape, h.shape], fun k hk => (g.regs k hk).trans (h.regs k hk), fun x => g.raised (h.raised x)⟩

theorem FlushFrame.setReg (s : State) {k : Nat} (v : Nat) (h : flushKey k = true) : FlushFrame s (s.setReg k v) :=
  ⟨by cases s; rfl, fun j hj => s.reg_setReg_ne _ (by rintro rfl; simp [h] at hj), id⟩

theorem FlushFrame.setField (s : State) {k : Nat} (lo w v : Nat) (h : flushKey k = true) :
    FlushFrame s (s.setField k lo w v) := FlushFrame.setReg s _ h

theorem FlushFrame.count (s : State) {k : Nat} (h : flushKey k = true) : FlushFrame s (s.count k) := FlushFrame.setReg s _ h

theorem flushKey_recSeq : flushKey Reg.recSeq = true := by decide
theorem flushKey_recDropped : flushKey Reg.recDropped = true := by decide
theorem flushKey_recOverrun : flushKey Reg.recOverrun = true := by decide
theorem flushKey_recFrzDrop : flushKey Reg.recFrzDrop = true := by decide

theorem FlushFrame.foldl {β : Type} (l : List β) (f : State → β → State) (h : ∀ s b, FlushFrame s (f s b)) (s : State) :
    FlushFrame s (l.foldl f s) := by
  induction l generalizing s with
  | nil => exact FlushFrame.rfl' s
  | cons b l ih => exact (h s b).trans (ih (f s b))

theorem regKey_mod {pf off : Nat} (h : off < 0x4000000) : regKey pf off % 0x4000000 = off := by
  unfold regKey
  split <;> omega

theorem flushKey_irqStat (pf : Nat) : flushKey (regKey pf Reg.hifIrqStat) = true := by
  have h : regKey pf Reg.hifIrqStat % 0x4000000 = Reg.hifIrqStat := regKey_mod (by decide)
  simp only [flushKey, h, beq_self_eq_true, Bool.or_true, Bool.true_or]

theorem flushKey_pba (pf : Nat) : flushKey (regKey pf Reg.msixPba) = true := by
  have h : regKey pf Reg.msixPba % 0x4000000 = Reg.msixPba := regKey_mod (by decide)
  simp only [flushKey, h, beq_self_eq_true, Bool.or_true, Bool.true_or]

theorem State.msix_frame (s : State) (pf v : Nat) : FlushFrame s (s.msix pf v) := by
  unfold State.msix
  split
  · exact FlushFrame.setField s _ _ _ (flushKey_pba pf)
  · exact ⟨by cases s; rfl, fun _ _ => rfl, id⟩

theorem State.irq_frame (s : State) (pf v : Nat) : FlushFrame s (s.irq pf v) := by
  unfold State.irq
  dsimp only
  split
  · exact FlushFrame.rfl' s
  · have h := FlushFrame.setField s v 1 1 (flushKey_irqStat pf)
    split
    · exact h.trans (State.msix_frame _ pf v)
    · exact h

theorem flushKey_global {k : Nat} (h : Reg.pmcGlobal ≤ k) (h' : k < Reg.pmcGlobal + 0x2000) : flushKey k = true := by
  simp [flushKey, h, h']

/-- The counters whose select register is listed lie in the set. -/
theorem State.pmcLive_lt {s : State} {j : Nat} (h : j ∈ s.pmcLive .global) : j < 256 := by
  unfold State.pmcLive at h
  obtain ⟨e, he, rfl⟩ := List.mem_map.mp h
  have h2 := (List.mem_filter.mp he).2
  rw [Bool.and_eq_true, decide_eq_true_eq, decide_eq_true_eq] at h2
  have e0 : PmcSet.sel .global 0 = Reg.pmcGlobal + 0x800 := rfl
  have e1 : PmcSet.sel .global (PmcSet.size .global) = Reg.pmcGlobal + 0x800 + 8 * 256 := rfl
  rw [e0, e1] at h2
  rw [e0]
  omega

theorem State.pmcOverflow_frame (s : State) {j : Nat} (h : j < 256) : FlushFrame s (s.pmcOverflow .global j) := by
  unfold State.pmcOverflow
  exact FlushFrame.setField s _ _ _ (flushKey_global (by simp [PmcSet.ovf]; omega) (by simp [PmcSet.ovf]; omega))

theorem State.pmcAdd_frame (s : State) {j : Nat} (n : Nat) (h : j < 256) : FlushFrame s (s.pmcAdd .global j n) := by
  have hk : ∀ i, i < 256 → flushKey (PmcSet.cnt .global i) = true := fun i hi =>
    flushKey_global (by simp [PmcSet.cnt]) (by simp [PmcSet.cnt]; omega)
  unfold State.pmcAdd
  dsimp only
  split
  · exact FlushFrame.setReg s _ (hk j h)
  · split
    · next hc =>
      have hj : j + 1 < 256 := by omega
      have h1 := (FlushFrame.setReg s ((s.field (PmcSet.cnt .global j) 0 (PmcSet.width .global) + n) % 2 ^ PmcSet.width .global)
        (hk j h)).trans (FlushFrame.setReg _ (((s.setReg (PmcSet.cnt .global j)
          ((s.field (PmcSet.cnt .global j) 0 (PmcSet.width .global) + n) % 2 ^ PmcSet.width .global)).field
            (PmcSet.cnt .global (j + 1)) 0 (PmcSet.width .global) +
          (s.field (PmcSet.cnt .global j) 0 (PmcSet.width .global) + n) / 2 ^ PmcSet.width .global) % 2 ^ PmcSet.width .global)
          (hk (j + 1) hj))
      split
      · exact h1
      · exact h1.trans (State.pmcOverflow_frame _ hj)
    · exact (FlushFrame.setReg s _ (hk j h)).trans (State.pmcOverflow_frame _ h)

theorem FlushFrame.foldlMem {β : Type} (l : List β) (f : State → β → State)
    (h : ∀ s b, b ∈ l → FlushFrame s (f s b)) (s : State) : FlushFrame s (l.foldl f s) := by
  induction l generalizing s with
  | nil => exact FlushFrame.rfl' s
  | cons b l ih =>
    exact (h s b (by simp)).trans (ih (fun s c hc => h s c (by simp [hc])) (f s b))

theorem State.globalEvent_frame (s : State) (ev : Nat) : FlushFrame s (s.globalEvent ev) := by
  unfold State.globalEvent State.pmcGlobal
  refine FlushFrame.foldlMem _ _ (fun t j hj => ?_) s
  dsimp only
  split
  · exact State.pmcAdd_frame t 1 (State.pmcLive_lt hj)
  · exact FlushFrame.rfl' t

theorem FlushFrame.recorder (s : State) (r : Recorder) (h : r.raised = s.recorder.raised) :
    FlushFrame s { s with recorder := r } := ⟨rfl, fun _ _ => rfl, fun x => by simp [h, x]⟩

theorem State.writeOne_frame (s : State) (e : Event) : FlushFrame s (s.writeOne e) := by
  unfold State.writeOne
  split
  · exact FlushFrame.count s flushKey_recDropped
  · split
    · exact FlushFrame.count s flushKey_recOverrun
    · dsimp only
      refine FlushFrame.trans ?_ (State.irq_frame _ _ _)
      refine FlushFrame.trans ?_ (State.globalEvent_frame _ _)
      refine FlushFrame.trans (t := { s with recorder := { s.recorder with store := _ } }) ?_
        (FlushFrame.setField _ _ _ _ flushKey_recSeq)
      exact FlushFrame.recorder s _ rfl

theorem State.writeEvent_frame (s : State) (e : Event) : FlushFrame s (s.writeEvent e) := by
  unfold State.writeEvent
  dsimp only
  refine FlushFrame.trans ?_ (State.writeOne_frame _ e)
  split
  · exact (State.writeOne_frame s _).trans (FlushFrame.recorder _ _ rfl)
  · split
    · exact FlushFrame.count s flushKey_recDropped
    · exact FlushFrame.rfl' s

theorem State.takeEvent_frame (s : State) (e : Event) : FlushFrame s (s.takeEvent e) := by
  have h : ∀ b : Bool, FlushFrame s
      (if b = true then
        if s.recorder.held.length < 4096 then { s with recorder := { s.recorder with held := s.recorder.held ++ [e] } }
        else s.count Reg.recFrzDrop
      else if s.recorder.clearing then
        if s.recorder.waiting.length < 4096 then { s with recorder := { s.recorder with waiting := s.recorder.waiting ++ [e] } }
        else s.count Reg.recOverrun
      else s.writeEvent e) := by
    intro b
    split
    · split
      · exact FlushFrame.recorder s _ rfl
      · exact FlushFrame.count s flushKey_recFrzDrop
    · split
      · split
        · exact FlushFrame.recorder s _ rfl
        · exact FlushFrame.count s flushKey_recOverrun
      · exact State.writeEvent_frame s e
  exact h _

/-- Handing the raised events to the recorder changes the recorder, what has left the module, and the registers of `flushKey`, and
leaves no event raised. -/
theorem State.flush_frame (s : State) :
    FlushFrame { s with recorder := { s.recorder with raised := [] } } s.flush := by
  unfold State.flush
  exact FlushFrame.foldl _ _ State.takeEvent_frame _

theorem State.flush_raised (s : State) : s.flush.recorder.raised = [] := s.flush_frame.raised rfl

theorem State.flush_reg (s : State) {k : Nat} (h : flushKey k = false) : s.flush.reg k = s.reg k := s.flush_frame.regs k h

theorem State.flush_field (s : State) {k : Nat} (lo w : Nat) (h : flushKey k = false) :
    s.flush.field k lo w = s.field k lo w := by simp [State.field, s.flush_reg h]

theorem State.flush_flag (s : State) {k : Nat} (i : Nat) (h : flushKey k = false) : s.flush.flag k i = s.flag k i := by
  simp [State.flag, s.flush_reg h]

@[simp] theorem State.flush_pending (s : State) : s.flush.pending = s.pending := by rw [s.flush_frame.shape]
@[simp] theorem State.flush_time (s : State) : s.flush.time = s.time := by rw [s.flush_frame.shape]
@[simp] theorem State.flush_cores (s : State) : s.flush.cores = s.cores := by rw [s.flush_frame.shape]
@[simp] theorem State.flush_regions (s : State) : s.flush.regions = s.regions := by rw [s.flush_frame.shape]
@[simp] theorem State.flush_disp (s : State) : s.flush.disp = s.disp := by rw [s.flush_frame.shape]
@[simp] theorem State.flush_devSems (s : State) : s.flush.devSems = s.devSems := by rw [s.flush_frame.shape]
@[simp] theorem State.flush_hbm (s : State) : s.flush.hbm = s.hbm := by rw [s.flush_frame.shape]
@[simp] theorem State.flush_ecc (s : State) : s.flush.ecc = s.ecc := by rw [s.flush_frame.shape]
@[simp] theorem State.flush_traces (s : State) : s.flush.traces = s.traces := by rw [s.flush_frame.shape]
@[simp] theorem State.flush_host (s : State) : s.flush.host = s.host := by rw [s.flush_frame.shape]
@[simp] theorem State.flush_fab (s : State) : s.flush.fab = s.fab := by rw [s.flush_frame.shape]
@[simp] theorem State.flush_gate (s : State) : s.flush.gate = s.gate := by rw [s.flush_frame.shape]
@[simp] theorem State.flush_grm (s : State) : s.flush.grm = s.grm := by rw [s.flush_frame.shape]
@[simp] theorem State.flush_rst (s : State) : s.flush.rst = s.rst := by rw [s.flush_frame.shape]
@[simp] theorem State.flush_nmes (s : State) : s.flush.nmes = s.nmes := by rw [s.flush_frame.shape]
@[simp] theorem State.flush_routes (s : State) : s.flush.routes = s.routes := by rw [s.flush_frame.shape]
@[simp] theorem State.flush_gstop (s : State) : s.flush.gstop = s.gstop := by rw [s.flush_frame.shape]
@[simp] theorem State.flush_ckp (s : State) : s.flush.ckp = s.ckp := by rw [s.flush_frame.shape]
@[simp] theorem State.flush_sec (s : State) : s.flush.sec = s.sec := by rw [s.flush_frame.shape]
@[simp] theorem State.flush_queues (s : State) : s.flush.queues = s.queues := by rw [s.flush_frame.shape]
@[simp] theorem State.flush_isk (s : State) : s.flush.isk = s.isk := by rw [s.flush_frame.shape]
@[simp] theorem State.flush_freeIndex (s : State) : s.flush.freeIndex = s.freeIndex := by rw [s.flush_frame.shape]

/-! ### The form of a command's outcome -/

theorem act_true {g : State → Bool} {f : State → State} {s : State} (h : g s = true) : act g f s = .next (f s).flush := by
  simp [act, h]

theorem act_false {g : State → Bool} {f : State → State} {s : State} (h : g s = false) : act g f s = .next s := by
  simp [act, h]

/-- A command of this form always answers a next state: the one it was given, or the one its effect leaves with the raised
events recorded. -/
theorem act_cases (g : State → Bool) (f : State → State) (s : State) :
    (g s = true ∧ act g f s = .next (f s).flush) ∨ (g s = false ∧ act g f s = .next s) := by
  cases h : g s
  · exact .inr ⟨rfl, act_false h⟩
  · exact .inl ⟨rfl, act_true h⟩

theorem actLive_true {g : State → Bool} {f : State → State} {s : State} (h : s.stops 0 = false) (h' : g s = true) :
    actLive g f s = .next (f s).flush := by
  simp [actLive, act, h, h']

/-- While the whole module is stopped, a command of a stopped unit changes nothing (R428). -/
theorem actLive_stopped {g : State → Bool} {f : State → State} {s : State} (h : s.stops 0 = true) : actLive g f s = .next s := by
  simp [actLive, act, h]

end Sys2Proof.Machine
end

