-- ==== Sys2Proof/Laws/Book.lean ====
section
/-! SUPPORT. Laws of the module's books: what counting, tracing, raising and recording events can change. -/

namespace Sys2Proof.Machine

theorem Books.refl (s : State) : Books s s := ⟨by cases s; rfl, fun _ _ => rfl⟩

theorem Books.trans {s t u : State} (h : Books s t) (g : Books t u) : Books s u :=
  ⟨by rw [g.shape, h.shape], fun k hk => (g.regs k hk).trans (h.regs k hk)⟩

theorem Books.setReg (s : State) {k : Nat} (v : Nat) (h : bookKey k = true) : Books s (s.setReg k v) :=
  ⟨by cases s; rfl, fun j hj => s.reg_setReg_ne _ (by rintro rfl; simp [h] at hj)⟩

theorem Books.setField (s : State) {k : Nat} (lo w v : Nat) (h : bookKey k = true) : Books s (s.setField k lo w v) :=
  Books.setReg s _ h

theorem flushKey_book {k : Nat} (h : flushKey k = true) : bookKey k = true := by
  have e : Reg.pmcGlobal = 0x3180000 := rfl
  simp only [flushKey, bookKey, Bool.or_eq_true, Bool.and_eq_true, decide_eq_true_eq, beq_iff_eq] at h ⊢
  omega

theorem FlushFrame.books {s t : State} (h : FlushFrame s t) : Books s t :=
  ⟨by rw [h.shape], fun k hk => h.regs k (by
    cases e : flushKey k with
    | false => rfl
    | true => exact absurd (flushKey_book e) (by simp [hk]))⟩

theorem Books.flush (s : State) : Books s s.flush :=
  Books.trans (t := { s with recorder := { s.recorder with raised := [] } }) ⟨rfl, fun _ _ => rfl⟩ s.flush_frame.books

theorem Books.irq (s : State) (pf v : Nat) : Books s (s.irq pf v) := (s.irq_frame pf v).books

theorem Books.raise (s : State) (code : Nat) (src : Nat × Nat) (items : List (Nat × Nat)) (job : Option (Nat × Nat × Nat)) :
    Books s (s.raise code src items job) := ⟨by cases s; rfl, fun _ _ => rfl⟩

theorem Books.enq (s : State) (k : Nat) : Books s (s.enq k) := ⟨by cases s; rfl, fun _ _ => rfl⟩

theorem Books.setTraceBuf (s : State) (c : Nat) (t : TraceBuf) : Books s (s.setTraceBuf c t) := ⟨by cases s; rfl, fun _ _ => rfl⟩

theorem bookKey_pmc {k : Nat} (h : 0x3000000 ≤ k) (h' : k < 0x3182000) : bookKey k = true := by
  simp only [bookKey, Bool.or_eq_true, Bool.and_eq_true, decide_eq_true_eq]
  omega

theorem bookKey_trcStat {c : Nat} (h : c < 192) : bookKey (Reg.trcStat c) = true := by
  have e : Reg.trcStat c = 0x3400000 + 0x40 * c + 0x08 := rfl
  have h1 : 0x3400000 ≤ Reg.trcStat c ∧ Reg.trcStat c < 0x3403000 ∧ Reg.trcStat c % 0x40 = 8 := by omega
  simp only [bookKey, Bool.or_eq_true, Bool.and_eq_true, decide_eq_true_eq, beq_iff_eq]
  exact .inr ⟨⟨h1.1, h1.2.1⟩, h1.2.2⟩

theorem bookKey_sample {c : Nat} (h : c < 192) : bookKey (Reg.hifSample (c / 64)) = true := by
  have e : Reg.hifSample (c / 64) = 0x0200 + 8 * (c / 64) := rfl
  have h1 : 0x200 ≤ Reg.hifSample (c / 64) ∧ Reg.hifSample (c / 64) < 0x218 := by omega
  simp only [bookKey, Bool.or_eq_true, Bool.and_eq_true, decide_eq_true_eq]
  exact .inl (.inl (.inr h1))

theorem Books.traceDrop (s : State) {c : Nat} (h : c < 192) : Books s (s.traceDrop c) := by
  unfold State.traceDrop
  exact (Books.setTraceBuf s c _).trans (Books.setField _ _ _ _ (bookKey_trcStat h))

theorem Books.foldl {β : Type} (l : List β) (f : State → β → State) (h : ∀ s b, b ∈ l → Books s (f s b)) (s : State) :
    Books s (l.foldl f s) := by
  induction l generalizing s with
  | nil => exact Books.refl s
  | cons b l ih => exact (h s b (by simp)).trans (ih (fun s c hc => h s c (by simp [hc])) (f s b))

theorem Books.traceStore (s : State) {c : Nat} (l : List (Word × Word × Nat)) (h : c < 192) : Books s (s.traceStore c l) :=
  (Books.setTraceBuf s c _).trans (Books.foldl _ _ (fun u _ _ => Books.traceDrop u h) _)

theorem Books.tracePut (s : State) {c : Nat} (kind engine ioff : Nat) (data : Word) (h : c < 192) :
    Books s (s.tracePut c kind engine ioff data) := by
  unfold State.tracePut
  dsimp only
  split
  · exact Books.refl s
  · split
    · exact Books.traceDrop s h
    · exact Books.traceStore s _ h

theorem Books.traceRec (s : State) {c : Nat} (kind engine ioff : Nat) (data : Word) (h : c < 192) :
    Books s (s.traceRec c kind engine ioff data) := by
  unfold State.traceRec
  split
  · exact Books.tracePut s _ _ _ _ h
  · exact Books.refl s

/-- A counter index of a set, by its core or tile. -/
def PmcSet.ok (set : PmcSet) (j : Nat) : Prop :=
  match set with
  | .core c => c < 192 ∧ j < 16
  | .tile t => t < 10 ∧ j < 64
  | .global => j < 256

theorem PmcSet.cnt_book {set : PmcSet} {j : Nat} (h : set.ok j) : bookKey (set.cnt j) = true := by
  cases set with
  | core c => exact bookKey_pmc (by simp only [PmcSet.cnt, Reg.pmcCore]; omega)
                (by simp only [PmcSet.cnt, Reg.pmcCore, PmcSet.ok] at *; omega)
  | tile t => exact bookKey_pmc (by simp only [PmcSet.cnt, Reg.pmcTile]; omega)
                (by simp only [PmcSet.cnt, Reg.pmcTile, PmcSet.ok] at *; omega)
  | global => exact bookKey_pmc (by simp only [PmcSet.cnt, Reg.pmcGlobal]; omega)
                (by simp only [PmcSet.cnt, Reg.pmcGlobal, PmcSet.ok] at *; omega)

theorem PmcSet.ovf_book {set : PmcSet} {j : Nat} (h : set.ok j) : bookKey (set.ovf j).1 = true := by
  cases set with
  | core c => exact bookKey_pmc (by simp only [PmcSet.ovf, Reg.pmcCore]; omega)
                (by simp only [PmcSet.ovf, Reg.pmcCore, PmcSet.ok] at *; omega)
  | tile t => exact bookKey_pmc (by simp only [PmcSet.ovf, Reg.pmcTile]; omega)
                (by simp only [PmcSet.ovf, Reg.pmcTile, PmcSet.ok] at *; omega)
  | global => exact bookKey_pmc (by simp only [PmcSet.ovf, Reg.pmcGlobal]; omega)
                (by simp only [PmcSet.ovf, Reg.pmcGlobal, PmcSet.ok] at *; omega)

theorem Books.pmcSample (s : State) {c : Nat} (j ev : Nat) (h : c < 192) : Books s (s.pmcSample c j ev) := by
  unfold State.pmcSample
  dsimp only
  exact ((Books.tracePut s _ _ _ _ h).trans (Books.setField _ _ _ _ (bookKey_sample h))).trans (Books.irq _ _ _)

theorem Books.pmcOverflow (s : State) {set : PmcSet} {j : Nat} (h : set.ok j) : Books s (s.pmcOverflow set j) := by
  have h1 := Books.setField s (set.ovf j).2 1 1 (PmcSet.ovf_book h)
  have h2 : ∀ (b : Bool) (c i ev : Nat), c < 192 →
      Books s (if b then ((s.setFlag (set.ovf j).1 (set.ovf j).2).pmcSample c i ev) else s.setFlag (set.ovf j).1 (set.ovf j).2) := by
    intro b c i ev hc
    cases b
    · exact h1
    · exact h1.trans (Books.pmcSample _ _ _ hc)
  unfold State.pmcOverflow
  cases set with
  | core c => exact h2 _ c _ _ h.1
  | tile t => exact h1
  | global => exact h1

theorem PmcSet.ok_succ {set : PmcSet} {j : Nat} (h : set.ok j) (e : j % 2 = 0) : set.ok (j + 1) := by
  cases set with
  | core c => simp only [PmcSet.ok] at *; omega
  | tile t => simp only [PmcSet.ok] at *; omega
  | global => simp only [PmcSet.ok] at *; omega

theorem Books.pmcAdd (s : State) {set : PmcSet} {j : Nat} (n : Nat) (h : set.ok j) : Books s (s.pmcAdd set j n) := by
  unfold State.pmcAdd
  dsimp only
  have h1 := Books.setReg s ((s.field (set.cnt j) 0 set.width + n) % 2 ^ set.width) (PmcSet.cnt_book h)
  split
  · exact h1
  · split
    · next hc =>
      have hk := PmcSet.cnt_book (PmcSet.ok_succ h hc.1)
      split
      · exact h1.trans (Books.setReg _ _ hk)
      · exact (h1.trans (Books.setReg _ _ hk)).trans (Books.pmcOverflow _ (PmcSet.ok_succ h hc.1))
    · exact h1.trans (Books.pmcOverflow _ h)

theorem State.pmcLive_mem {s : State} {set : PmcSet} {j : Nat} (h : j ∈ s.pmcLive set) : j < set.size := by
  unfold State.pmcLive at h
  obtain ⟨e, he, rfl⟩ := List.mem_map.mp h
  have h2 := (List.mem_filter.mp he).2
  rw [Bool.and_eq_true, decide_eq_true_eq, decide_eq_true_eq] at h2
  have e0 : set.sel set.size = set.sel 0 + 8 * set.size := by
    cases set <;> simp [PmcSet.sel, PmcSet.size]
  omega

theorem Books.pmcGlobal (s : State) (scope idx ev n : Nat) : Books s (s.pmcGlobal scope idx ev n) := by
  unfold State.pmcGlobal
  refine Books.foldl _ _ (fun t j hj => ?_) s
  dsimp only
  split
  · exact Books.pmcAdd t n (State.pmcLive_mem hj)
  · exact Books.refl t

theorem Books.coreEvent (s : State) {c : Nat} (ev n : Nat) (h : c < 192) : Books s (s.coreEvent c ev n) := by
  unfold State.coreEvent
  refine Books.trans (Books.foldl _ _ (fun t j hj => ?_) s) (Books.pmcGlobal _ _ _ _ _)
  dsimp only
  split
  · exact Books.pmcAdd t n ⟨h, State.pmcLive_mem hj⟩
  · exact Books.refl t

theorem Books.tileEvent (s : State) {t : Nat} (src ev n : Nat) (h : t < 10) : Books s (s.tileEvent t src ev n) := by
  unfold State.tileEvent
  refine Books.trans (Books.foldl _ _ (fun u j hj => ?_) s) (Books.pmcGlobal _ _ _ _ _)
  dsimp only
  split
  · exact Books.pmcAdd u n ⟨h, State.pmcLive_mem hj⟩
  · exact Books.refl u

theorem Books.hbmEvent (s : State) (stack ev : Nat) : Books s (s.hbmEvent stack ev) := by
  unfold State.hbmEvent
  split
  · exact Books.tileEvent s _ _ _ (by omega)
  · exact Books.refl s

theorem Books.globalEvent (s : State) (ev : Nat) : Books s (s.globalEvent ev) := Books.pmcGlobal s _ _ _ _

theorem Books.countN (s : State) {k : Nat} (n : Nat) (h : bookKey k = true) : Books s (s.countN k n) := Books.setReg s _ h

/-! ### What the books leave alone -/

theorem Books.cores {s t : State} (h : Books s t) : t.cores = s.cores := by rw [h.shape]
theorem Books.core {s t : State} (h : Books s t) (c : Nat) : t.core c = s.core c := by unfold State.core; rw [h.cores]
theorem Books.ecc {s t : State} (h : Books s t) : t.ecc = s.ecc := by rw [h.shape]
theorem Books.hbm {s t : State} (h : Books s t) : t.hbm = s.hbm := by rw [h.shape]
theorem Books.time {s t : State} (h : Books s t) : t.time = s.time := by rw [h.shape]
theorem Books.freeIndex {s t : State} (h : Books s t) : t.freeIndex = s.freeIndex := by rw [h.shape]
theorem Books.devSems {s t : State} (h : Books s t) : t.devSems = s.devSems := by rw [h.shape]
theorem Books.regions {s t : State} (h : Books s t) : t.regions = s.regions := by rw [h.shape]
theorem Books.grm {s t : State} (h : Books s t) : t.grm = s.grm := by rw [h.shape]
theorem Books.fab {s t : State} (h : Books s t) : t.fab = s.fab := by rw [h.shape]
theorem Books.gate {s t : State} (h : Books s t) : t.gate = s.gate := by rw [h.shape]
theorem Books.gstop {s t : State} (h : Books s t) : t.gstop = s.gstop := by rw [h.shape]
theorem Books.pending {s t : State} (h : Books s t) : t.pending = s.pending := by rw [h.shape]

theorem Books.field {s t : State} (h : Books s t) {k : Nat} (lo w : Nat) (hk : bookKey k = false) :
    t.field k lo w = s.field k lo w := by unfold State.field; rw [h.regs k hk]

theorem Books.flag {s t : State} (h : Books s t) {k : Nat} (i : Nat) (hk : bookKey k = false) :
    t.flag k i = s.flag k i := by unfold State.flag; rw [h.regs k hk]

theorem Books.setCore {s t : State} (h : Books s t) (c : Nat) (k : Core) : Books (s.setCore c k) (t.setCore c k) := by
  refine ⟨?_, h.regs⟩
  unfold State.setCore
  rw [h.shape]

/-- A change of a core that reads nothing but the core goes through the books. -/
theorem Books.modCore {s t : State} (h : Books s t) (c : Nat) (f : Core → Core) : Books (s.modCore c f) (t.modCore c f) := by
  unfold State.modCore
  rw [h.core]
  exact h.setCore c _

theorem Books.progress (s : State) (k : Nat) : Books s (s.progress k) := ⟨by cases s; rfl, fun _ _ => rfl⟩

theorem Books.ctlProgress (s : State) (c : Nat) : Books s (s.ctlProgress c) := ⟨by cases s; rfl, fun _ _ => rfl⟩

theorem Books.stallOn (s : State) (c kind node : Nat) : Books s (s.stallOn c kind node) := by
  unfold State.stallOn
  have h : ∀ q, Books s { s with queues := q } := fun q => ⟨by cases s; rfl, fun _ _ => rfl⟩
  split
  · split
    · exact Books.refl s
    · exact h _
  · exact h _

theorem Books.engineWoken (s : State) (c e : Nat) : Books s (s.engineWoken c e) := by
  unfold State.engineWoken
  split
  · exact Books.refl s
  · exact Books.progress s _

/-- An instruction retires: its change of the core, the PC moved on, and the books. -/
theorem Books.retire {s t : State} (h : Books s t) (c : Nat) (f : Core → Core) :
    Books (s.modCore c (fun k => (f k).setPc k.nextPc)) (t.retire c f) := (h.modCore c _).trans (Books.ctlProgress _ c)

/-- The same, with what the change makes of the core named. -/
theorem Books.modCore_eq {s t : State} (h : Books s t) {c : Nat} {f : Core → Core} {k : Core} (e : f (s.core c) = k) :
    Books (s.setCore c k) (t.modCore c f) := by
  subst e
  exact h.modCore c f

theorem Books.retire_eq {s t : State} (h : Books s t) {c : Nat} {f : Core → Core} {k : Core} (e : f (s.core c) = k) :
    Books (s.setCore c (k.setPc (s.core c).nextPc)) (t.retire c f) := by
  subst e
  exact h.retire c f

theorem Books.branchWith {s t : State} (h : Books s t) {c : Nat} (a : Nat) {f : Core → Core} {k : Core} (hc : c < 192)
    (e : f (s.core c) = k) : Books (s.setCore c (k.setPc a)) (t.branchWith c a f) := by
  subst e
  exact ((h.trans (Books.coreEvent t 0x006 1 hc)).trans (Books.traceRec _ 2 0 ((t.core c).ioff (t.core c).pc)
    (BitVec.ofNat 64 ((t.core c).ioff a)) hc)).modCore c (fun k => (f k).setPc a) |>.trans (Books.ctlProgress _ c)

theorem Books.branchTo {s t : State} (h : Books s t) {c : Nat} (a : Nat) (hc : c < 192) :
    Books (s.setCore c ((s.core c).setPc a)) (t.branchTo c a) := h.branchWith a hc rfl

theorem Books.traceIssue (s : State) {c : Nat} (engine cls fn : Nat) (x : Fki) (h : c < 192) :
    Books s (s.traceIssue c engine cls fn x) := by
  have h1 : ∀ u : State, Books u (if engine = 0 then u else u.enq (4 * c + (if cls = 6 then 0 else engine))) := by
    intro u
    split
    · exact Books.refl u
    · exact Books.enq u _
  have h2 : ∀ u : State, Books u (if u.flag (Reg.trcCtl c) (3 + engine)
      then u.traceRec c 3 engine ((u.core c).ioff (u.core c).pc) (fkiWord cls fn x) else u) := by
    intro u
    split
    · exact Books.traceRec _ _ _ _ _ h
    · exact Books.refl u
  exact ((Books.engineWoken s c engine).trans (h1 _)).trans (h2 _)

/-! ### Instructions -/

theorem State.issues_lt {s : State} {c : Nat} {l m : List Nat} (h : s.issues c l m = true) : c < 192 := by
  simp only [State.issues, Bool.and_eq_true, decide_eq_true_eq] at h
  exact h.1.1.1.1.1

theorem State.issues_nil {s : State} {c : Nat} {l m : List Nat} (h : s.issues c l m = true) : s.issues c [] [] = true := by
  simp only [State.issues, Bool.and_eq_true] at h ⊢
  exact ⟨⟨h.1.1, rfl⟩, rfl⟩

/-- Nothing holds CTL before an instruction that may issue and has room. -/
theorem State.stalled_none {s : State} {c engine : Nat} {l m : List Nat} {room : Core → Bool} (hi : s.issues c l m = true)
    (hr : room (s.core c) = true) : s.stalled c engine l m room = none := by
  simp [State.stalled, hi, hr, State.issues_nil hi]

/-- No hardware error, no exception of one. -/
@[simp] theorem hwExc_none {x : Fki} (h : x.hw = .none) (engine pc : Nat) : hwExc x engine pc = none := by
  simp [hwExc, h]

/-- An instruction that may issue, with room in its queue and its zero fields zero, that meets no hardware error, has its effect on a
state that differs from the one it was given in the books alone; what that effect leaves is what the command answers, but
for the books. -/
theorem fkiWhen_next {x : Fki} {engine cls fn : Nat} {l m : List Nat} {room : Core → Bool} {ok : Bool} {f : State → State}
    {s t : State} (hi : s.issues x.core l m = true) (hr : room (s.core x.core) = true) (ho : ok = true) (hw : x.hw = .none)
    (hf : ∀ u, Books s u → Books t (f u)) :
    ∃ u, fkiWhen x engine cls fn l m room ok f s = .next u ∧ Books t u := by
  have hc := State.issues_lt hi
  unfold fkiWhen
  rw [State.stalled_none hi hr]
  refine ⟨_, act_true (by simp only [hi, hr, Bool.and_self]), ?_⟩
  simp only [hwExc_none hw, ho, if_true]
  exact (hf _ ((Books.coreEvent s 0x001 1 hc).trans (Books.traceIssue _ _ _ _ _ hc))).trans (Books.flush _)

theorem fki_next {x : Fki} {engine cls fn : Nat} {l m : List Nat} {ok : Bool} {f : State → State} {s t : State}
    (hi : s.issues x.core l m = true) (ho : ok = true) (hw : x.hw = .none) (hf : ∀ u, Books s u → Books t (f u)) :
    ∃ u, fki x engine cls fn l m ok f s = .next u ∧ Books t u := fkiWhen_next hi rfl ho hw hf

end Sys2Proof.Machine
end

