-- ==== Sys2Proof/Laws/Memory.lean ====
section
/-! SUPPORT. Laws of HBM: every memory operation keeps the canonical form, and what is read after a write. -/

namespace Sys2Proof.Machine

/-- HBM lists no byte that is zero, at rising addresses. -/
def State.memWf (s : State) : Prop := Memory.wf s.hbm = true

theorem State.memWf_reset : State.reset.memWf := rfl

theorem putBytes_wf {m : Tab Byte} (k : Nat) (l : List Byte) (h : Memory.wf m = true) : Memory.wf (putBytes m k l) = true := by
  induction l generalizing m k with
  | nil => exact h
  | cons b t ih => exact ih (k + 1) (Tab.wf_put (d := fun _ => (0 : Byte)) k b h)

/-- A byte outside the bytes written reads as before. -/
theorem putBytes_out (m : Tab Byte) (k : Nat) (l : List Byte) (j : Nat) (h : j < k ∨ k + l.length ≤ j) :
    Tab.get (putBytes m k l) 0 j = Tab.get m 0 j := by
  induction l generalizing m k with
  | nil => rfl
  | cons b t ih =>
    simp only [List.length_cons] at h
    have hj : j ≠ k := by omega
    simp only [putBytes]
    rw [ih (Tab.put m 0 k b) (k + 1) (by omega), Tab.get_put_ne _ _ _ hj]

/-- The bytes written read back. -/
theorem putBytes_in {m : Tab Byte} (k : Nat) (l : List Byte) (h : Memory.wf m = true) (i : Nat) (hi : i < l.length) :
    Tab.get (putBytes m k l) 0 (k + i) = l[i] := by
  induction l generalizing m k i with
  | nil => simp at hi
  | cons b t ih =>
    have hw := Tab.wf_put (d := fun _ => (0 : Byte)) k b h
    simp only [putBytes]
    cases i with
    | zero =>
      rw [putBytes_out _ _ _ _ (by omega)]
      exact Tab.get_put_self (d := fun _ => (0 : Byte)) k b h
    | succ i =>
      have h2 := ih (k + 1) hw i (by simpa using hi)
      rw [show k + (i + 1) = k + 1 + i by omega]
      simpa using h2

theorem State.raise_hbm' (s : State) (code : Nat) (src : Nat × Nat) (items : List (Nat × Nat)) :
    (s.raise code src items).hbm = s.hbm := rfl

theorem State.bankFull_hbm (s : State) (i bank : Nat) : (s.bankFull i bank).hbm = s.hbm := by
  unfold State.bankFull
  dsimp only
  split <;> rfl

theorem State.sppr_hbm (s : State) (i row : Nat) : (s.sppr i row).hbm = s.hbm := by
  unfold State.sppr
  dsimp only
  split
  · split
    · rfl
    · rw [State.bankFull_hbm]; rfl
  · exact State.bankFull_hbm s i _

theorem State.passTick_hbm (s : State) (i : Nat) : (s.passTick i).hbm = s.hbm := by
  unfold State.passTick
  dsimp only
  split <;> rfl

theorem State.corrected_hbm (s : State) (i a : Nat) : (s.corrected i a).hbm = s.hbm := by
  unfold State.corrected
  dsimp only
  split <;> split <;> simp [State.sppr_hbm, State.passTick_hbm]

theorem State.readLine_wf {s : State} (line : Nat) (h : s.memWf) : (s.readLine line).2.memWf := by
  unfold State.readLine
  dsimp only
  generalize s.lineErrs line = e, s.linePoison line = p
  have h : (s.hbmEvent (line / 2 ^ 31) 0x020).memWf := by unfold State.memWf; rw [(Books.hbmEvent s _ _).hbm]; exact h
  generalize s.hbmEvent (line / 2 ^ 31) 0x020 = s at h ⊢
  have hx : ((s.setEcc line 0 p).corrected (line / 2 ^ 31) (line % 2 ^ 31 * 64)).hbm = s.hbm := by
    rw [State.corrected_hbm]; rfl
  split
  · split <;> exact h
  · split
    · split
      · unfold State.memWf; rw [State.count_hbm, hx]; exact h
      · unfold State.memWf; rw [hx]; exact h
    · split
      · exact putBytes_wf _ _ h
      · split <;> exact h

theorem State.writeLine_wf {s : State} (k : Nat) (l : List Byte) (h : s.memWf) : (s.writeLine k l).memWf := by
  unfold State.writeLine
  dsimp only
  have h : (s.hbmEvent (k / 64 / 2 ^ 31) 0x021).memWf := by unfold State.memWf; rw [(Books.hbmEvent s _ _).hbm]; exact h
  generalize s.hbmEvent (k / 64 / 2 ^ 31) 0x021 = s at h ⊢
  split
  · exact putBytes_wf _ _ h
  · have hr := putBytes_wf k l (State.readLine_wf (k / 64) h)
    split <;> exact hr

theorem State.readPieces_wf {s : State} (l : List (Nat × Nat)) (h : s.memWf) : (s.readPieces l).2.2.memWf := by
  induction l generalizing s with
  | nil => exact h
  | cons e t ih =>
    obtain ⟨addr, n⟩ := e
    simp only [State.readPieces]
    split
    · exact h
    · next stack a _ =>
      have hr := State.readLine_wf (physKey stack a / 64) h
      split
      · exact ih hr
      · exact hr

/-- Reading HBM keeps its canonical form. -/
theorem State.memRead_wf {s : State} (addr n : Nat) (h : s.memWf) : (s.memRead addr n).2.2.memWf := State.readPieces_wf _ h

theorem State.writePieces_wf {s : State} (l : List (Nat × Nat)) (bytes : List Byte) (h : s.memWf) :
    (s.writePieces l bytes).memWf := by
  induction l generalizing s bytes with
  | nil => exact h
  | cons e t ih =>
    obtain ⟨addr, n⟩ := e
    simp only [State.writePieces]
    split
    · exact ih _ h
    · exact ih _ (State.writeLine_wf _ _ h)

/-- Writing HBM keeps its canonical form. -/
theorem State.memWrite_wf {s : State} (addr : Nat) (bytes : List Byte) (h : s.memWf) : (s.memWrite addr bytes).memWf :=
  State.writePieces_wf _ _ h

/-- Poisoning a range writes no byte. -/
theorem State.poisonRange_hbm (s : State) (addr n : Nat) : (s.poisonRange addr n).hbm = s.hbm := by
  unfold State.poisonRange
  induction pieces addr n generalizing s with
  | nil => rfl
  | cons e t ih =>
    simp only [List.foldl_cons]
    rw [ih]
    split <;> rfl

/-- Handing events to the recorder writes no byte. -/
theorem State.flush_memWf {s : State} (h : s.memWf) : s.flush.memWf := by unfold State.memWf; rw [State.flush_hbm]; exact h

/-- In HBM without failed symbols or poison a line reads well and changes nothing but the books: the read is counted. -/
theorem State.readLine_clean {s : State} (line : Nat) (h : s.ecc = []) :
    s.readLine line = (true, s.hbmEvent (line / 2 ^ 31) 0x020) := by
  have h1 : s.lineErrs line = 0 := by simp [State.lineErrs, h, Tab.get, Tab.find]
  have h2 : s.linePoison line = false := by simp [State.linePoison, h, Tab.get, Tab.find]
  unfold State.readLine
  simp [h1, h2]

theorem State.spread_books {s t : State} (h : Books s t) : t.spread = s.spread := by
  unfold State.spread
  rw [h.field _ _ (by decide)]

theorem State.readPieces_clean {s : State} (l : List (Nat × Nat)) (h : s.ecc = []) (hl : ∀ p, p ∈ l → (locate s.spread p.1).isSome) :
    ∃ u, (s.readPieces l).2 = (none, u) ∧ Books s u := by
  induction l generalizing s with
  | nil => exact ⟨s, rfl, Books.refl s⟩
  | cons e t ih =>
    obtain ⟨addr, n⟩ := e
    have h1 := hl (addr, n) (List.mem_cons_self ..)
    simp only [State.readPieces]
    split
    · next h2 => rw [h2] at h1; exact absurd h1 (by simp)
    · next stack a _ =>
      rw [State.readLine_clean _ h]
      simp only [if_true]
      have hb := Books.hbmEvent s (physKey stack a / 64 / 2 ^ 31) 0x020
      obtain ⟨u, hu, hub⟩ := ih (s := s.hbmEvent (physKey stack a / 64 / 2 ^ 31) 0x020) (by rw [hb.ecc]; exact h)
        (fun p hp => by rw [State.spread_books hb]; exact hl p (List.mem_cons_of_mem _ hp))
      exact ⟨u, hu, hb.trans hub⟩

/-- A read of backed HBM without failed symbols or poison succeeds and changes nothing but the books. -/
theorem State.memRead_clean {s : State} (addr n : Nat) (h : s.ecc = [])
    (hl : ∀ p, p ∈ pieces addr n → (locate s.spread p.1).isSome) : ∃ u, (s.memRead addr n).2 = (none, u) ∧ Books s u :=
  State.readPieces_clean _ h hl

theorem State.writeLine_clean {s : State} (k : Nat) (l : List Byte) (h : s.ecc = []) :
    ∃ u, Books s u ∧ s.writeLine k l = { u with hbm := putBytes s.hbm k l } := by
  have h1 : ∀ (t : State) (line : Nat), t.ecc = [] → t.setEcc line 0 false = t := fun t line ht => by
    unfold State.setEcc
    have h2 : Tab.put t.ecc 0 line (2 * 0 + b2n false) = t.ecc := by rw [ht]; rfl
    rw [h2]
  have hb := Books.hbmEvent s (k / 64 / 2 ^ 31) 0x021
  have he := hb.ecc.trans h
  unfold State.writeLine
  dsimp only
  split
  · rw [h1 _ _ he]
    exact ⟨_, hb, by rw [hb.hbm]⟩
  · rw [State.readLine_clean _ he]
    simp only [if_true]
    have hb2 := hb.trans (Books.hbmEvent _ (k / 64 / 2 ^ 31) 0x020)
    rw [h1 _ _ (by exact hb2.ecc.trans h)]
    exact ⟨_, hb2, by rw [hb2.hbm]⟩

/-- What a state differs from another in the books alone does so whatever bytes both hold. -/
theorem Books.setHbm {s t : State} (h : Books s t) (m : Tab Byte) : Books { s with hbm := m } { t with hbm := m } :=
  ⟨by rw [h.shape], h.regs⟩

theorem State.writePieces_clean {s : State} (l : List (Nat × Nat)) (bytes : List Byte) (h : s.ecc = []) :
    ∃ m u, Books s u ∧ s.writePieces l bytes = { u with hbm := m } := by
  induction l generalizing s bytes with
  | nil => exact ⟨s.hbm, s, Books.refl s, rfl⟩
  | cons e t ih =>
    obtain ⟨addr, n⟩ := e
    simp only [State.writePieces]
    split
    · exact ih _ h
    · next stack a _ =>
      obtain ⟨u, hu, hw⟩ := State.writeLine_clean (physKey stack a) (bytes.take n) h
      rw [hw]
      obtain ⟨m, v, hv, he⟩ := ih (s := { u with hbm := putBytes s.hbm (physKey stack a) (bytes.take n) }) (bytes.drop n)
        (by exact hu.ecc.trans h)
      have h3 : Books u { v with hbm := u.hbm } := hv.setHbm u.hbm
      exact ⟨m, { v with hbm := u.hbm }, hu.trans h3, he⟩

/-- A write to HBM without failed symbols or poison changes its bytes alone, and the books. -/
theorem State.memWrite_clean {s : State} (addr : Nat) (bytes : List Byte) (h : s.ecc = []) :
    ∃ m u, Books s u ∧ s.memWrite addr bytes = { u with hbm := m } := State.writePieces_clean _ _ h

end Sys2Proof.Machine
end

