-- ==== Sys2Proof/Laws/Outcome.lean ====
section
/-! SUPPORT. Every meaning answers a next state, and leaves no raised event behind that the recorder has not been handed: one lemma for
each form of meaning, and one for each command. -/

namespace Sys2Proof.Machine
open Sys2Proof

/-- An outcome is a next state, with no event left raised where none was before. -/
def Recorded (s : State) (o : Host.Outcome State Fault Refusal) : Prop :=
  ∃ t, o = .next t ∧ (s.recorder.raised = [] → t.recorder.raised = [])

theorem act_recorded (g : State → Bool) (f : State → State) (s : State) : Recorded s (act g f s) := by
  rcases act_cases g f s with ⟨_, h⟩ | ⟨_, h⟩
  · exact ⟨_, h, fun _ => State.flush_raised _⟩
  · exact ⟨_, h, id⟩

theorem act1_recorded (f : State → State) (s : State) : Recorded s (act1 f s) := ⟨_, rfl, fun _ => State.flush_raised _⟩

theorem same_recorded (s : State) : Recorded s (.next s) := ⟨s, rfl, id⟩

theorem actLive_recorded (g : State → Bool) (f : State → State) (s : State) :
    Recorded s (actLive g f s) := act_recorded _ _ _

theorem State.stallOn_recorder (s : State) (c kind node : Nat) : (s.stallOn c kind node).recorder = s.recorder := by
  unfold State.stallOn
  split
  · split <;> rfl
  · rfl

theorem fkiWhen_recorded (x : Fki) (engine cls fn : Nat) (sUse tUse : List Nat) (room : Core → Bool) (ok : Bool)
    (f : State → State) (s : State) : Recorded s (fkiWhen x engine cls fn sUse tUse room ok f s) := by
  unfold fkiWhen
  split
  · exact ⟨_, rfl, fun h => by rw [State.stallOn_recorder]; exact h⟩
  · exact act_recorded _ _ _

theorem fki_recorded (x : Fki) (engine cls fn : Nat) (sUse tUse : List Nat) (ok : Bool) (f : State → State) (s : State) :
    Recorded s (fki x engine cls fn sUse tUse ok f s) := fkiWhen_recorded _ _ _ _ _ _ _ _ _ _

theorem scalar2_recorded (x : Fki) (fn : Nat) (f : Word → Word → Word) (s : State) :
    Recorded s (scalar2 x fn f s) := fki_recorded _ _ _ _ _ _ _ _ _

theorem scalarI_recorded (x : Fki) (fn : Nat) (f : Word → Word) (s : State) :
    Recorded s (scalarI x fn f s) := fki_recorded _ _ _ _ _ _ _ _ _

theorem branch2_recorded (x : Fki) (fn : Nat) (test : Word → Word → Bool) (s : State) :
    Recorded s (branch2 x fn test s) := fki_recorded _ _ _ _ _ _ _ _ _

theorem branchP_recorded (x : Fki) (fn : Nat) (test : Word → Bool) (s : State) :
    Recorded s (branchP x fn test s) := fki_recorded _ _ _ _ _ _ _ _ _

theorem vecLanes_recorded (x : Fki) (fn : Nat) (zeroB : Bool) (imm : Nat) (f : Core → Nat → FpResult) (s : State) :
    Recorded s (vecLanes x fn zeroB imm f s) := fki_recorded _ _ _ _ _ _ _ _ _

theorem vecRound2_recorded (x : Fki) (fn : Nat) (f : Rounding → Bool → Lane32 → Lane32 → FpResult) (s : State) :
    Recorded s (vecRound2 x fn f s) := vecLanes_recorded _ _ _ _ _ _

theorem vecPlain2_recorded (x : Fki) (fn : Nat) (f : Bool → Lane32 → Lane32 → FpResult) (s : State) :
    Recorded s (vecPlain2 x fn f s) := vecLanes_recorded _ _ _ _ _ _

theorem vecPlain1_recorded (x : Fki) (fn : Nat) (f : Bool → Lane32 → FpResult) (s : State) :
    Recorded s (vecPlain1 x fn f s) := vecLanes_recorded _ _ _ _ _ _

theorem vecCompare_recorded (x : Fki) (fn : Nat) (ordered : Bool) (test : Int → Bool) (s : State) :
    Recorded s (vecCompare x fn ordered test s) := fki_recorded _ _ _ _ _ _ _ _ _

theorem matIssue_recorded (x : Fki) (fn : Nat) (kind : MatKind) (sUse tUse : List Nat) (ok : Bool) (s : State) :
    Recorded s (matIssue x fn kind sUse tUse ok s) := fkiWhen_recorded _ _ _ _ _ _ _ _ _ _

theorem fabInstr_recorded (x : Fki) (fn : Nat) (tUse : List Nat) (ok : Bool) (s : State) :
    Recorded s (fabInstr x fn tUse ok s) := fkiWhen_recorded _ _ _ _ _ _ _ _ _ _

theorem hostWrite_recorded (pf off : Nat) (f : State → State) (s : State) :
    Recorded s (hostWrite pf off f s) := act1_recorded _ _

theorem ringCmd_recorded (op nme : Nat) (f : State → RingCmd → Found2 → RingOut) (s : State) :
    Recorded s (ringCmd op nme f s) := actLive_recorded _ _ _

theorem ckpCmd_recorded (op pf : Nat) (value : BitVec 64) (s : State) :
    Recorded s (ckpCmd op pf value s) := hostWrite_recorded _ _ _ _

theorem mbox_recorded (ops : Nat → Bool) (src : Nat) (q : Datagram) (body : State → Option (Nat × List Byte) × State) (s : State) :
    Recorded s (mbox ops src q body s) := act_recorded _ _ _

theorem signedFor_recorded (cmd : Option Nat) (src : Nat) (q : Datagram) (s : State) :
    Recorded s (signedFor cmd src q s) := act_recorded _ _ _

theorem spdm_recorded (kind : List Byte → Bool) (src : Nat) (q : Datagram) (s : State) :
    Recorded s (spdm kind src q s) := act_recorded _ _ _

theorem fwstage_recorded (action src : Nat) (q : Datagram) (body : State → Option (Nat × List Byte) × State) (s : State) :
    Recorded s (fwstage action src q body s) := act_recorded _ _ _

theorem calio_recorded (action src : Nat) (q : Datagram) (body : State → Option (Nat × List Byte) × State) (s : State) :
    Recorded s (calio action src q body s) := act_recorded _ _ _

/-! ### One lemma for each command -/

theorem execColdPowerOn_recorded (badStores : List Nat) (s : State) :
    Recorded s (execColdPowerOn badStores s) := act_recorded _ _ _
theorem execBringupStageComplete_recorded (report : StageReport) (s : State) :
    Recorded s (execBringupStageComplete report s) := act_recorded _ _ _
theorem execBringupStageTimeout_recorded (s : State) :
    Recorded s (execBringupStageTimeout s) := act_recorded _ _ _
theorem execMainInputRangeChange_recorded (input : MainInput) (s : State) :
    Recorded s (execMainInputRangeChange input s) := act1_recorded _ _
theorem execAuxInputLoss_recorded (s : State) :
    Recorded s (execAuxInputLoss s) := act_recorded _ _ _
theorem execDispatcherScan_recorded (s : State) :
    Recorded s (execDispatcherScan s) := actLive_recorded _ _ _
theorem execLaunch_recorded (entry : Nat) (s : State) :
    Recorded s (execLaunch entry s) := actLive_recorded _ _ _
theorem execAdd_recorded (x : Fki) (s : State) :
    Recorded s (execAdd x s) := scalar2_recorded _ _ _ _
theorem execSub_recorded (x : Fki) (s : State) :
    Recorded s (execSub x s) := scalar2_recorded _ _ _ _
theorem execMul_recorded (x : Fki) (s : State) :
    Recorded s (execMul x s) := scalar2_recorded _ _ _ _
theorem execMulhu_recorded (x : Fki) (s : State) :
    Recorded s (execMulhu x s) := scalar2_recorded _ _ _ _
theorem execAnd_recorded (x : Fki) (s : State) :
    Recorded s (execAnd x s) := scalar2_recorded _ _ _ _
theorem execOr_recorded (x : Fki) (s : State) :
    Recorded s (execOr x s) := scalar2_recorded _ _ _ _
theorem execXor_recorded (x : Fki) (s : State) :
    Recorded s (execXor x s) := scalar2_recorded _ _ _ _
theorem execShl_recorded (x : Fki) (s : State) :
    Recorded s (execShl x s) := scalar2_recorded _ _ _ _
theorem execShr_recorded (x : Fki) (s : State) :
    Recorded s (execShr x s) := scalar2_recorded _ _ _ _
theorem execSar_recorded (x : Fki) (s : State) :
    Recorded s (execSar x s) := scalar2_recorded _ _ _ _
theorem execSlt_recorded (x : Fki) (s : State) :
    Recorded s (execSlt x s) := scalar2_recorded _ _ _ _
theorem execSltu_recorded (x : Fki) (s : State) :
    Recorded s (execSltu x s) := scalar2_recorded _ _ _ _
theorem execMin_recorded (x : Fki) (s : State) :
    Recorded s (execMin x s) := scalar2_recorded _ _ _ _
theorem execMax_recorded (x : Fki) (s : State) :
    Recorded s (execMax x s) := scalar2_recorded _ _ _ _
theorem execAddi_recorded (x : Fki) (s : State) :
    Recorded s (execAddi x s) := scalarI_recorded _ _ _ _
theorem execAndi_recorded (x : Fki) (s : State) :
    Recorded s (execAndi x s) := scalarI_recorded _ _ _ _
theorem execOri_recorded (x : Fki) (s : State) :
    Recorded s (execOri x s) := scalarI_recorded _ _ _ _
theorem execLui_recorded (x : Fki) (s : State) :
    Recorded s (execLui x s) := scalarI_recorded _ _ _ _
theorem execMovi_recorded (x : Fki) (s : State) :
    Recorded s (execMovi x s) := fki_recorded _ _ _ _ _ _ _ _ _
theorem execRdsr_recorded (x : Fki) (s : State) :
    Recorded s (execRdsr x s) := fki_recorded _ _ _ _ _ _ _ _ _
theorem execWrsr_recorded (x : Fki) (s : State) :
    Recorded s (execWrsr x s) := fki_recorded _ _ _ _ _ _ _ _ _
theorem execNop_recorded (x : Fki) (s : State) :
    Recorded s (execNop x s) := fki_recorded _ _ _ _ _ _ _ _ _
theorem execBeq_recorded (x : Fki) (s : State) :
    Recorded s (execBeq x s) := branch2_recorded _ _ _ _
theorem execBne_recorded (x : Fki) (s : State) :
    Recorded s (execBne x s) := branch2_recorded _ _ _ _
theorem execBlt_recorded (x : Fki) (s : State) :
    Recorded s (execBlt x s) := branch2_recorded _ _ _ _
theorem execBge_recorded (x : Fki) (s : State) :
    Recorded s (execBge x s) := branch2_recorded _ _ _ _
theorem execBltu_recorded (x : Fki) (s : State) :
    Recorded s (execBltu x s) := branch2_recorded _ _ _ _
theorem execBgeu_recorded (x : Fki) (s : State) :
    Recorded s (execBgeu x s) := branch2_recorded _ _ _ _
theorem execJal_recorded (x : Fki) (s : State) :
    Recorded s (execJal x s) := fki_recorded _ _ _ _ _ _ _ _ _
theorem execJr_recorded (x : Fki) (s : State) :
    Recorded s (execJr x s) := fki_recorded _ _ _ _ _ _ _ _ _
theorem execBpany_recorded (x : Fki) (s : State) :
    Recorded s (execBpany x s) := branchP_recorded _ _ _ _
theorem execBpnone_recorded (x : Fki) (s : State) :
    Recorded s (execBpnone x s) := branchP_recorded _ _ _ _
theorem execEndProgram_recorded (x : Fki) (s : State) :
    Recorded s (execEndProgram x s) := fki_recorded _ _ _ _ _ _ _ _ _
theorem execProgramEndComplete_recorded (core : Nat) (s : State) :
    Recorded s (execProgramEndComplete core s) := actLive_recorded _ _ _
theorem execLds_recorded (x : Fki) (s : State) :
    Recorded s (execLds x s) := fki_recorded _ _ _ _ _ _ _ _ _
theorem execSts_recorded (x : Fki) (s : State) :
    Recorded s (execSts x s) := fki_recorded _ _ _ _ _ _ _ _ _
theorem execLdv_recorded (x : Fki) (s : State) :
    Recorded s (execLdv x s) := fki_recorded _ _ _ _ _ _ _ _ _
theorem execStv_recorded (x : Fki) (s : State) :
    Recorded s (execStv x s) := fki_recorded _ _ _ _ _ _ _ _ _
theorem execLdt_recorded (x : Fki) (s : State) :
    Recorded s (execLdt x s) := fki_recorded _ _ _ _ _ _ _ _ _
theorem execStt_recorded (x : Fki) (s : State) :
    Recorded s (execStt x s) := fki_recorded _ _ _ _ _ _ _ _ _
theorem execTset_recorded (x : Fki) (s : State) :
    Recorded s (execTset x s) := fki_recorded _ _ _ _ _ _ _ _ _
theorem execVadd_recorded (x : Fki) (s : State) :
    Recorded s (execVadd x s) := vecRound2_recorded _ _ _ _
theorem execVsub_recorded (x : Fki) (s : State) :
    Recorded s (execVsub x s) := vecRound2_recorded _ _ _ _
theorem execVmul_recorded (x : Fki) (s : State) :
    Recorded s (execVmul x s) := vecRound2_recorded _ _ _ _
theorem execVfma_recorded (x : Fki) (hw : HwError) (s : State) :
    Recorded s (execVfma x hw s) := fki_recorded _ _ _ _ _ _ _ _ _
theorem execVdiv_recorded (x : Fki) (s : State) :
    Recorded s (execVdiv x s) := vecRound2_recorded _ _ _ _
theorem execVsqrt_recorded (x : Fki) (s : State) :
    Recorded s (execVsqrt x s) := vecLanes_recorded _ _ _ _ _ _
theorem execVmin_recorded (x : Fki) (s : State) :
    Recorded s (execVmin x s) := vecPlain2_recorded _ _ _ _
theorem execVmax_recorded (x : Fki) (s : State) :
    Recorded s (execVmax x s) := vecPlain2_recorded _ _ _ _
theorem execVabs_recorded (x : Fki) (s : State) :
    Recorded s (execVabs x s) := vecPlain1_recorded _ _ _ _
theorem execVneg_recorded (x : Fki) (s : State) :
    Recorded s (execVneg x s) := vecPlain1_recorded _ _ _ _
theorem execVceq_recorded (x : Fki) (s : State) :
    Recorded s (execVceq x s) := vecCompare_recorded _ _ _ _ _
theorem execVclt_recorded (x : Fki) (s : State) :
    Recorded s (execVclt x s) := vecCompare_recorded _ _ _ _ _
theorem execVcle_recorded (x : Fki) (s : State) :
    Recorded s (execVcle x s) := vecCompare_recorded _ _ _ _ _
theorem execVsel_recorded (x : Fki) (s : State) :
    Recorded s (execVsel x s) := fki_recorded _ _ _ _ _ _ _ _ _
theorem execVbcst_recorded (x : Fki) (s : State) :
    Recorded s (execVbcst x s) := fki_recorded _ _ _ _ _ _ _ _ _
theorem execVred_recorded (x : Fki) (s : State) :
    Recorded s (execVred x s) := fki_recorded _ _ _ _ _ _ _ _ _
theorem execVrcp_recorded (x : Fki) (s : State) :
    Recorded s (execVrcp x s) := vecPlain1_recorded _ _ _ _
theorem execVrsq_recorded (x : Fki) (s : State) :
    Recorded s (execVrsq x s) := vecPlain1_recorded _ _ _ _
theorem execVexp2_recorded (x : Fki) (s : State) :
    Recorded s (execVexp2 x s) := vecPlain1_recorded _ _ _ _
theorem execVlog2_recorded (x : Fki) (s : State) :
    Recorded s (execVlog2 x s) := vecPlain1_recorded _ _ _ _
theorem execVexp_recorded (x : Fki) (s : State) :
    Recorded s (execVexp x s) := vecPlain1_recorded _ _ _ _
theorem execVln_recorded (x : Fki) (s : State) :
    Recorded s (execVln x s) := vecPlain1_recorded _ _ _ _
theorem execVsin_recorded (x : Fki) (s : State) :
    Recorded s (execVsin x s) := vecPlain1_recorded _ _ _ _
theorem execVcos_recorded (x : Fki) (s : State) :
    Recorded s (execVcos x s) := vecPlain1_recorded _ _ _ _
theorem execVtanh_recorded (x : Fki) (s : State) :
    Recorded s (execVtanh x s) := vecPlain1_recorded _ _ _ _
theorem execVsigm_recorded (x : Fki) (s : State) :
    Recorded s (execVsigm x s) := vecPlain1_recorded _ _ _ _
theorem execVerf_recorded (x : Fki) (s : State) :
    Recorded s (execVerf x s) := vecPlain1_recorded _ _ _ _
theorem execVsplit_recorded (x : Fki) (s : State) :
    Recorded s (execVsplit x s) := fki_recorded _ _ _ _ _ _ _ _ _
theorem execViadd_recorded (x : Fki) (s : State) :
    Recorded s (execViadd x s) := vecPlain2_recorded _ _ _ _
theorem execVimul_recorded (x : Fki) (s : State) :
    Recorded s (execVimul x s) := vecPlain2_recorded _ _ _ _
theorem execVcvtif_recorded (x : Fki) (s : State) :
    Recorded s (execVcvtif x s) := vecLanes_recorded _ _ _ _ _ _
theorem execVcvtfi_recorded (x : Fki) (s : State) :
    Recorded s (execVcvtfi x s) := fki_recorded _ _ _ _ _ _ _ _ _
theorem execMwld_recorded (x : Fki) (s : State) :
    Recorded s (execMwld x s) := matIssue_recorded _ _ _ _ _ _ _
theorem execWeightLoadStart_recorded (core plane : Nat) (s : State) :
    Recorded s (execWeightLoadStart core plane s) := act_recorded _ _ _
theorem execWeightLoadComplete_recorded (core plane : Nat) (s : State) :
    Recorded s (execWeightLoadComplete core plane s) := act_recorded _ _ _
theorem execManc_recorded (x : Fki) (s : State) :
    Recorded s (execManc x s) := matIssue_recorded _ _ _ _ _ _ _
theorem execPrescanComplete_recorded (core : Nat) (s : State) :
    Recorded s (execPrescanComplete core s) := act_recorded _ _ _
theorem execMpass_recorded (x : Fki) (s : State) :
    Recorded s (execMpass x s) := matIssue_recorded _ _ _ _ _ _ _
theorem execMatrixPassStart_recorded (core waited : Nat) (s : State) :
    Recorded s (execMatrixPassStart core waited s) := act_recorded _ _ _
theorem execMatrixPassComplete_recorded (core frzFeed frzDrain frzBoth : Nat) (hw : HwError) (s : State) :
    Recorded s (execMatrixPassComplete core frzFeed frzDrain frzBoth hw s) := act_recorded _ _ _
theorem execMdrn_recorded (x : Fki) (s : State) :
    Recorded s (execMdrn x s) := matIssue_recorded _ _ _ _ _ _ _
theorem execMatrixDrainComplete_recorded (core : Nat) (hw : HwError) (s : State) :
    Recorded s (execMatrixDrainComplete core hw s) := act_recorded _ _ _
theorem execMmode_recorded (x : Fki) (s : State) :
    Recorded s (execMmode x s) := matIssue_recorded _ _ _ _ _ _ _
theorem execMrdmode_recorded (x : Fki) (s : State) :
    Recorded s (execMrdmode x s) := matIssue_recorded _ _ _ _ _ _ _
theorem execDmac_recorded (x : Fki) (s : State) :
    Recorded s (execDmac x s) := fkiWhen_recorded _ _ _ _ _ _ _ _ _ _
theorem execDmacComplete_recorded (core : Nat) (hw : HwError) (s : State) :
    Recorded s (execDmacComplete core hw s) := act_recorded _ _ _
theorem execPut_recorded (x : Fki) (s : State) :
    Recorded s (execPut x s) := fabInstr_recorded _ _ _ _ _
theorem execGet_recorded (x : Fki) (s : State) :
    Recorded s (execGet x s) := fabInstr_recorded _ _ _ _ _
theorem execAcc_recorded (x : Fki) (s : State) :
    Recorded s (execAcc x s) := fabInstr_recorded _ _ _ _ _
theorem execBcast_recorded (x : Fki) (s : State) :
    Recorded s (execBcast x s) := fabInstr_recorded _ _ _ _ _
theorem execSsig_recorded (x : Fki) (s : State) :
    Recorded s (execSsig x s) := fki_recorded _ _ _ _ _ _ _ _ _
theorem execSwait_recorded (x : Fki) (s : State) :
    Recorded s (execSwait x s) := fki_recorded _ _ _ _ _ _ _ _ _
theorem execSwaitTimeout_recorded (core : Nat) (s : State) :
    Recorded s (execSwaitTimeout core s) := act_recorded _ _ _
theorem execSset_recorded (x : Fki) (s : State) :
    Recorded s (execSset x s) := fki_recorded _ _ _ _ _ _ _ _ _
theorem execSrd_recorded (x : Fki) (s : State) :
    Recorded s (execSrd x s) := fki_recorded _ _ _ _ _ _ _ _ _
theorem execFence_recorded (x : Fki) (s : State) :
    Recorded s (execFence x s) := fki_recorded _ _ _ _ _ _ _ _ _
theorem execFenceComplete_recorded (core : Nat) (s : State) :
    Recorded s (execFenceComplete core s) := act_recorded _ _ _
theorem execGarv_recorded (x : Fki) (s : State) :
    Recorded s (execGarv x s) := fki_recorded _ _ _ _ _ _ _ _ _
theorem execTrd_recorded (x : Fki) (s : State) :
    Recorded s (execTrd x s) := fki_recorded _ _ _ _ _ _ _ _ _
theorem execTwait_recorded (x : Fki) (s : State) :
    Recorded s (execTwait x s) := fki_recorded _ _ _ _ _ _ _ _ _
theorem execTwaitExpire_recorded (core : Nat) (s : State) :
    Recorded s (execTwaitExpire core s) := act_recorded _ _ _
theorem execSyld_recorded (x : Fki) (s : State) :
    Recorded s (execSyld x s) := fki_recorded _ _ _ _ _ _ _ _ _
theorem execSmark_recorded (x : Fki) (s : State) :
    Recorded s (execSmark x s) := fki_recorded _ _ _ _ _ _ _ _ _
theorem execSmisr_recorded (x : Fki) (s : State) :
    Recorded s (execSmisr x s) := fki_recorded _ _ _ _ _ _ _ _ _
theorem execSrdm_recorded (x : Fki) (s : State) :
    Recorded s (execSrdm x s) := fki_recorded _ _ _ _ _ _ _ _ _
theorem execHifCexc0Write_recorded (pf core : Nat) (value : BitVec 64) (s : State) :
    Recorded s (execHifCexc0Write pf core value s) := hostWrite_recorded _ _ _ _
theorem execFrameReceive_recorded (port : Nat) (frame : Frame) (s : State) :
    Recorded s (execFrameReceive port frame s) := act_recorded _ _ _
theorem execLossOfLock_recorded (port : Nat) (s : State) :
    Recorded s (execLossOfLock port s) := act_recorded _ _ _
theorem execSerWindowEnd_recorded (port : Nat) (counts : List Nat) (s : State) :
    Recorded s (execSerWindowEnd port counts s) := act_recorded _ _ _
theorem execLaneFail_recorded (port lane : Nat) (s : State) :
    Recorded s (execLaneFail port lane s) := act_recorded _ _ _
theorem execTrainingStateComplete_recorded (port : Nat) (found : TrainResult) (s : State) :
    Recorded s (execTrainingStateComplete port found s) := act_recorded _ _ _
theorem execTrainingStateTimeout_recorded (port : Nat) (s : State) :
    Recorded s (execTrainingStateTimeout port s) := act_recorded _ _ _
theorem execTrainRetry_recorded (port : Nat) (s : State) :
    Recorded s (execTrainRetry port s) := act_recorded _ _ _
theorem execRetrain_recorded (pf port : Nat) (value : BitVec 64) (s : State) :
    Recorded s (execRetrain pf port value s) := act_recorded _ _ _
theorem execPortEnableWrite_recorded (pf port : Nat) (value : BitVec 64) (s : State) :
    Recorded s (execPortEnableWrite pf port value s) := act_recorded _ _ _
theorem execPacketTransmit_recorded (port : Nat) (s : State) :
    Recorded s (execPacketTransmit port s) := actLive_recorded _ _ _
theorem execTransitPacket_recorded (port vc : Nat) (s : State) :
    Recorded s (execTransitPacket port vc s) := actLive_recorded _ _ _
theorem execStallDrop_recorded (port vc : Nat) (s : State) :
    Recorded s (execStallDrop port vc s) := actLive_recorded _ _ _
theorem execFloodCreditTimeout_recorded (port : Nat) (s : State) :
    Recorded s (execFloodCreditTimeout port s) := actLive_recorded _ _ _
theorem execFloodSeenExpire_recorded (index : Nat) (s : State) :
    Recorded s (execFloodSeenExpire index s) := act_recorded _ _ _
theorem execPutReceive_recorded (port vc : Nat) (s : State) :
    Recorded s (execPutReceive port vc s) := actLive_recorded _ _ _
theorem execGetRequestReceive_recorded (port vc : Nat) (s : State) :
    Recorded s (execGetRequestReceive port vc s) := actLive_recorded _ _ _
theorem execGetResponseReceive_recorded (port vc : Nat) (s : State) :
    Recorded s (execGetResponseReceive port vc s) := actLive_recorded _ _ _
theorem execAccReceive_recorded (port vc : Nat) (hw : HwError) (s : State) :
    Recorded s (execAccReceive port vc hw s) := actLive_recorded _ _ _
theorem execWindowReload_recorded (nme job source : Nat) (s : State) :
    Recorded s (execWindowReload nme job source s) := actLive_recorded _ _ _
theorem execZeroChunkComplete_recorded (nme handle : Nat) (s : State) :
    Recorded s (execZeroChunkComplete nme handle s) := actLive_recorded _ _ _
theorem execMirrorReceive_recorded (port vc : Nat) (s : State) :
    Recorded s (execMirrorReceive port vc s) := actLive_recorded _ _ _
theorem execEackReceive_recorded (port vc : Nat) (s : State) :
    Recorded s (execEackReceive port vc s) := actLive_recorded _ _ _
theorem execEackCoalesceExpire_recorded (source job : Nat) (s : State) :
    Recorded s (execEackCoalesceExpire source job s) := actLive_recorded _ _ _
theorem execRetransmitTimeout_recorded (record : Nat) (s : State) :
    Recorded s (execRetransmitTimeout record s) := actLive_recorded _ _ _
theorem execFabWithdrawGo_recorded (pf : Nat) (value : BitVec 64) (s : State) :
    Recorded s (execFabWithdrawGo pf value s) := hostWrite_recorded _ _ _ _
theorem execWithdrawReceive_recorded (port vc : Nat) (s : State) :
    Recorded s (execWithdrawReceive port vc s) := actLive_recorded _ _ _
theorem execWithdrawTReached_recorded (tile : Nat) (s : State) :
    Recorded s (execWithdrawTReached tile s) := actLive_recorded _ _ _
theorem execWithdrawReset_recorded (tile : Nat) (s : State) :
    Recorded s (execWithdrawReset tile s) := actLive_recorded _ _ _
theorem execFabNodeWrite_recorded (pf : Nat) (value : BitVec 64) (s : State) :
    Recorded s (execFabNodeWrite pf value s) := hostWrite_recorded _ _ _ _
theorem execPisteWrite_recorded (pf entry : Nat) (half : Bool) (value : BitVec 64) (s : State) :
    Recorded s (execPisteWrite pf entry half value s) := hostWrite_recorded _ _ _ _
theorem execQuarantineEnd_recorded (entry : Nat) (s : State) :
    Recorded s (execQuarantineEnd entry s) := act_recorded _ _ _
theorem execSlewStep_recorded (domain : Bool) (s : State) :
    Recorded s (execSlewStep domain s) := act_recorded _ _ _
theorem execTimeSetWrite_recorded (pf : Nat) (domain : Bool) (value : BitVec 64) (s : State) :
    Recorded s (execTimeSetWrite pf domain value s) := hostWrite_recorded _ _ _ _
theorem execTimeRateWrite_recorded (pf : Nat) (domain : Bool) (value : BitVec 64) (s : State) :
    Recorded s (execTimeRateWrite pf domain value s) := hostWrite_recorded _ _ _ _
theorem execTimeSlewWrite_recorded (pf : Nat) (domain : Bool) (value : BitVec 64) (s : State) :
    Recorded s (execTimeSlewWrite pf domain value s) := hostWrite_recorded _ _ _ _
theorem execTimeCfgWrite_recorded (pf : Nat) (domain : Bool) (value : BitVec 64) (s : State) :
    Recorded s (execTimeCfgWrite pf domain value s) := hostWrite_recorded _ _ _ _
theorem execSync_recorded (port vc : Nat) (s : State) :
    Recorded s (execSync port vc s) := act_recorded _ _ _
theorem execFollowUp_recorded (port vc : Nat) (s : State) :
    Recorded s (execFollowUp port vc s) := act_recorded _ _ _
theorem execPdelayReq_recorded (port vc : Nat) (s : State) :
    Recorded s (execPdelayReq port vc s) := act_recorded _ _ _
theorem execPdelayResp_recorded (port vc : Nat) (s : State) :
    Recorded s (execPdelayResp port vc s) := act_recorded _ _ _
theorem execPdelayRespFollowUp_recorded (port vc : Nat) (s : State) :
    Recorded s (execPdelayRespFollowUp port vc s) := act_recorded _ _ _
theorem execAnnounce_recorded (port vc : Nat) (s : State) :
    Recorded s (execAnnounce port vc s) := act_recorded _ _ _
theorem execSyncSendTimer_recorded (domain : Bool) (s : State) :
    Recorded s (execSyncSendTimer domain s) := act_recorded _ _ _
theorem execPdelaySendTimer_recorded (port : Nat) (s : State) :
    Recorded s (execPdelaySendTimer port s) := act_recorded _ _ _
theorem execPdelayTimeout_recorded (port : Nat) (s : State) :
    Recorded s (execPdelayTimeout port s) := act_recorded _ _ _
theorem execFollowUpTimeout_recorded (port : Nat) (s : State) :
    Recorded s (execFollowUpTimeout port s) := act_recorded _ _ _
theorem execSyncLossTimeout_recorded (domain : Bool) (s : State) :
    Recorded s (execSyncLossTimeout domain s) := act_recorded _ _ _
theorem execSwitchSlew_recorded (pf : Nat) (s : State) :
    Recorded s (execSwitchSlew pf s) := hostWrite_recorded _ _ _ _
theorem execSwitchMeet_recorded (pf : Nat) (s : State) :
    Recorded s (execSwitchMeet pf s) := hostWrite_recorded _ _ _ _
theorem execSwitchComplete_recorded (s : State) :
    Recorded s (execSwitchComplete s) := act_recorded _ _ _
theorem execTimePacket_recorded (port vc : Nat) (s : State) :
    Recorded s (execTimePacket port vc s) := actLive_recorded _ _ _
theorem execClockRegionTransition_recorded (kind index : Nat) (change : ClockChange) (s : State) :
    Recorded s (execClockRegionTransition kind index change s) := act_recorded _ _ _
theorem execStretchTotalReport_recorded (kind index : Nat) (s : State) :
    Recorded s (execStretchTotalReport kind index s) := act_recorded _ _ _
theorem execGateLoad_recorded (pf : Nat) (value : BitVec 64) (s : State) :
    Recorded s (execGateLoad pf value s) := hostWrite_recorded _ _ _ _
theorem execGateLoadComplete_recorded (slot : Nat) (s : State) :
    Recorded s (execGateLoadComplete slot s) := actLive_recorded _ _ _
theorem execMarkerReceive_recorded (s : State) :
    Recorded s (execMarkerReceive s) := actLive_recorded _ _ _
theorem execDecisionInstant_recorded (slot index : Nat) (s : State) :
    Recorded s (execDecisionInstant slot index s) := actLive_recorded _ _ _
theorem execReleaseComplete_recorded (nme handle : Nat) (s : State) :
    Recorded s (execReleaseComplete nme handle s) := actLive_recorded _ _ _
theorem execOptimizerComplete_recorded (slot index : Nat) (s : State) :
    Recorded s (execOptimizerComplete slot index s) := actLive_recorded _ _ _
theorem execCommitTest_recorded (slot : Nat) (s : State) :
    Recorded s (execCommitTest slot s) := actLive_recorded _ _ _
theorem execHold_recorded (port vc : Nat) (s : State) :
    Recorded s (execHold port vc s) := actLive_recorded _ _ _
theorem execCommitPoint_recorded (slot : Nat) (s : State) :
    Recorded s (execCommitPoint slot s) := actLive_recorded _ _ _
theorem execResolveCommit_recorded (pf slot : Nat) (s : State) :
    Recorded s (execResolveCommit pf slot s) := hostWrite_recorded _ _ _ _
theorem execResolveSkip_recorded (pf slot : Nat) (s : State) :
    Recorded s (execResolveSkip pf slot s) := hostWrite_recorded _ _ _ _
theorem execResolveAbort_recorded (pf slot : Nat) (s : State) :
    Recorded s (execResolveAbort pf slot s) := hostWrite_recorded _ _ _ _
theorem execConversionComplete_recorded (slot : Nat) (s : State) :
    Recorded s (execConversionComplete slot s) := actLive_recorded _ _ _
theorem execBcastReceive_recorded (port vc : Nat) (s : State) :
    Recorded s (execBcastReceive port vc s) := actLive_recorded _ _ _
theorem execBack_recorded (port vc : Nat) (s : State) :
    Recorded s (execBack port vc s) := actLive_recorded _ _ _
theorem execBroadcastReceivedTimeout_recorded (tree child : Nat) (s : State) :
    Recorded s (execBroadcastReceivedTimeout tree child s) := actLive_recorded _ _ _
theorem execBroadcastDoneTimeout_recorded (tree child : Nat) (s : State) :
    Recorded s (execBroadcastDoneTimeout tree child s) := actLive_recorded _ _ _
theorem execStatclr_recorded (pf : Nat) (value : BitVec 64) (s : State) :
    Recorded s (execStatclr pf value s) := hostWrite_recorded _ _ _ _
theorem execAbortReceive_recorded (port vc : Nat) (s : State) :
    Recorded s (execAbortReceive port vc s) := actLive_recorded _ _ _
theorem execNmeRingScan_recorded (nme : Nat) (s : State) :
    Recorded s (execNmeRingScan nme s) := actLive_recorded _ _ _
theorem execArm_recorded (nme : Nat) (s : State) :
    Recorded s (execArm nme s) := ringCmd_recorded _ _ _ _
theorem execDisarm_recorded (nme : Nat) (s : State) :
    Recorded s (execDisarm nme s) := ringCmd_recorded _ _ _ _
theorem execCvtw_recorded (nme : Nat) (s : State) :
    Recorded s (execCvtw nme s) := ringCmd_recorded _ _ _ _
theorem execCkcvt_recorded (nme : Nat) (s : State) :
    Recorded s (execCkcvt nme s) := ringCmd_recorded _ _ _ _
theorem execCbwarm_recorded (nme : Nat) (s : State) :
    Recorded s (execCbwarm nme s) := ringCmd_recorded _ _ _ _
theorem execCbwend_recorded (nme : Nat) (s : State) :
    Recorded s (execCbwend nme s) := ringCmd_recorded _ _ _ _
theorem execHash_recorded (nme : Nat) (s : State) :
    Recorded s (execHash nme s) := ringCmd_recorded _ _ _ _
theorem execScrubnow_recorded (nme : Nat) (s : State) :
    Recorded s (execScrubnow nme s) := ringCmd_recorded _ _ _ _
theorem execZero_recorded (nme : Nat) (s : State) :
    Recorded s (execZero nme s) := ringCmd_recorded _ _ _ _
theorem execNmeCommandComplete_recorded (nme : Nat) (s : State) :
    Recorded s (execNmeCommandComplete nme s) := actLive_recorded _ _ _
theorem execScrubRead_recorded (nme errs : Nat) (s : State) :
    Recorded s (execScrubRead nme errs s) := actLive_recorded _ _ _
theorem execHbmTempSample_recorded (nme : Nat) (celsius : Int) (s : State) :
    Recorded s (execHbmTempSample nme celsius s) := actLive_recorded _ _ _
theorem execEcsCountRead_recorded (nme count : Nat) (s : State) :
    Recorded s (execEcsCountRead nme count s) := actLive_recorded _ _ _
theorem execNmeWspillBaseWrite_recorded (pf nme : Nat) (value : BitVec 64) (s : State) :
    Recorded s (execNmeWspillBaseWrite pf nme value s) := act_recorded _ _ _
theorem execQuickScreenTimer_recorded (phys : Nat) (s : State) :
    Recorded s (execQuickScreenTimer phys s) := actLive_recorded _ _ _
theorem execHbTimer_recorded (phys : Nat) (s : State) :
    Recorded s (execHbTimer phys s) := actLive_recorded _ _ _
theorem execSectionRunComplete_recorded (phys : Nat) (misr : BitVec 64) (s : State) :
    Recorded s (execSectionRunComplete phys misr s) := actLive_recorded _ _ _
theorem execSectionTimeout_recorded (phys : Nat) (s : State) :
    Recorded s (execSectionTimeout phys s) := actLive_recorded _ _ _
theorem execSampleReexecComplete_recorded (tile slot : Nat) (digest : BitVec 64) (s : State) :
    Recorded s (execSampleReexecComplete tile slot digest s) := actLive_recorded _ _ _
theorem execSampleTimeout_recorded (tile slot : Nat) (s : State) :
    Recorded s (execSampleTimeout tile slot s) := actLive_recorded _ _ _
theorem execTransientExpire_recorded (phys : Nat) (s : State) :
    Recorded s (execTransientExpire phys s) := actLive_recorded _ _ _
theorem execTileCorrWindowExpire_recorded (tile : Nat) (s : State) :
    Recorded s (execTileCorrWindowExpire tile s) := act_recorded _ _ _
theorem execScreen_recorded (pf : Nat) (value : BitVec 64) (s : State) :
    Recorded s (execScreen pf value s) := hostWrite_recorded _ _ _ _
theorem execModscreen_recorded (pf : Nat) (value : BitVec 64) (s : State) :
    Recorded s (execModscreen pf value s) := hostWrite_recorded _ _ _ _
theorem execRcmp_recorded (pf : Nat) (value : BitVec 64) (s : State) :
    Recorded s (execRcmp pf value s) := hostWrite_recorded _ _ _ _
theorem execGrmCmdComplete_recorded (s : State) :
    Recorded s (execGrmCmdComplete s) := actLive_recorded _ _ _
theorem execGrmProbWrite_recorded (pf : Nat) (value : BitVec 64) (s : State) :
    Recorded s (execGrmProbWrite pf value s) := hostWrite_recorded _ _ _ _
theorem execProgressWatchdog_recorded (core engine : Nat) (s : State) :
    Recorded s (execProgressWatchdog core engine s) := act_recorded _ _ _
theorem execWaitWatchdog_recorded (core : Nat) (s : State) :
    Recorded s (execWaitWatchdog core s) := act_recorded _ _ _
theorem execNmeWatchdog_recorded (nme : Nat) (s : State) :
    Recorded s (execNmeWatchdog nme s) := act_recorded _ _ _
theorem execFabricTileWatchdog_recorded (tile : Nat) (s : State) :
    Recorded s (execFabricTileWatchdog tile s) := act_recorded _ _ _
theorem execDebugPortTimeout_recorded (entry part : Nat) (s : State) :
    Recorded s (execDebugPortTimeout entry part s) := act_recorded _ _ _
theorem execCaptureComplete_recorded (entry : Nat) (s : State) :
    Recorded s (execCaptureComplete entry s) := actLive_recorded _ _ _
theorem execDrainWindowClose_recorded (entry dropped : Nat) (s : State) :
    Recorded s (execDrainWindowClose entry dropped s) := actLive_recorded _ _ _
theorem execNmeAbsorbTimeout_recorded (nme : Nat) (s : State) :
    Recorded s (execNmeAbsorbTimeout nme s) := actLive_recorded _ _ _
theorem execResetComplete_recorded (entry absorbed : Nat) (s : State) :
    Recorded s (execResetComplete entry absorbed s) := actLive_recorded _ _ _
theorem execWaitForGraphBuilt_recorded (slot : Nat) (s : State) :
    Recorded s (execWaitForGraphBuilt slot s) := act_recorded _ _ _
theorem execRstReq_recorded (pf : Nat) (value : BitVec 64) (s : State) :
    Recorded s (execRstReq pf value s) := hostWrite_recorded _ _ _ _
theorem execRstIsolWrite_recorded (pf : Nat) (value : BitVec 64) (s : State) :
    Recorded s (execRstIsolWrite pf value s) := hostWrite_recorded _ _ _ _
theorem execCkpRequestedTime_recorded (s : State) :
    Recorded s (execCkpRequestedTime s) := act_recorded _ _ _
theorem execEwMonitorEval_recorded (u : Unit) (s : State) :
    Recorded s (execEwMonitorEval u s) := act1_recorded _ _
theorem execTake_recorded (pf : Nat) (value : BitVec 64) (s : State) :
    Recorded s (execTake pf value s) := ckpCmd_recorded _ _ _ _
theorem execVerify_recorded (pf : Nat) (value : BitVec 64) (s : State) :
    Recorded s (execVerify pf value s) := ckpCmd_recorded _ _ _ _
theorem execRestore_recorded (pf : Nat) (value : BitVec 64) (s : State) :
    Recorded s (execRestore pf value s) := ckpCmd_recorded _ _ _ _
theorem execNocommon_recorded (pf : Nat) (value : BitVec 64) (s : State) :
    Recorded s (execNocommon pf value s) := ckpCmd_recorded _ _ _ _
theorem execRelease_recorded (pf : Nat) (value : BitVec 64) (s : State) :
    Recorded s (execRelease pf value s) := ckpCmd_recorded _ _ _ _
theorem execMirror_recorded (pf : Nat) (value : BitVec 64) (s : State) :
    Recorded s (execMirror pf value s) := ckpCmd_recorded _ _ _ _
theorem execCkpSweepComplete_recorded (s : State) :
    Recorded s (execCkpSweepComplete s) := act_recorded _ _ _
theorem execCkpSignComplete_recorded (s : State) :
    Recorded s (execCkpSignComplete s) := act_recorded _ _ _
theorem execHostVerifyComplete_recorded (gen : Nat) (s : State) :
    Recorded s (execHostVerifyComplete gen s) := act_recorded _ _ _
theorem execCkpCommandComplete_recorded (s : State) :
    Recorded s (execCkpCommandComplete s) := act_recorded _ _ _
theorem execManagementCycle_recorded (check : Nat) (overrun : Bool) (s : State) :
    Recorded s (execManagementCycle check overrun s) := act_recorded _ _ _
theorem execStateCopyReceive_recorded (good : Bool) (s : State) :
    Recorded s (execStateCopyReceive good s) := act_recorded _ _ _
theorem execStandbyStale_recorded (s : State) :
    Recorded s (execStandbyStale s) := act_recorded _ _ _
theorem execIskWatchdogExpire_recorded (controller : Nat) (s : State) :
    Recorded s (execIskWatchdogExpire controller s) := act_recorded _ _ _
theorem execIskSupplyLoss_recorded (controller : Nat) (s : State) :
    Recorded s (execIskSupplyLoss controller s) := act_recorded _ _ _
theorem execHeartbeatLapse_recorded (s : State) :
    Recorded s (execHeartbeatLapse s) := act_recorded _ _ _
theorem execOwnershipClaim_recorded (controller : Nat) (s : State) :
    Recorded s (execOwnershipClaim controller s) := act_recorded _ _ _
theorem execBootPreferTimeout_recorded (s : State) :
    Recorded s (execBootPreferTimeout s) := act_recorded _ _ _
theorem execDiagnosisComplete_recorded (controller : Nat) (pass : Bool) (check : Nat) (s : State) :
    Recorded s (execDiagnosisComplete controller pass check s) := act_recorded _ _ _
theorem execSensorSample_recorded (sensor : Nat) (reading : Int) (s : State) :
    Recorded s (execSensorSample sensor reading s) := act_recorded _ _ _
theorem execSensorInvalidTimeout_recorded (sensor : Nat) (s : State) :
    Recorded s (execSensorInvalidTimeout sensor s) := act_recorded _ _ _
theorem execSensorClearTimeout_recorded (sensor : Nat) (s : State) :
    Recorded s (execSensorClearTimeout sensor s) := act_recorded _ _ _
theorem execThermalClockStep_recorded (cluster : Nat) (s : State) :
    Recorded s (execThermalClockStep cluster s) := act_recorded _ _ _
theorem execThermalTrip_recorded (sensor : Nat) (s : State) :
    Recorded s (execThermalTrip sensor s) := act_recorded _ _ _
theorem execMgmtPortLinkChange_recorded (port : Nat) (up : Bool) (s : State) :
    Recorded s (execMgmtPortLinkChange port up s) := act_recorded _ _ _
theorem execImpDatagramReceive_recorded (port : Nat) (datagram : Datagram) (s : State) :
    Recorded s (execImpDatagramReceive port datagram s) := act_recorded _ _ _
theorem execInfo_recorded (src : Nat) (request : Datagram) (s : State) :
    Recorded s (execInfo src request s) := mbox_recorded _ _ _ _ _
theorem execRdreg_recorded (src : Nat) (request : Datagram) (s : State) :
    Recorded s (execRdreg src request s) := mbox_recorded _ _ _ _ _
theorem execWrreg_recorded (src : Nat) (request : Datagram) (s : State) :
    Recorded s (execWrreg src request s) := mbox_recorded _ _ _ _ _
theorem execRdrec_recorded (src : Nat) (request : Datagram) (s : State) :
    Recorded s (execRdrec src request s) := mbox_recorded _ _ _ _ _
theorem execClrrec_recorded (src : Nat) (request : Datagram) (s : State) :
    Recorded s (execClrrec src request s) := mbox_recorded _ _ _ _ _
theorem execSensors_recorded (src : Nat) (request : Datagram) (s : State) :
    Recorded s (execSensors src request s) := mbox_recorded _ _ _ _ _
theorem execFreeze_recorded (src : Nat) (request : Datagram) (s : State) :
    Recorded s (execFreeze src request s) := mbox_recorded _ _ _ _ _
theorem execSwap_recorded (src : Nat) (request : Datagram) (s : State) :
    Recorded s (execSwap src request s) := mbox_recorded _ _ _ _ _
theorem execSigned_recorded (src : Nat) (request : Datagram) (s : State) :
    Recorded s (execSigned src request s) := signedFor_recorded _ _ _ _
theorem execOwnerset_recorded (src : Nat) (request : Datagram) (s : State) :
    Recorded s (execOwnerset src request s) := signedFor_recorded _ _ _ _
theorem execOwnerdel_recorded (src : Nat) (request : Datagram) (s : State) :
    Recorded s (execOwnerdel src request s) := signedFor_recorded _ _ _ _
theorem execRevoke_recorded (src : Nat) (request : Datagram) (s : State) :
    Recorded s (execRevoke src request s) := signedFor_recorded _ _ _ _
theorem execSvncommit_recorded (src : Nat) (request : Datagram) (s : State) :
    Recorded s (execSvncommit src request s) := signedFor_recorded _ _ _ _
theorem execKeyinst_recorded (src : Nat) (request : Datagram) (s : State) :
    Recorded s (execKeyinst src request s) := signedFor_recorded _ _ _ _
theorem execKeydel_recorded (src : Nat) (request : Datagram) (s : State) :
    Recorded s (execKeydel src request s) := signedFor_recorded _ _ _ _
theorem execCoreset_recorded (src : Nat) (request : Datagram) (s : State) :
    Recorded s (execCoreset src request s) := signedFor_recorded _ _ _ _
theorem execSpdm_recorded (src : Nat) (request : Datagram) (s : State) :
    Recorded s (execSpdm src request s) := spdm_recorded _ _ _ _
theorem execGetVersion_recorded (src : Nat) (request : Datagram) (s : State) :
    Recorded s (execGetVersion src request s) := spdm_recorded _ _ _ _
theorem execGetCapabilities_recorded (src : Nat) (request : Datagram) (s : State) :
    Recorded s (execGetCapabilities src request s) := spdm_recorded _ _ _ _
theorem execNegotiateAlgorithms_recorded (src : Nat) (request : Datagram) (s : State) :
    Recorded s (execNegotiateAlgorithms src request s) := spdm_recorded _ _ _ _
theorem execGetDigests_recorded (src : Nat) (request : Datagram) (s : State) :
    Recorded s (execGetDigests src request s) := spdm_recorded _ _ _ _
theorem execGetCertificate_recorded (src : Nat) (request : Datagram) (s : State) :
    Recorded s (execGetCertificate src request s) := spdm_recorded _ _ _ _
theorem execChallenge_recorded (src : Nat) (request : Datagram) (s : State) :
    Recorded s (execChallenge src request s) := spdm_recorded _ _ _ _
theorem execGetMeasurements_recorded (src : Nat) (request : Datagram) (s : State) :
    Recorded s (execGetMeasurements src request s) := spdm_recorded _ _ _ _
theorem execGetMdSig_recorded (src : Nat) (request : Datagram) (s : State) :
    Recorded s (execGetMdSig src request s) := spdm_recorded _ _ _ _
theorem execGetMdCert_recorded (src : Nat) (request : Datagram) (s : State) :
    Recorded s (execGetMdCert src request s) := spdm_recorded _ _ _ _
theorem execSpdmUnsupportedRequest_recorded (src : Nat) (request : Datagram) (s : State) :
    Recorded s (execSpdmUnsupportedRequest src request s) := spdm_recorded _ _ _ _
theorem execFwstageBegin_recorded (src : Nat) (request : Datagram) (s : State) :
    Recorded s (execFwstageBegin src request s) := fwstage_recorded _ _ _ _ _
theorem execFwstageData_recorded (src : Nat) (request : Datagram) (s : State) :
    Recorded s (execFwstageData src request s) := fwstage_recorded _ _ _ _ _
theorem execFwstageFinish_recorded (src : Nat) (request : Datagram) (s : State) :
    Recorded s (execFwstageFinish src request s) := fwstage_recorded _ _ _ _ _
theorem execFwstageCancel_recorded (src : Nat) (request : Datagram) (s : State) :
    Recorded s (execFwstageCancel src request s) := fwstage_recorded _ _ _ _ _
theorem execNetcfg_recorded (src : Nat) (request : Datagram) (s : State) :
    Recorded s (execNetcfg src request s) := mbox_recorded _ _ _ _ _
theorem execCalioRead_recorded (src : Nat) (request : Datagram) (s : State) :
    Recorded s (execCalioRead src request s) := calio_recorded _ _ _ _ _
theorem execCalioOpen_recorded (src : Nat) (request : Datagram) (s : State) :
    Recorded s (execCalioOpen src request s) := calio_recorded _ _ _ _ _
theorem execCalioWrite_recorded (src : Nat) (request : Datagram) (s : State) :
    Recorded s (execCalioWrite src request s) := calio_recorded _ _ _ _ _
theorem execCalioCapture_recorded (src : Nat) (request : Datagram) (s : State) :
    Recorded s (execCalioCapture src request s) := calio_recorded _ _ _ _ _
theorem execCalioCommit_recorded (src : Nat) (request : Datagram) (s : State) :
    Recorded s (execCalioCommit src request s) := calio_recorded _ _ _ _ _
theorem execCalioCancel_recorded (src : Nat) (request : Datagram) (s : State) :
    Recorded s (execCalioCancel src request s) := calio_recorded _ _ _ _ _
theorem execReport_recorded (src : Nat) (request : Datagram) (s : State) :
    Recorded s (execReport src request s) := mbox_recorded _ _ _ _ _
theorem execMailboxCommandComplete_recorded (src : Nat) (s : State) :
    Recorded s (execMailboxCommandComplete src s) := act_recorded _ _ _
theorem execRecorderFreezeBegin_recorded (s : State) :
    Recorded s (execRecorderFreezeBegin s) := act_recorded _ _ _
theorem execRecorderFreezeEnd_recorded (s : State) :
    Recorded s (execRecorderFreezeEnd s) := act_recorded _ _ _
theorem execFreezeMaxExpire_recorded (s : State) :
    Recorded s (execFreezeMaxExpire s) := act_recorded _ _ _
theorem execThaw_recorded (pf : Nat) (value : BitVec 64) (s : State) :
    Recorded s (execThaw pf value s) := hostWrite_recorded _ _ _ _
theorem execFlashDrain_recorded (count : Nat) (s : State) :
    Recorded s (execFlashDrain count s) := act1_recorded _ _
theorem execCounterWrap_recorded (unit index : Nat) (s : State) :
    Recorded s (execCounterWrap unit index s) := act_recorded _ _ _
theorem execPmcCounterWrite_recorded (pf offset : Nat) (value : BitVec 64) (same : Nat) (s : State) :
    Recorded s (execPmcCounterWrite pf offset value same s) := by
  unfold execPmcCounterWrite
  split
  · exact same_recorded s
  · exact hostWrite_recorded _ _ _ _
theorem execTrcCtlWrite_recorded (pf core : Nat) (value : BitVec 64) (s : State) :
    Recorded s (execTrcCtlWrite pf core value s) := hostWrite_recorded _ _ _ _
theorem execTrcRingWrite_recorded (pf core : Nat) (base : Bool) (value : BitVec 64) (s : State) :
    Recorded s (execTrcRingWrite pf core base value s) := hostWrite_recorded _ _ _ _
theorem execTraceDrainBlock_recorded (core : Nat) (s : State) :
    Recorded s (execTraceDrainBlock core s) := act_recorded _ _ _
theorem execGstopRequestWrite_recorded (pf : Nat) (value : BitVec 64) (s : State) :
    Recorded s (execGstopRequestWrite pf value s) := hostWrite_recorded _ _ _ _
theorem execGlobalStop_recorded (s : State) :
    Recorded s (execGlobalStop s) := act_recorded _ _ _
theorem execGlobalStopCaptureComplete_recorded (s : State) :
    Recorded s (execGlobalStopCaptureComplete s) := act_recorded _ _ _
theorem execDumpComplete_recorded (slot : Nat) (s : State) :
    Recorded s (execDumpComplete slot s) := act_recorded _ _ _
theorem execLinkUp_recorded (rate width : Nat) (s : State) :
    Recorded s (execLinkUp rate width s) := act_recorded _ _ _
theorem execLinkDown_recorded (s : State) :
    Recorded s (execLinkDown s) := act_recorded _ _ _
theorem execPerstAssert_recorded (s : State) :
    Recorded s (execPerstAssert s) := act1_recorded _ _
theorem execHotReset_recorded (s : State) :
    Recorded s (execHotReset s) := act_recorded _ _ _
theorem execFunctionLevelReset_recorded (pf : Nat) (s : State) :
    Recorded s (execFunctionLevelReset pf s) := act_recorded _ _ _
theorem execRegisterWrite_recorded (pf offset bytes : Nat) (values : List (BitVec 64)) (s : State) :
    Recorded s (execRegisterWrite pf offset bytes values s) := act1_recorded _ _
theorem execHifAperWrite_recorded (pf : Nat) (value : BitVec 64) (s : State) :
    Recorded s (execHifAperWrite pf value s) := hostWrite_recorded _ _ _ _
theorem execBar2Write_recorded (pf offset : Nat) (data : List Byte) (s : State) :
    Recorded s (execBar2Write pf offset data s) := act1_recorded _ _
theorem execBar2Read_recorded (pf offset bytes : Nat) (s : State) :
    Recorded s (execBar2Read pf offset bytes s) := act1_recorded _ _
theorem execOfflineGo_recorded (pf : Nat) (value : BitVec 64) (s : State) :
    Recorded s (execOfflineGo pf value s) := hostWrite_recorded _ _ _ _
theorem execOfflinePowerRemove_recorded (s : State) :
    Recorded s (execOfflinePowerRemove s) := act_recorded _ _ _
theorem execFabricTileInternalError_recorded (tile : Nat) (s : State) :
    Recorded s (execFabricTileInternalError tile s) := act_recorded _ _ _
theorem execIllegalInstruction_recorded (core : Nat) (word : BitVec 64) (s : State) :
    Recorded s (execIllegalInstruction core word s) := by
  unfold execIllegalInstruction
  exact act_recorded _ _ _
theorem execRegisterRead_recorded (pf offset bytes : Nat) (s : State) :
    Recorded s (execRegisterRead pf offset bytes s) := act_recorded _ _ _

end Sys2Proof.Machine
end

