-- ==== Sys2Proof/Tests/Slice0.lean ====
section
/-! SUPPORT. Tests: ill-formed commands are refused by the check, each hypothesis of the statements is met by a concrete state
(theorems witness_…, named for the statement), and small runs of one command give what the spec's rule says (theorems test_…). -/

namespace Sys2Proof.Tests
open Sys2Proof Sys2Proof.Machine

set_option Elab.async false

/-- A command answers a next state that has a property. -/
def ran (c : Instr) (s : State) (p : State → Bool) : Bool :=
  match exec c s with
  | .next t => p t
  | _ => false

/-- A word of the instruction fields on core 5. -/
def word (d a b c : BitVec 5) (imm : BitVec 32) : Fki := ⟨5, d, a, b, c, imm, .none⟩

/-- The module after reset with core c in RUN as k. -/
def onCore (c : Nat) (k : Core) : State := (State.reset.setCore c k).setField (Reg.hifCstat c) 0 3 2

/-- A core at 0x1000 with s1 = 7, s2 = -2, s3 = 0x40, lanes 0 and 63 of v1 and v2, p1 of lane 63. -/
def kA : Core :=
  { Core.reset with pc := 0x1000, s := [(1, 7), (2, 0xFFFFFFFFFFFFFFFE), (3, 0x40)], p := [(1, 0x8000000000000000)],
                    v := [(64, 0x3F800000), (127, 0x40000000), (128, 0x40400000), (191, 0xC0000000)], store := [(0x41, 0xAB)] }

/-- The module with core 5 as `kA`. -/
def sA : State := onCore 5 kA

/-! ### Well-formedness (R3, R8) -/

theorem test_wellFormed_core : (Instr.add ⟨191, 0, 0, 0, 0, 0, .none⟩).wellFormed = true ∧ (Instr.add ⟨192, 0, 0, 0, 0, 0, .none⟩).wellFormed = false := by decide

theorem test_wellFormed_units :
    (Instr.nmeCommandComplete 31).wellFormed = true ∧ (Instr.nmeCommandComplete 32).wellFormed = false ∧
    (Instr.pdelayTimeout 12).wellFormed = true ∧ (Instr.pdelayTimeout 13).wellFormed = false ∧
    (Instr.sync 0 7).wellFormed = true ∧ (Instr.sync 0 8).wellFormed = false ∧
    (Instr.take 2 0).wellFormed = true ∧ (Instr.take 3 0).wellFormed = false ∧
    (Instr.hbTimer 199).wellFormed = true ∧ (Instr.hbTimer 200).wellFormed = false ∧
    (Instr.weightLoadStart 0 1).wellFormed = true ∧ (Instr.weightLoadStart 0 2).wellFormed = false ∧
    (Instr.tileCorrWindowExpire 7).wellFormed = true ∧ (Instr.tileCorrWindowExpire 8).wellFormed = false ∧
    (Instr.withdrawReset 1).wellFormed = true ∧ (Instr.withdrawReset 2).wellFormed = false ∧
    (Instr.thermalClockStep 39).wellFormed = true ∧ (Instr.thermalClockStep 40).wellFormed = false ∧
    (Instr.progressWatchdog 0 3).wellFormed = true ∧ (Instr.progressWatchdog 0 4).wellFormed = false := by decide

theorem test_wellFormed_places :
    (Instr.laneFail 0 16).wellFormed = true ∧ (Instr.laneFail 0 17).wellFormed = false ∧
    (Instr.gateLoadComplete 31).wellFormed = true ∧ (Instr.gateLoadComplete 32).wellFormed = false ∧
    (Instr.sampleTimeout 0 15).wellFormed = true ∧ (Instr.sampleTimeout 0 16).wellFormed = false ∧
    (Instr.dumpComplete 4).wellFormed = true ∧ (Instr.dumpComplete 5).wellFormed = false ∧
    (Instr.captureComplete 8).wellFormed = true ∧ (Instr.captureComplete 9).wellFormed = false ∧
    (Instr.quarantineEnd 15).wellFormed = true ∧ (Instr.quarantineEnd 16).wellFormed = false ∧
    (Instr.hostVerifyComplete 3).wellFormed = true ∧ (Instr.hostVerifyComplete 4).wellFormed = false ∧
    (Instr.sensorInvalidTimeout 127).wellFormed = true ∧ (Instr.sensorInvalidTimeout 128).wellFormed = false ∧
    (Instr.iskWatchdogExpire 1).wellFormed = true ∧ (Instr.iskWatchdogExpire 2).wellFormed = false ∧
    (Instr.mgmtPortLinkChange 1 true).wellFormed = true ∧ (Instr.mgmtPortLinkChange 2 true).wellFormed = false := by decide

theorem test_wellFormed_requests :
    (Instr.spdm 18 ⟨255, 0xFFFFFFFF, 0, 0, []⟩).wellFormed = true ∧ (Instr.spdm 19 ⟨0, 0, 0, 0, []⟩).wellFormed = false ∧
    (Instr.spdm 0 ⟨256, 0, 0, 0, []⟩).wellFormed = false ∧ (Instr.spdm 0 ⟨0, 0x100000000, 0, 0, []⟩).wellFormed = false ∧
    (Instr.frameReceive 0 ⟨true, false, 0, 0, List.replicate 10 0, 0⟩).wellFormed = true ∧
    (Instr.frameReceive 0 ⟨true, false, 0, 0, List.replicate 9 0, 0⟩).wellFormed = false := by decide

theorem test_wellFormed_payload :
    Datagram.wellFormed ⟨0, 0, 0, 0, List.replicate 4032 0⟩ = true ∧ Datagram.wellFormed ⟨0, 0, 0, 0, List.replicate 4033 0⟩ = false := by decide +kernel

/-! ### The machine and its registers -/

theorem witness_StepTakesFrontCommand : ∃ (c : Instr) (l : List Instr) (s : State), s.pending = c :: l :=
  ⟨.auxInputLoss, [.perstAssert], { State.reset with pending := [.auxInputLoss, .perstAssert] }, rfl⟩

theorem witness_EmptyQueueTicks : State.reset.pending = [] := rfl

theorem witness_NoEventLeftRaised : ∃ s t, s.recorder.raised = [] ∧ step s = .next t := ⟨State.reset, State.reset, rfl, rfl⟩

/-- A core with one register of each kind at its highest number, descriptor 15 and its anchor. -/
def kB : Core := { Core.reset with s := [(31, 5)], p := [(7, 1)], t := [(15, 9)], anchors := [(15, 3)], store := [(0x5FFFFF, 1)] }

theorem witness_CoreRegisters : Tab.wf (fun _ => (0 : Word)) kB.s = true ∧ Tab.wf (fun _ => (0 : Word)) kB.p = true ∧
    Tab.wf (fun _ => (0 : Lane32)) kB.v = true ∧ Tab.wf (fun _ => (0 : BitVec 256)) kB.t = true ∧ (31 : Nat) ≠ 0 ∧ (63 : Nat) < 64 := by
  decide

theorem witness_WindowSums : -termMax ≤ termMax ∧ (2 : Int) ^ 95 ≤ (1 : BitVec 96).toInt + termMax ∧ (0 : BitVec 96).toInt + termMax < (2 : Int) ^ 95 ∧
    (BitVec.ofInt 96 (-2)).toInt + -termMax < -(2 : Int) ^ 95 ∧ -(2 : Int) ^ 95 ≤ (BitVec.ofInt 96 (-1)).toInt + -termMax ∧
    [termMax, 5, -termMax].Perm [5, termMax, -termMax] := by decide

theorem witness_DescriptorWriteEmptiesSlot :
    Tab.wf (fun _ => (0 : BitVec 256)) kB.t = true ∧ kB.anchors.keys.Pairwise (· < ·) ∧ (15 : Nat) ≠ 14 := by decide

/-- HBM with one byte and a line of two failed symbols. -/
def sHbm : State := { State.reset with hbm := [(63, 7)], ecc := [(1, 4)] }

theorem witness_HbmLineWrite_byte :
    sHbm.hbmOk = true ∧ Tab.wf (fun _ => (0 : Nat)) sHbm.ecc = true ∧ 0 < [(5 : Byte)].length ∧ 127 % 64 + [(5 : Byte)].length ≤ 64 ∧
    sHbm.lineErrs (127 / 64) = 2 := by decide

theorem witness_HbmLineWrite_line :
    0 < (List.replicate 64 (1 : Byte)).length ∧ 64 % 64 + (List.replicate 64 (1 : Byte)).length ≤ 64 ∧
    (List.replicate 64 (1 : Byte)).length = 64 := by decide

/-! ### Scalar instructions -/

theorem witness_ScalarArithmetic :
    sA.issues 5 [4, 1, 2] [] = true ∧ (word 4 1 2 0 0).c = 0 ∧ (word 4 1 2 0 0).imm = 0 ∧
    sA.issues 5 [31, 1] [] = true ∧ (word 31 1 0 0 0x80000000).b = 0 ∧ sA.issues 5 [0] [] = true ∧ sA.issues 5 [] [] = true := by decide

theorem test_add : ran (.add (word 4 1 2 0 0)) sA (fun t => (t.core 5).sr 4 == 5 && (t.core 5).pc == 0x1008) = true := by decide
theorem test_sub : ran (.sub (word 4 2 1 0 0)) sA (fun t => (t.core 5).sr 4 == 0xFFFFFFFFFFFFFFF7) = true := by decide
theorem test_mulhu : ran (.mulhu (word 4 2 2 0 0)) sA (fun t => (t.core 5).sr 4 == 0xFFFFFFFFFFFFFFFC) = true := by decide
theorem test_sar : ran (.sar (word 4 2 1 0 0)) sA (fun t => (t.core 5).sr 4 == 0xFFFFFFFFFFFFFFFF) = true := by decide
theorem test_shl_mod64 : ran (.shl (word 4 1 3 0 0)) sA (fun t => (t.core 5).sr 4 == 7) = true := by decide
theorem test_slt : ran (.slt (word 4 2 1 0 0)) sA (fun t => (t.core 5).sr 4 == 1) = true := by decide
theorem test_sltu : ran (.sltu (word 4 2 1 0 0)) sA (fun t => (t.core 5).sr 4 == 0) = true := by decide
theorem test_lui : ran (.lui (word 4 2 0 0 0x12345678)) sA (fun t => (t.core 5).sr 4 == 0x12345678FFFFFFFE) = true := by decide
theorem test_addi_signed : ran (.addi (word 4 1 0 0 0xFFFFFFFF)) sA (fun t => (t.core 5).sr 4 == 6) = true := by decide
theorem test_ori_unsigned : ran (.ori (word 4 0 0 0 0x80000000)) sA (fun t => (t.core 5).sr 4 == 0x80000000) = true := by decide
theorem test_rsvfield : ran (.add (word 4 1 2 1 0)) sA (fun t => t.coreState 5 == 4 || (t.core 5).pc == 0x1000) = true := by decide

theorem witness_SpecialRegisters :
    sA.issues 5 [4] [] = true ∧ (word 4 0 0 0 7).a = 0 ∧ (word 4 0 0 0 7).b = 0 ∧ (word 4 0 0 0 7).c = 0 ∧ (word 4 0 0 0 7).imm.toNat = 7 ∧
    (7, BitVec.ofNat 64 (sA.core 5).pc) = (0x07, BitVec.ofNat 64 (sA.core 5).pc) ∧
    sA.issues 5 [1] [] = true ∧ (word 0 1 0 0 4).imm.toNat = 4 ∧ (word 0 1 0 0 5).imm.toNat = 5 := by decide

/-- Core 5 in a screening package. -/
def sPkg : State := onCore 5 { kA with package := true, misr := 0x8000000000000000 }

theorem witness_SpecialRegisters_misr : sPkg.issues 5 [1] [] = true ∧ (sPkg.core 5).package = true ∧ (word 0 1 0 0 16).imm.toNat = 0x10 := by
  decide

theorem test_rdsr_coordinate : ran (.rdsr (word 4 0 0 0 0)) sA (fun t => (t.core 5).sr 4 == 5) = true := by decide
theorem test_rdsr_tile : ran (.rdsr ⟨25, 4, 0, 0, 0, 0, .none⟩) (onCore 25 kA) (fun t => (t.core 25).sr 4 == 33) = true := by decide

theorem witness_Branches :
    sA.issues 5 [1, 2] [] = true ∧ (word 0 1 2 0 0xFFFFFFFF).d = 0 ∧ (word 0 1 2 0 0xFFFFFFFF).c = 0 ∧
    sA.issues 5 [] [] = true ∧ (word 0 0 0 7 1).c.toNat < 8 ∧ sA.issues 5 [4] [] = true ∧ sA.issues 5 [2] [] = true := by decide

theorem test_bltu_back : ran (.bltu (word 0 1 2 0 0xFFFFFFFF)) sA (fun t => (t.core 5).pc == 0xFF8) = true := by decide
theorem test_blt_not : ran (.blt (word 0 1 2 0 5)) sA (fun t => (t.core 5).pc == 0x1008) = true := by decide
theorem test_bpany : ran (.bpany (word 0 0 0 1 2)) sA (fun t => (t.core 5).pc == 0x1010) = true := by decide
theorem test_bpnone : ran (.bpnone (word 0 0 0 2 2)) sA (fun t => (t.core 5).pc == 0x1010) = true := by decide
theorem test_jal : ran (.jal (word 4 0 0 0 4)) sA (fun t => (t.core 5).pc == 0x1020 && (t.core 5).sr 4 == 0x1008) = true := by decide
theorem test_jr : ran (.jr (word 0 3 0 0 0)) sA (fun t => (t.core 5).pc == 0x40) = true := by decide

/-- A core whose s1 is the last aligned place of core store, for 8 and for 32 bytes. -/
def kTop (a : Nat) : Core := { Core.reset with s := [(1, BitVec.ofNat 64 a), (2, 0x1122334455667788)], t := [(15, 3)] }

theorem witness_ScalarLoadsAndStores :
    (onCore 5 (kTop 0x5FFFF8)).issues 5 [2, 1] [] = true ∧
    (((onCore 5 (kTop 0x5FFFF8)).core 5).sr 1 + (0 : BitVec 32).signExtend 64).toNat % 8 = 0 ∧
    (((onCore 5 (kTop 0x5FFFF8)).core 5).sr 1 + (0 : BitVec 32).signExtend 64).toNat + 8 ≤ 0x600000 ∧
    (onCore 5 (kTop 0x5FFFE0)).issues 5 [1] [15] = true ∧ (word 15 1 0 0 0).d.toNat < 16 ∧
    (((onCore 5 (kTop 0x5FFFE0)).core 5).sr 1 + (0 : BitVec 32).signExtend 64).toNat % 32 = 0 ∧
    (((onCore 5 (kTop 0x5FFFE0)).core 5).sr 1 + (0 : BitVec 32).signExtend 64).toNat + 32 ≤ 0x600000 ∧
    (word 15 1 0 0 9).imm.toNat ≤ 9 := by decide

theorem test_sts : ran (.sts (word 2 1 0 0 0)) (onCore 5 (kTop 0x5FFFF8)) (fun t =>
    (t.core 5).byte 0x5FFFF8 == 0x88 && (t.core 5).byte 0x5FFFFF == 0x11 && (t.core 5).pc == 8) = true := by decide
theorem test_lds : ran (.lds (word 4 3 0 0 0)) sA (fun t => (t.core 5).sr 4 == 0xAB00) = true := by decide

theorem witness_CoreStoreWriteFrame :
    Tab.wf (fun _ => (0 : Byte)) kB.store = true ∧ (0x5FFFFF < 0x5FFFF8 ∨ 0x5FFFF8 + 7 ≤ 0x5FFFFF) ∧ 6 < 7 ∧ 255 < 2 ^ (8 * 7) := by decide

/-! ### Vector instructions -/

theorem witness_PredicatedLanes : Tab.wf (fun _ => (0 : Lane32)) kA.v = true ∧ (63 : Nat) < 64 ∧ (4 : Nat) < 5 ∧ 5 ≤ (63 : Nat) := by decide

theorem witness_VectorArithmetic :
    sA.issues 5 [] [] = true ∧ (word 3 1 2 7 3).c.toNat < 8 ∧ (word 3 1 2 7 3).imm.toNat < 4 ∧ (word 3 1 2 7 0).imm = 0 ∧
    (word 3 1 0 7 3).b = 0 ∧ sA.issues 5 [1] [] = true ∧ sA.issues 5 [3] [] = true ∧ (word 30 1 0 7 0).d.toNat % 2 = 0 ∧
    (word 7 1 2 7 0).d.toNat < 8 ∧ (word 7 1 2 7 0).d ≠ 0 ∧ Tab.wf (fun _ => (0 : Word)) (sA.core 5).p = true ∧
    (VecFn.erf, Instr.verf (word 3 1 0 7 0)) ∈ [(VecFn.tanh, Instr.vtanh (word 3 1 0 7 0)), (VecFn.erf, .verf (word 3 1 0 7 0))] := by decide

theorem test_vadd_lane : fpAdd (Rounding.ofField 0) false 0x3F800000#32 0x40400000#32 = ⟨0x40800000#32, 0⟩ := by decide
theorem test_vmul_lane : fpMul (Rounding.ofField 0) false 0x40000000#32 0xC0000000#32 = ⟨0xC0800000#32, 0⟩ := by decide
theorem test_vdiv_zero : (fpDiv (Rounding.ofField 0) false 0x3F800000#32 0#32).bits = 0x7F800000#32 := by decide
theorem test_vsqrt_neg : (fpSqrt (Rounding.ofField 0) false 0xBF800000#32).bits = 0x7FC00000#32 := by decide
theorem test_vadd_predicated : ran (.vadd (word 3 1 2 1 0)) sA (fun t =>
    (t.core 5).vr 3 0 == 0 && (t.core 5).vr 3 63 == 0 && (t.core 5).pc == 0x1008) = true := by decide

/-- A descriptor of core store: base, d0, d1, stride and format. -/
def desc (base d0 d1 stride fmt : Nat) : BitVec 256 :=
  BitVec.ofNat 256 (base + d0 * 2 ^ 64 + d1 * 2 ^ 80 + stride * 2 ^ 96 + fmt * 2 ^ 128 + 2 ^ 133)

/-- A core whose t1 is one row of 64 binary32 elements at 0x40, t2 two rows of 32 bfloat16 elements, t15 a drain target. -/
def kM : Core :=
  { kA with t := [(1, desc 0x40 64 1 256 0), (2, desc 0x1000 32 2 64 1), (3, desc 0x2000 256 1 1024 0)], s := [(1, 0), (2, 5)] }

def sM : State := onCore 5 kM

theorem witness_VectorLoadsAndStores :
    sM.issues 5 [1] [1] = true ∧ (word 3 1 1 0 0xFFFF).c = 0 ∧ (word 3 1 1 0 0xFFFF).a.toNat < 16 ∧
    vecMemCheck (sM.core 5) (word 3 1 1 0 0) = none ∧ (word 3 1 1 0 0xFFFF).imm.toNat < 2 ^ 16 := by decide

theorem test_stv_bytes : ran (.stv (word 1 1 1 0 0)) sM (fun t => (t.core 5).bytes 0x40 4 == [0, 0, 0x80, 0x3F] &&
    (t.core 5).byte 0x140 == 0) = true := by decide +kernel

/-! ### The matrix engine -/

theorem witness_MatrixIssue_idle : (sM.core 5).mat.resting := by unfold Matrix.resting; decide

theorem witness_MatrixIssue :
    sM.coresOk = true ∧ sM.issues 5 [1] [2] = true ∧ mwldCheck (matOpAt (sM.core 5) (word 0 2 1 0 1) .mwld) = none ∧
    dFmt (matOpAt (sM.core 5) (word 0 2 1 0 1) .mwld).dA = some Fmt.bf16 ∧
    sM.issues 5 [] [3, 2, 2] = true ∧ scanCheck ((sM.core 5).tr 3) ((sM.core 5).tr 2) ((sM.core 5).tr 2) = none ∧
    sM.issues 5 [] [3] = true ∧ drainCheck (sM.core 5) (matOpAt (sM.core 5) (word 3 0 0 0 0x20100) .mdrn) = none ∧
    sM.issues 5 [1] [] = true ∧ sM.issues 5 [4] [] = true := by decide

/-- A core with a valid plane of bfloat16 weights and nothing in flight. -/
def kP : Core := { kM with mat := { Matrix.reset with plane0 := { Plane.empty with phase := .valid, fmt := 1, elems := [(0, 0x3F80)] } } }

/-- An MPASS of one row of t2 into entry 0, with CLR, anchored by its descriptor t3. -/
def xPass : Fki := word 3 2 1 0 0x40100

theorem witness_MatrixIssue_pass :
    (onCore 5 kP).coresOk = true ∧ ((onCore 5 kP).core 5).mat.passes = [] ∧ ((onCore 5 kP).core 5).mat.halted = false ∧
    passCheck ((onCore 5 kP).core 5) (matOpAt kP xPass .mpass) = none ∧
    passFormats (matOpAt kP xPass .mpass) (kP.mat.plane 0) = some (Fmt.bf16, Fmt.bf16) ∧
    passAnchor kP (matOpAt kP xPass .mpass) Fmt.bf16 = some 0 ∧ (kP.mat.plane 0).phase = .valid ∧ (matOpAt kP xPass .mpass).clr = true ∧
    (onCore 5 kP).issues 5 [1] [3, 2] = true ∧ xPass.imm.toNat < 2 ^ 30 ∧ kP.mat.drains = [] ∧ kP.mat.queue = [] ∧ xPass.hw = .none := by decide

/-- The same without CLR: every entry it names, all of them empty, holds its anchor. -/
theorem witness_MatrixIssue_keep :
    let o := matOpAt kP (word 3 2 1 0 0x100) .mpass
    o.kind = .mpass ∧ o.x.hw = .none ∧ o.clr = false ∧ passCheck kP o = none ∧ passFormats o (kP.mat.plane o.plane) = some (Fmt.bf16, Fmt.bf16) ∧
    passAnchor kP o Fmt.bf16 = some 0 ∧ (kP.mat.plane o.plane).phase = .valid ∧
    (∀ i, i < o.count → ∀ a, a < 4 → ∀ col, col < passCols kP.mat.mmw → (kP.mat.entry a col (o.eb + i)).tag = BitVec.ofInt 11 0) := by
  decide +kernel

/-- The same with the pass waiting in the queue. -/
def kQ : Core := { kP with mat := { kP.mat with queue := [matOpAt kP xPass .mpass] } }

theorem witness_MatrixIssue_queued : (kQ.mat.queue = [matOpAt kP xPass .mpass]) ∧ (onCore 5 kQ).matRuns 5 = true := by decide

/-- A core with a load waiting, one with a load and a pre-scan under way, and one that drains. -/
def kLoad : Core := { kM with mat := { Matrix.reset with queue := [matOpAt kM (word 0 2 1 0 1) .mwld] } }
def kBusy : Core :=
  { kM with mat := { Matrix.reset with plane1 := { Plane.empty with phase := .loading },
                                       scan := some ⟨3, desc 0x1000 32 2 64 1, desc 0x1000 32 2 64 1, 0, false, 0⟩,
                                       drains := [matOpAt kM (word 3 0 0 0 0x20100) .mdrn] } }

theorem witness_MatrixEventsAndResults :
    (onCore 5 kLoad).coresOk = true ∧ (onCore 5 kLoad).matRuns 5 = true ∧ (matOpAt kM (word 0 2 1 0 1) .mwld).plane = 1 ∧
    ((onCore 5 kLoad).core 5).mat.plane0.phase ≠ .loading ∧ mwldCheck (matOpAt kM (word 0 2 1 0 1) .mwld) = none ∧
    ((onCore 5 kBusy).core 5).mat.queue = [] ∧ (((onCore 5 kBusy).core 5).mat.plane 1).phase = .loading ∧
    ((onCore 5 kBusy).core 5).mat.scan.isSome = true ∧ ((onCore 5 kBusy).core 5).mat.drains ≠ [] ∧
    ((onCore 5 kBusy).core 5).wait ≠ .stopped ∧ ((onCore 5 kLoad).core 5).wait ≠ .stopped ∧
    (∀ i, i < 1 → ∀ a, a ∈ [0] → ∀ col, col < 64 → (kBusy.mat.entry a col (0 + i)).sound = true) ∧
    (matOpAt kM (word 3 0 0 0 0x20100) .mdrn).count = 1 ∧ (matOpAt kM (word 3 0 0 0 0x20100) .mdrn).arrays = [0] ∧
    (matOpAt kM (word 3 0 0 0 0x20100) .mdrn).eb = 0 := by decide +kernel

/-- A Schuss pass of one token in the arrays, its columns streamed. -/
def runR : PassRun :=
  ⟨matOpAt kP xPass .mpass, 0, 2 + 2 ^ 6, kP.mat.plane0, List.replicate 4 [0x3F80], List.replicate 4 [], []⟩
def kR : Core := { kP with mat := { kP.mat with passes := [runR] } }

theorem witness_MatrixEventsAndResults_pass :
    (onCore 5 kR).coresOk = true ∧ (onCore 5 kR).matRuns 5 = true ∧ ((onCore 5 kR).core 5).mat.passes = [runR] ∧
    ((onCore 5 kR).core 5).mat.queue = [] ∧ ((onCore 5 kR).core 5).wait ≠ .stopped ∧ mmwMode runR.mmw = 2 ∧ mmwSchm runR.mmw = 1 ∧
    PassRun.feed kR runR = runR ∧ runR.fed = true ∧ runR.readFault kR.mat = none := by decide +kernel

theorem witness_MatrixEventsAndResults_checks : (passResult runR).outcomes.all (fun o => o.passed) = true := by decide +kernel

/-! ### Exceptions and waits of CTL -/

/-- Core 5 RUNNING with nothing due for its physical core: the Groomer is off and no table names it. -/
theorem witness_Exceptions :
    sA.regsOk = true ∧ sA.coresOk = true ∧ sA.coreState 5 = 2 ∧ sA.issues 5 [] [] = true ∧ 0x0A ≤ (BitVec.ofNat 64 (0x3F * 2 ^ 58)).toNat / 2 ^ 58 ∧
    sA.issues 5 [4, 1, 2] [] = true ∧ (word 4 1 2 1 0).c ≠ 0 ∧
    sA.issues 5 [4, 1] [] = true ∧ ((sA.core 5).sr 1 + (word 4 1 0 0 0).imm.signExtend 64).toNat % 8 ≠ 0 ∧
    0x600000 < ((sA.core 5).sr 3 + (word 4 3 0 0 0x600000).imm.signExtend 64).toNat + 8 ∧
    8 ≤ (word 4 0 0 0 255).imm.toNat ∧ (word 4 0 0 0 255).imm.toNat < 256 ∧ (word 0 1 0 0 7).imm.toNat ∈ [0, 1, 2, 3, 6, 7] ∧
    (sA.core 5).package = false ∧ sA.nowOf true + 2 ^ 36 < ((sA.core 5).sr 2).toNat ∧ (word 4 2 0 0 1).imm.toNat < 2 := by decide

/-- The same instruction, reported an uncorrectable fetch, an operand of bad parity and a failing residue. -/
def xBad (h : HwError) : Fki := { word 4 1 2 0 0 with hw := h }

theorem witness_Exceptions_hardware :
    sA.issues (xBad (.fetch 1)).core [(xBad (.fetch 1)).d.toNat, 1, 2] [] = true ∧ (xBad (.fetch 1)).hw = .fetch 1 ∧
    (xBad (.parity 0x40)).hw = .parity 0x40 ∧ (xBad (.residue 1 2 63)).hw = .residue 1 2 63 := by decide

theorem witness_Exceptions_quiet : groomerQuiet sA 5 := by
  intro p h
  have h5 : sA.physOf 5 = some 5 := by decide
  rw [h5] at h; cases h; decide

theorem test_illegalInstruction : ran (.illegalInstruction 5 0xFC00000000000000) sA (fun t =>
    t.coreState 5 == 3 && t.field (Reg.hifCexc0 5) 0 10 == 1 && t.flag (Reg.hifCexc0 5) 10 && t.field (Reg.hifCexc0 5) 16 48 == 0x1000) = true := by
  decide
theorem test_lds_misaligned : ran (.lds (word 4 1 0 0 0)) sA (fun t => t.field (Reg.hifCexc0 5) 0 10 == 7) = true := by decide

/-- Core 5 STOPPED by an exception, with the registers in service. -/
def sExc : State :=
  let s := (onCore 5 kA).setField (Reg.hifCstat 5) 0 3 3
  { s.setField (Reg.hifCexc0 5) 0 12 0xC01 with host := { s.host with bs1Done := true } }

theorem witness_Exceptions_clear :
    sExc.regsOk = true ∧ (191 : Nat) < 192 ∧ sExc.host.bs1Done = true ∧ (0xC00 : Word).toNat.testBit 10 = true ∧
    sExc.flag (Reg.hifCexc0 5) 10 = true ∧ sExc.coreState 5 = 3 := by decide

theorem witness_Exceptions_clearQuiet : groomerQuiet sExc 5 := by
  intro p h
  have h5 : sExc.physOf 5 = some 5 := by decide
  rw [h5] at h; cases h; decide

theorem test_hifCexc0Write : ran (.hifCexc0Write 0 5 0xC00) sExc (fun t => t.coreState 5 == 0 && t.field (Reg.hifCexc0 5) 0 12 == 1) = true := by
  decide

/-- Core 5 with s1 = 7, s4 = 100, and semaphore 255 of the core at 10, device semaphore 4095 at 9. -/
def sSem : State := { onCore 5 { kA with s := [(1, 7), (4, 100), (6, 0xFFFFFFF6)], sems := [(255, 10)] } with devSems := [(4095, 9)] }

theorem witness_SemaphoresAndWaits :
    sSem.coresOk = true ∧ (word 0 1 0 0 255).imm.toNat < 256 ∧ sSem.waiters 5 255 = [] ∧ sSem.issues 5 [1] [] = true ∧
    sSem.sem 5 255 + ((sSem.core 5).sr 1).toNat < 2 ^ 32 ∧ sSem.issues 5 [6] [] = true ∧ sSem.issues 5 [6, 1, 4] [] = true ∧
    0 < ((sSem.core 5).sr 1).toNat ∧ ((sSem.core 5).sr 1).toNat ≤ sSem.sem 5 255 ∧ 0 < ((sSem.core 5).sr 4).toNat ∧
    ((sSem.core 5).sr 4).toNat < 2 ^ 40 ∧ sSem.sem 5 255 < ((sSem.core 5).sr 4).toNat := by decide

theorem witness_SemaphoresAndWaits_device :
    4096 ≤ (word 0 1 0 0 8191).imm.toNat ∧ (word 0 1 0 0 8191).imm.toNat < 8192 ∧ sSem.waiters 5 8191 = [] := by decide +kernel

theorem test_ssig : ran (.ssig (word 0 1 0 0 8191)) sSem (fun t => t.sem 5 8191 == 16) = true := by decide +kernel
theorem test_ssig_overflow : ran (.ssig (word 0 6 0 0 255)) sSem (fun t => t.sem 5 255 == 0xFFFFFFFF && t.field (Reg.hifCexc0 5) 0 10 == 9) = true := by
  decide
theorem test_swait : ran (.swait (word 6 1 4 0 255)) sSem (fun t => t.sem 5 255 == 3 && (t.core 5).sr 6 == 0 && (t.core 5).pc == 0x1008) = true := by
  decide

/-- Core 5 in each wait, its limit, work or target reached, its clock running. -/
def ticking (s : State) : State := s.setRegion 1 5 { Region.off with running := true }
def sWaitSem : State := ticking (onCore 5 { kA with wait := .sem (word 6 1 4 0 3) 3 9 0 0 0 })
def sWaitFence : State := onCore 5 { kA with wait := .fence (word 0 0 0 0 31) 0 0 }
def sWaitTime : State := ticking (onCore 5 { kA with wait := .time (word 6 1 0 0 1) true 0 })

theorem witness_SemaphoresAndWaits_end :
    sWaitSem.coreHalted 5 = false ∧ 0 + 0 ≤ sWaitSem.nowA ∧ sWaitSem.sem 5 3 < 9 ∧ (word 6 1 4 0 3).imm.toNat < 2 ^ 31 ∧
    sWaitFence.coreHalted 5 = false ∧ (sWaitFence.core 5).fenceClear 31 = true ∧ sWaitTime.coreHalted 5 = false ∧
    0 ≤ sWaitTime.nowOf true ∧ (sWaitSem.region 1 5).running = true ∧ (sWaitTime.region 1 5).running = true := by decide

/-- Core 5 in a screening package with a region open, time at 5. -/
def sCtl : State := let s := onCore 5 { kA with package := true, region := some 3 }; { s with time := { s.time with count := 5 } }

theorem witness_ControlInstructions :
    sCtl.coresOk = true ∧ sCtl.issues 5 [] [] = true ∧ (word 0 0 0 0 31).imm.toNat < 32 ∧ (sCtl.core 5).package = true ∧
    (word 0 0 0 0 0x70000).imm.toNat % 2 ^ 16 < 2 ∧ ((word 0 0 0 0 0x70000).imm.toNat % 2 = 1) = ((sCtl.core 5).region = none) ∧
    ((word 0 0 0 0 0x70001).imm.toNat % 2 = 1) = ((sA.core 5).region = none) ∧
    sCtl.issues 5 [4] [] = true ∧ sCtl.issues 5 [4, 1] [] = true ∧ sCtl.nowOf false < ((sCtl.core 5).sr 1).toNat ∧
    ((sCtl.core 5).sr 1).toNat ≤ sCtl.nowOf false + 2 ^ 36 ∧ ((sCtl.core 5).sr 0).toNat ≤ sCtl.nowOf false ∧
    sCtl.issues 5 [1] [] = true := by
  simp only [show (sCtl.core 5).region = some 3 from by decide, show (sA.core 5).region = none from by decide]; decide

theorem witness_ControlInstructions_due : ∀ p, sA.physOf 5 = some p → sA.due p = 0 := by
  intro p h
  have h5 : sA.physOf 5 = some 5 := by decide
  rw [h5] at h; cases h; decide

theorem test_smisr : ran (.smisr (word 0 1 0 0 0)) sPkg (fun t => (t.core 5).misr == 0x1C) = true := by decide

/-! ### DMA and fabric instructions -/

/-- Core 5 with 64 bytes of core store described by t1 and t3, 64 bytes of HBM by t2, s2 = 5. -/
def kF : Core :=
  { kA with t := [(1, desc 0x40 16 1 64 0), (2, BitVec.ofNat 256 (0x1000 + 16 * 2 ^ 64 + 2 ^ 80 + 64 * 2 ^ 96)), (3, desc 0x80 16 1 64 0), (4, desc 0x100 16 1 256 13)],
            s := [(2, 5), (4, 0x30002)] }

/-- The module with job 7 of epoch 2 in a piste entry that is ACTIVE, and its node number latched. -/
def live (s : State) : State :=
  { s.setReg (Reg.fabPisteA 0) (1 + 7 * 8 + 2 * 2 ^ 15) with fab := { s.fab with latch := some ⟨5, 8, 8, 8⟩ } }

def sF : State := live (onCore 5 kF)

theorem witness_FabricInstructions :
    (0, Instr.put (word 2 1 2 0 0x1FF)) ∈ [(0, Instr.put (word 2 1 2 0 0x1FF)), (1, .get (word 1 2 2 0 0x1FF))] ∧ sF.coresOk = true ∧ sF.fab.recs = [] ∧
    (sF.core 5).fab = [] ∧ (sF.core 5).outstanding < 64 ∧ (sF.core 5).runs.all (fun r => r.failed.isNone) = true ∧ sF.issues 5 [2] [2, 1] = true ∧ (word 2 1 2 0 0x1FF).imm.toNat < 2 ^ 9 ∧
    ((sF.core 5).sr 2).toNat < 2 ^ 15 ∧
    sF.fabCheck ((sF.core 5).dmaOp (word 2 1 2 0 0x1FF) 0) = none ∧ dSpace ((sF.core 5).dmaOp (word 2 1 2 0 0x1FF) 0).dA = 1 ∧
    sF.fabCheck ((sF.core 5).dmaOp (word 1 2 2 0 0x1FF) 1) = none ∧ dSpace ((sF.core 5).dmaOp (word 1 2 2 0 0x1FF) 1).dD = 1 ∧
    sF.fabCheck ((sF.core 5).dmaOp (word 0 4 4 0 0x1FF) 2) = none ∧ dSpace ((sF.core 5).dmaOp (word 0 4 4 0 0x1FF) 2).dA = 1 := by decide

/-- A broadcast of the module's own, on tree 5, with no parents or children yet. -/
def ownBcast (tree : Nat) : Bcast :=
  { job := 7, epoch := 2, stepl := 0, gateb := false, tree := tree, root := 5, tag := 0, npkt := 1, slot := none, got := 0, arrived := true,
    parents := [], children := [], orphans := [], ovf := false, isRoot := true, ranges := [], round := 0, handled := [], ended := false,
    owner := some (5, 0) }

/-- The module with that broadcast under way, and an earlier ACC of core 5 to node 2 and handle 3 unacknowledged. -/
def kHeld : Core :=
  { kF with runs := [⟨kF.dmaOp (word 0 4 4 0 0) 2, 1, some (2, 3), false, none, none, none⟩], nextOp := 1 }
def sHeld : State := let s := live (onCore 5 kHeld); { s with gate := { s.gate with bcasts := [ownBcast 5] } }

theorem witness_FabricInstructions_wait :
    sHeld.coresOk = true ∧ sHeld.fab.recs = [] ∧ sHeld.issues 5 [2] [2, 1] = true ∧ (sHeld.core 5).fab.length < 16 ∧
    ((sHeld.core 5).sr 2).toNat < 2 ^ 12 ∧ (sHeld.core 5).fab.head? = none ∧ sHeld.treeBusy ((sHeld.core 5).dmaOp (word 2 1 2 0 0) 3) = true ∧
    sHeld.issues 5 [4] [] = true ∧ (word 0 0 4 0 0x10002).imm.toNat < 2 ^ 17 ∧ (word 0 0 4 0 0x10002).imm.toNat / 4 % 64 = 0 ∧
    (word 0 0 4 0 0x10002).imm.toNat % 4 ≠ 3 ∧ ((sHeld.core 5).sr 4).toNat < 2 ^ 32 ∧
    (sHeld.core 5).garvHeld ((sHeld.core 5).dmaOp (word 0 0 4 0 0x10002) 5) (2, 3) = true ∧
    (((sHeld.core 5).dmaOp (word 0 0 4 0 0x10002) 5).sB.toNat % 2 ^ 15,
      ((sHeld.core 5).dmaOp (word 0 0 4 0 0x10002) 5).sB.toNat / 2 ^ 16 % 2 ^ 16) = (2, 3) ∧
    sHeld.issues 5 [] [3, 1] = true ∧ sHeld.dmacCheck ((sHeld.core 5).dmaOp (word 3 1 0 0 0) 0) = none := by decide

/-- Core 5 with a DMAC from 0x40 to 0x80 at the head of its queue. -/
def sDma : State := onCore 5 { kF with dma := [kF.dmaOp (word 3 1 0 0 0) 0] }

theorem witness_DmaCopiesCoreStore :
    sDma.coresOk = true ∧ sDma.coreHalted 5 = false ∧ sDma.coreState 5 ≠ 4 ∧ (sDma.core 5).dma = [kF.dmaOp (word 3 1 0 0 0) 0] ∧
    dFmt (kF.dmaOp (word 3 1 0 0 0) 0).dA = some Fmt.fp32 ∧ dSegs (kF.dmaOp (word 3 1 0 0 0) 0).dA Fmt.fp32 = [(0x40, 64)] ∧
    dSegs (kF.dmaOp (word 3 1 0 0 0) 0).dD Fmt.fp32 = [(0x80, 64)] ∧ dSpace (kF.dmaOp (word 3 1 0 0 0) 0).dA = 1 ∧
    dSpace (kF.dmaOp (word 3 1 0 0 0) 0).dD = 1 ∧ (kF.dmaOp (word 3 1 0 0 0) 0).x.imm.toNat < 256 ∧ (sDma.core 5).wait ≠ .stopped ∧
    (sDma.core 5).mat.passes = [] := by decide

theorem test_dmacComplete : ran (.dmacComplete 5 .none) sDma (fun t => (t.core 5).byte 0x81 == 0xAB && (t.core 5).dma == []) = true := by decide

/-! ### Power, bring-up and the dispatcher -/

/-- The module with both inputs present, registers in service, powered, bring-up complete. -/
def sOn : State :=
  { State.reset with host := { State.reset.host with auxIn := true, mainIn := true, powered := true, bs1Done := true, bs5Done := true,
                                                     bs8Done := true } }

/-- Bring-up in a stage. -/
def sStage (k : Nat) : State := { sOn with host := { sOn.host with running := true, stage := k, powered := false, bs5Done := false, bs8Done := false } }

theorem witness_PowerOnAndInputs :
    State.reset.regsOk = true ∧ State.reset.host.auxIn = false ∧ 0x3A00000 < 0x3C00000 ∧ flashMask Reg.hifBs = 0 ∧
    bookKey Reg.hifBs = false ∧ Reg.hifBs ∉ [Reg.recNonce, Reg.secNonce, Reg.iskStat] ∧
    sOn.regsOk = true ∧ sOn.host.powered = true ∧ sOn.host.auxIn = true ∧
    (sStage 2).host.running = true ∧ (sStage 2).host.stage = 2 ∧ (sStage 2).host.waiting = false ∧
    (sStage 2).flag (Reg.iskSens 0) 32 = false := by decide

/-- BS2 waiting for its input. -/
def sWaiting : State := { sStage 2 with host := { (sStage 2).host with waiting := true, mainIn := false } }

theorem witness_PowerOnAndInputs_waiting :
    sWaiting.regsOk = true ∧ sWaiting.host.running = true ∧ sWaiting.host.stage = 2 ∧ sWaiting.host.waiting = true ∧
    sWaiting.flag (Reg.iskSens 0) 32 = false := by decide

theorem witness_BringupStages :
    (sStage 9).regsOk = true ∧ (sStage 9).host.running = true ∧ (sStage 9).host.waiting = false ∧ (sStage 9).host.stage = 9 ∧ 9 < 10 ∧
    0x2501 ∈ stageCodes 5 (sStage 5).host.warm ∧ 0x2000 ≤ 0x2501 ∧ (sStage 2).inputOut = false ∧
    (∀ i, i < 32 → ((sStage 5).nme i).waiting = []) := by decide

/-- BS3 one tick past its limit. -/
def sLate : State :=
  let s := sStage 3
  { s with time := { s.time with count := stageLimit 3 false * 1000000 + 1 } }

theorem witness_BringupStages_late :
    sLate.regsOk = true ∧ sLate.host.running = true ∧ sLate.host.waiting = false ∧ sLate.host.stage = 3 ∧
    sLate.host.stageStart + stageLimit 3 sLate.host.warm * 1000000 < sLate.time.count := by decide

/-- The module with a launch of job 7, epoch 2, step 9 onto cores 0 and 191 found at entry 0, to start at 0. -/
def foundA : Found :=
  { index := 0, job := 7, epoch := 2, step := 9, ftz := false, start := 0, image := 0x1000, cores := 1 + 2 ^ 191, arg := 77, grec := 0,
    doneSem := 0, doneEn := false, late := false }
def sFound : State := let s := live sOn; { s with disp := { s.disp with found := [foundA] } }

/-- Also the witness of CoreRegisters' launch. -/
theorem witness_Dispatcher :
    sFound.regsOk = true ∧ sFound.coresOk = true ∧ sFound.stops 0 = false ∧ sFound.disp.found.find? (fun g => g.index == 0) = some foundA ∧
    foundA.late = false ∧ sFound.stops foundA.job = false ∧ foundA.start ≤ sFound.nowA ∧ sFound.launchLive foundA = 0 ∧
    sFound.launchable foundA = true ∧ foundA.list = [0, 191] := by decide +kernel

theorem witness_Dispatcher_runs : ∀ c, c ∈ foundA.list → ∀ p, sFound.physOf c = some p → Tab.find sFound.grm.runs p = none := by
  intro c _ p _; rfl

theorem test_launch : ran (.launch 0) sFound (fun t => t.coreState 191 == 2 && (t.core 191).sr 2 == 191 && (t.core 191).pc == 0x1000 &&
    t.disp.found == []) = true := by decide +kernel

/-- A table of one entry at 0, holding nothing. -/
def sTable : State := sOn.setReg Reg.hifSubCtl (1 + 2 ^ 16)

theorem witness_Dispatcher_scan :
    sTable.regsOk = true ∧ sTable.stops 0 = false ∧ sTable.host.bs8Done = true ∧ sTable.tableEntries Reg.hifSubCtl = 1 ∧
    sTable.disp.lastScan ≠ sTable.scanTick ∧ sTable.disp.found = [] ∧ sTable.backed (sTable.subAddr 0) 128 = true ∧
    (sTable.memRead (sTable.subAddr 0) 128).2.1 = none ∧ (sTable.memRead (sTable.subAddr 0) 128).2.2 = sTable := by decide +kernel

/-- The same with an entry that software has entered: job 7 on core 191. -/
def entryBytes : List Byte :=
  toBytes 8 1 ++ toBytes 8 (7 + 2 * 4096) ++ toBytes 8 9 ++ toBytes 8 0 ++ toBytes 8 0x1000 ++ toBytes 8 8 ++ toBytes 24 (2 ^ 191) ++
    toBytes 8 77 ++ List.replicate 48 0
def sEntered : State := live (sTable.memWrite 0 entryBytes)

theorem witness_Dispatcher_entered :
    sEntered.regsOk = true ∧ sEntered.disp.found = [] ∧ (sEntered.memRead (sEntered.subAddr 0) 128).1 = entryBytes ∧
    (sEntered.memRead (sEntered.subAddr 0) 128).2.1 = none ∧ (sEntered.memRead (sEntered.subAddr 0) 128).2.2 = sEntered ∧
    bits (wordAt entryBytes 0) 0 4 = 1 ∧ sEntered.launchErr (Found.ofBytes 0 sEntered.nowA entryBytes) entryBytes = 0 ∧
    (Found.ofBytes 0 sEntered.nowA entryBytes).late = false ∧ (Found.ofBytes 0 sEntered.nowA entryBytes).list = [191] := by decide +kernel

/-- Core 5 at its END. -/
def sEnded : State := onCore 5 { kA with wait := .ended }

theorem witness_Dispatcher_end :
    sEnded.regsOk = true ∧ sEnded.coresOk = true ∧ sEnded.coreState 5 = 2 ∧ (sEnded.core 5).wait = .ended ∧ (sEnded.core 5).package = false ∧
    sEnded.coreHalted 5 = false ∧ sEnded.coreQuiet 5 = true ∧ (sEnded.core 5).ctx.doneEn = false := by decide

theorem witness_Dispatcher_quiet : groomerQuiet sEnded 5 := by
  intro p h
  have h5 : sEnded.physOf 5 = some 5 := by decide
  rw [h5] at h; cases h; decide

/-! ### Links and packets -/

/-- The module with job 7 of epoch 2 live and a port in a link state. -/
def linked (p lts : Nat) : State := (live sOn).setField (Reg.fabPortStat p) 0 4 lts

/-- A packet from node 6 to node 5 (or to another), of job 7 and epoch 2, sealed with its checks. -/
def pk (dst type : Nat) (fs : List (Nat × Nat × Nat)) (payload : List Flit) : Packet :=
  (Packet.make ([(0, 15, dst), (16, 15, 6), (32, 12, 7), (44, 8, 2), (71, 4, type)] ++ fs) payload).finish

/-- A filler slot. -/
def filler : Flit := (Packet.make [(71, 4, 15)] []).seal.header

/-- A codeword of FSEQ 1 with a header alone and nine fillers. -/
def frameA (decodes : Bool) : Frame :=
  let sl := (pk 5 tyCtrl [(216, 8, 1), (68, 3, 1)] []).header :: List.replicate 9 filler
  ⟨decodes, false, 1, BitVec.ofNat 12 (frameCrc 1 sl), sl, 0⟩

def sRx : State := (linked 3 7).modPort 3 (fun x => { x with rxNext := 1 })

theorem frameCrc_bound (n : Nat) (sl : List Flit) : frameCrc n sl < 4096 := by
  unfold frameCrc crc12
  have h : ∀ (l : List Bool) (c : Nat), c < 4096 → l.foldl (crcStepMsb 12 0x80F) c < 4096 := by
    intro l
    induction l with
    | nil => intro c h; exact h
    | cons b l ih =>
      intro c hc
      refine ih _ ?_
      show (if (bit c 11 != b) = true then (c <<< 1 % 2 ^ 12) ^^^ 0x80F else c <<< 1 % 2 ^ 12) < 4096
      split
      · exact Nat.xor_lt_two_pow (n := 12) (by omega) (by omega)
      · omega
  exact h _ 0 (by decide)

/-- The frame as its slots alone. -/
def slotsA : List Flit := (pk 5 tyCtrl [(216, 8, 1), (68, 3, 1)] []).header :: List.replicate 9 filler

theorem witness_Links_frame_slots : ∀ h rest, slotsA = h :: rest → headerOk h = true ∧ bits h.toNat 208 5 = 0 ∧
    bits h.toNat 71 4 ≠ 15 ∧ (∀ g, g ∈ rest → headerOk g = true ∧ bits g.toNat 71 4 = 15) := by
  intro h rest e
  unfold slotsA at e
  rw [List.cons.injEq] at e
  obtain ⟨e1, e2⟩ := e
  subst e1; subst e2
  refine ⟨by decide +kernel, by decide +kernel, by decide +kernel, fun g hg => ?_⟩
  rw [(List.mem_replicate.mp hg).2]
  exact ⟨by decide +kernel, by decide +kernel⟩

theorem witness_Links_frame :
    sRx.regsOk = true ∧ sRx.portsOk = true ∧ sRx.lts 3 = 7 ∧ (sRx.port 3).swapAt = none ∧ (frameA false).decodes = false ∧
    (frameA true).fcrc.toNat = frameCrc (frameA true).fseq.toNat (frameA true).slots ∧ (frameA true).fseq.toNat = (sRx.port 3).rxNext ∧
    (frameA true).slots = slotsA ∧ sRx.closed (3 / 6) = false ∧ (sRx.port 3).part = none ∧ (sRx.port 3).skip = 0 := by
  refine ⟨by decide, by decide, by decide, by decide, rfl, ?_, by decide, rfl, by decide, by decide, by decide⟩
  show (BitVec.ofNat 12 (frameCrc 1 slotsA)).toNat = frameCrc 1 slotsA
  rw [BitVec.toNat_ofNat]
  exact Nat.mod_eq_of_lt (frameCrc_bound _ _)

/-- A port UP with its shadow lane 0, and one whose spare lane is taken. -/
def sUp : State := linked 11 7
def sTaken : State := sUp.setField (Reg.fabPortStat 11) 8 1 1

theorem witness_Links_lanes :
    sUp.regsOk = true ∧ sUp.portsOk = true ∧ sUp.portUp 11 = true ∧ sUp.flag (Reg.fabPortLane 11) (17 + 15) = false ∧
    sTaken.portUp 11 = true ∧ sTaken.spareFree 11 = false ∧ sUp.spareFree 11 = true ∧ sUp.field (Reg.fabPortStat 11) 4 4 = 0 ∧
    sUp.field (Reg.fabPortStat 11) 4 4 ≠ 15 ∧ sUp.flag (Reg.fabPortLane 11) 33 = false ∧ sUp.flag (Reg.fabPortStat 11) 8 = false ∧
    (sUp.port 11).failing = none ∧ (∀ l, l < 17 → l < [1, 2, 3].length → ([1, 2, 3][l]?).getD 0 < sUp.field (Reg.fabPortCtl 11) 8 12) ∧
    sUp.overSerth 11 (4095 :: List.replicate 16 0) = [0] ∧ sUp.flag (Reg.fabPortLane 11) (17 + 0) = false := by decide

/-- A port that trains, its tile up and its PORTCTL enabled. -/
def sTrain (n : Nat) : State := (((linked 7 n).setField Reg.fabNode 15 1 1).setField Reg.fabStat 1 1 1).setField (Reg.fabPortCtl 7) 0 1 1
def later (n : Nat) (s : State) : State := { s with time := { s.time with count := n } }
def sRetry : State := later 100000000 ((sTrain 0).modPort 7 (fun x => { x with retry := true }))

theorem witness_Links_training :
    (sTrain 1).regsOk = true ∧ (sTrain 1).portsOk = true ∧ (sTrain 1).recLive = [] ∧ (sTrain 1).flag (Reg.fabPortCtl 7) 0 = true ∧
    (sTrain 1).tileUp (7 / 6) = true ∧ (sTrain 3).lts 7 = 3 ∧ ¬ popCount 17 ((sTrain 1).trained 7 0x1FFFE) < 16 ∧
    popCount 17 ((sTrain 1).trained 7 0x1FFF8) < 16 ∧ (sTrain 4).lts 7 = 4 ∧ (sTrain 4).identityReady = true ∧
    (sTrain 5).lts 7 = 5 ∧ (sTrain 6).lts 7 = 6 ∧ sRetry.lts 7 = 0 ∧ (sRetry.port 7).retry = true ∧ (sTrain 8).lts 7 = 8 ∧
    (sRetry.port 7).since + 100000000 ≤ sRetry.time.count ∧ ((sTrain 8).port 7).hidden = 0 ∧
    (∀ n, n < 9 → n ≠ 7 → (sTrain n).flag Reg.fabStat (4 + 7) = (sTrain n).portUp 7) ∧
    (∀ n, n < 7 → ((sTrain n).port 7).since + (sTrain n).trainLimit 7 n < (later 250000001 (sTrain n)).time.count) ∧
    (sTrain 1).writeRefusal 0 (Reg.fabPortCtl 7) = none ∧ (3 : Word).toNat % 4 = 3 ∧ (0 : Word).toNat % 4 = 0 := by decide

theorem test_partnerOk : (sTrain 4).partnerOk 7 ((sTrain 4).own.neighbour 1) 6 = true ∧ (sTrain 4).own.neighbour 1 = 4 := by decide

/-- A port with one packet in its buffer of a VC. -/
def holding (s : State) (p vc : Nat) (q : Packet) : State :=
  s.modPort p (fun x => { x with rx := x.rx.modify vc (fun _ => [⟨q, 0, 0⟩]) })

/-- A packet of job 7 from port 3 on its way to node 7 by port 0 with credits there. -/
def pkOn : Packet := pk 7 tyPut [] []
def sSwitch : State :=
  (holding ((linked 0 7).modPort 0 (fun x => { x with credits := List.replicate 8 64 })) 3 0 pkOn)
def sSend : State := (linked 0 7).modPort 0 (fun x => { x with outq := [⟨pkOn, none⟩] })

theorem witness_PacketSwitching :
    sSend.regsOk = true ∧ sSend.portsOk = true ∧ sSend.stops 0 = false ∧ sSend.maySend 0 = true ∧ sSend.fab.waiting = [] ∧
    (sSend.port 0).linkq = [] ∧ (sSend.port 0).floods = [] ∧ (sSend.port 0).pick = some (pkOn, { sSend.port 0 with outq := [], respTurn := true }) ∧ pkOn.type ≠ tyCtrl ∧
    (sSend.port 0).room (framesFor pkOn) = true := by decide +kernel

theorem witness_PacketSwitching_transit :
    sSwitch.regsOk = true ∧ sSwitch.portsOk = true ∧ sSwitch.head 3 0 = some ⟨pkOn, 0, 0⟩ ∧ sSwitch.inTransit 3 pkOn = true ∧
    (match sSwitch.hop pkOn 3 with | .out o _ => o | _ => 99) = 0 ∧
    (match (holding (linked 0 7) 3 0 pkOn).hop pkOn 3 with | .wait => true | _ => false) = true ∧
    (match sSwitch.hop (pk 9 tyPut [] []) 3 with | .drop _ => true | _ => false) = true ∧
    sSwitch.inTransit 3 (pk 9 tyPut [] []) = true ∧
    sSwitch.inTransit 3 (pk 5 8 [] []) = false ∧ Packet.homeless (pk 5 8 [] []) = true ∧ sSwitch.crosses 3 pkOn = false := by decide +kernel

/-- The same where the port that leads on is the other tile's: the bridge has room, and has none. -/
def sCross (full : Bool) : State :=
  let s := holding ((linked 6 7).modPort 6 (fun x => { x with credits := List.replicate 8 64 })) 3 0 pkOn
  if full then s.modPort 13 (fun x => { x with rx := x.rx.modify 0 (fun _ => List.replicate 512 ⟨pkOn, 0, 0⟩) }) else s
/-- A packet of a reserved TYPE that is flooded, not met before and met before. -/
def pkStray : Packet := pk 5 8 [(89, 1, 1)] []
def sStray (met : Bool) : State :=
  let s := holding (linked 0 7) 3 0 pkStray
  if met then { s with fab := { s.fab with flood := [⟨Packet.floodKey pkStray, 0⟩] } } else s

theorem witness_PacketSwitching_bridge :
    (∀ b, (sCross b).regsOk = true ∧ (sCross b).portsOk = true ∧ (sCross b).head 3 0 = some ⟨pkOn, 0, 0⟩ ∧ (sCross b).inTransit 3 pkOn = true ∧
      (sCross b).crosses 3 pkOn = true ∧ ((sCross b).port (13 + tileOf 3)).hasRoom pkOn = !b) ∧
    (∀ b, (sStray b).head 3 0 = some ⟨pkStray, 0, 0⟩ ∧ (sStray b).inTransit 3 pkStray = false ∧ Packet.homeless pkStray = true ∧
      pkStray.flood = 1 ∧ (((sStray b).popHead 3 0).floodSeen (Packet.floodKey pkStray)).1 = !b) := by decide +kernel

/-- Packets and flood copies that wait, and a flood-seen entry made at 0. -/
def sHold : State :=
  let s := (linked 0 7).modPort 0 (fun x => { x with floods := [(pkOn, 0)] })
  { s with fab := { s.fab with waiting := [⟨pkOn, 12, 0⟩], flood := [⟨1, 0⟩] }, time := { s.time with count := 200000 } }

theorem witness_PacketSwitching_timers :
    sHold.regsOk = true ∧ sHold.portsOk = true ∧ sHold.fab.waiting = [⟨pkOn, 12, 0⟩] ∧ (sHold.port 0).floods = [(pkOn, 0)] ∧
    0 + sHold.stallLimit ≤ sHold.time.count ∧ sHold.credit 0 pkOn.vc < flitsIn pkOn ∧ 0 + 1000 ≤ sHold.time.count ∧
    (((later 200000 (holding (linked 0 7) 3 0 pkOn)).port 3).headAt[0]?).getD 0 + (linked 0 7).stallLimit ≤ 200000 ∧
    sHold.fab.flood[0]? = some ⟨1, 0⟩ ∧ 0 + 200000 ≤ sHold.time.count := by decide +kernel

/-! ### The end-to-end layer, withdrawal and the piste table -/

/-- One byte of CRC-32C. -/
def crcByte (c : Nat) (b : Byte) : Nat := (List.range 8).foldl (fun c i => crcStepLsb 0x82F63B78 c (b.getLsbD i)) c

/-- A packet without the fields its CRC leaves out. -/
def clearedHeader (p : Packet) : Flit :=
  ([(68, 3), (76, 1), (77, 3), (80, 6), (86, 2), (90, 2), (256, 32), (496, 16)].foldl (fun (q : Packet) f => q.setField f.1 f.2 0) p).header

/-- The CRC of a packet from that of its header flit. -/
theorem crc_of (p : Packet) (n m c : Nat) (h1 : (flitBytes (clearedHeader p)).foldl crcByte 0xFFFFFFFF = n)
    (h2 : p.bytes.foldl crcByte n = m) (h3 : m ^^^ 0xFFFFFFFF = c) : p.crc = c := by
  have h : p.crc = ((flitBytes (clearedHeader p) ++ p.bytes).foldl crcByte 0xFFFFFFFF) ^^^ 0xFFFFFFFF := rfl
  rw [h, List.foldl_append, h1, h2, h3]

/-- What makes a packet of a job pass the checks of arrival. -/
theorem arrivalCheck_passes (s : State) (p : Packet) (c : Nat) (h4 : p.crc = c)
    (h : (p.typeOk = true ∧ p.job ≠ 0) ∧ s.jobLive p.job p.epoch = true ∧ p.field 256 32 = c) : s.arrivalCheck p = none := by
  obtain ⟨⟨h1, h2⟩, h3, h5⟩ := h
  unfold State.arrivalCheck
  have h6 : (s.pisteActive p.job).isNone = false := by
    unfold State.jobLive at h3
    cases h : s.pisteActive p.job with
    | none => simp [h] at h3
    | some e => rfl
  simp only [h1, h2, h3, h4, h5, h6]
  simp

/-- A packet from node 6 to node 5, of job 7 and epoch 2, with its CRC. -/
def pkc (type crc : Nat) (fs : List (Nat × Nat × Nat)) (payload : List Flit) : Packet :=
  Packet.make ([(0, 15, 5), (16, 15, 6), (32, 12, 7), (44, 8, 2), (71, 4, type), (256, 32, crc)] ++ fs) payload

/-- The packet arrives in VC 0 of port 0. -/
theorem arrives_of (s : State) (p : Packet) (c : Nat) (h4 : p.crc = c)
    (h : ((p.typeOk = true ∧ p.job ≠ 0) ∧ s.jobLive p.job p.epoch = true ∧ p.field 256 32 = c) ∧
      s.head 0 0 = some ⟨p, 0, 0⟩ ∧ s.isHome 0 p = true ∧ p.linkLocal = false ∧ s.stops 0 = false) : arrives s 0 0 ⟨p, 0, 0⟩ :=
  ⟨h.2.1, h.2.2.1, h.2.2.2.1, arrivalCheck_passes s p c h4 h.1, h.1.2.1, h.2.2.2.2⟩

/-- The module with an NME running, and a packet to a packet's place. -/
def nmeOn (s : State) (i : Nat) (m : Nme) : State :=
  (s.setNme i { m with running := true }).setRegion 3 i { Region.off with running := true }
def pkPut : Packet := pkc tyPut 3664251566 [(96, 32, 3), (160, 48, 0x1000)] [1]
def sPut (m : Nme) : State := let s := live sOn; holding (nmeOn s (s.nmeAt 0x1000) m) 0 0 pkPut

/-- A window of job 7 and node 6 whose highest sequence is 3, and one of nothing. -/
def winA : Window := { job := 7, source := 6, hi := some 3, map := 1 }
def winB : Window := { job := 7, source := 6, hi := none, map := 0 }
/-- A mirror of node 6 into hosted generation 2, whose areas begin at 2^30 and which is WRITING. -/
def pkMirror : Packet := pkc tyMirror 2143680266 [(96, 32, 3), (160, 48, 2 ^ 30 + 128), (68, 3, 0)] [1]
def sMirror : State :=
  let s := ((live sOn).setReg Reg.ckpMirin (2 ^ 15 + 6 + 2 ^ 30 * 2 ^ 16)).setField Reg.ckpArea 39 25 1
  let s := s.setField (Reg.ckpGenA 2) 0 3 5
  holding (nmeOn s (s.nmeAt (2 ^ 30 + 128)) Nme.reset) 0 0 pkMirror

/-- A handle of 100 lanes on NME 0, its partial area zeroed. -/
def hdl (stage : Nat) (opten : Bool) : Handle :=
  { handle := 32, stage := stage, holdown := false, nexten := false, opten := opten, aval := 0, nbase := 0, ncnt := 1, lanes := 100,
    poff := 0x10000, hoff := 0x800000, nnode := 6, nhandle := 4, nstage := 2, optd := 0x2000, step := 9, job := 7, epoch := 2 }
def armedA (zeroed : Nat) (ph : ReleasePhase) : Armed :=
  { desc := hdl 1 false, zeroed := zeroed, phase := ph, ownHeld := false, ownAdded := false, bkHeld := false, upAdded := false,
    ownNf := false, ownOv := false, upset := .none }
/-- One lane at 0 of handle 32, and a marker of stage 1. -/
def accLanes : Nat := 32 + 2 ^ 48 + 5 * 2 ^ 128
def accMarker : Nat := 32 + 2 ^ 55 + 2 ^ 67
def pkAcc : Packet := pkc tyAcc 3225594223 [(96, 32, 3), (52, 16, 9)] [BitVec.ofNat 512 accLanes]
def pkMark : Packet := pkc tyAcc 1111469888 [(96, 32, 3), (52, 16, 9)] [BitVec.ofNat 512 accMarker]
def sAcc (p : Packet) : State := holding (nmeOn (live sOn) 0 { Nme.reset with armed := [armedA 1 .unreleased] }) 0 0 p

/-- GET of 128 bytes at 0x1000 and its response, of tag 11. -/
def pkGet : Packet := pkc tyGet 3542150044 [(224, 16, 11), (160, 48, 0x1000), (288, 11, 128)] []
def pkGot : Packet := pkc tyGet 4173337180 [(75, 1, 1), (68, 3, 1), (224, 16, 11)] [2]
def pkBcast : Packet := pkc tyBcast 3347344603 [(96, 32, 3), (160, 48, 0x1000), (224, 16, 9), (288 + 12, 15, 6), (288 + 27, 1, 1)] [3]
theorem pkPut_crc : Packet.crc pkPut = 3664251566 := crc_of _ 196423719 630715729 3664251566 (by decide +kernel) (by decide +kernel) (by decide)
theorem pkMirror_crc : Packet.crc pkMirror = 2143680266 := crc_of _ 1364604901 2151287029 2143680266 (by decide +kernel) (by decide +kernel) (by decide)
theorem pkAcc_crc : Packet.crc pkAcc = 3225594223 := crc_of _ 370380162 1069373072 3225594223 (by decide +kernel) (by decide +kernel) (by decide)
theorem pkMark_crc : Packet.crc pkMark = 1111469888 := crc_of _ 370380162 3183497407 1111469888 (by decide +kernel) (by decide +kernel) (by decide)
theorem pkGet_crc : Packet.crc pkGet = 3542150044 := crc_of _ 752817251 752817251 3542150044 (by decide +kernel) (by decide +kernel) (by decide)
theorem pkGot_crc : Packet.crc pkGot = 4173337180 := crc_of _ 2223484348 121630115 4173337180 (by decide +kernel) (by decide +kernel) (by decide)
theorem pkBcast_crc : Packet.crc pkBcast = 3347344603 := crc_of _ 1314109437 947622692 3347344603 (by decide +kernel) (by decide +kernel) (by decide)

/-- The PUT where its window has nothing, and where it has it already. -/
def sPutNew : State := sPut Nme.reset
def sPutDup : State := sPut { Nme.reset with windows := [winA] }

theorem witness_PacketsAndWindows_put :
    let s := sPutNew
    arrives s 0 0 ⟨pkPut, 0, 0⟩ ∧ s.regsOk = true ∧ s.portsOk = true ∧ s.nmesOk = true ∧ s.fab.recs = [] ∧ s.field Reg.fabE2e 16 8 ≠ 0 ∧ s.fab.acks = [] ∧
    s.backed pkPut.addr (64 * pkPut.len) = true ∧ (s.nme (s.nmeAt pkPut.addr)).running = true ∧
    s.findWindow (s.nmeAt pkPut.addr) pkPut.job pkPut.src = .here winB ∧ 0 < pkPut.len ∧
    ((s.nme (s.nmeAt pkPut.addr)).windows.filter (fun v => !v.is pkPut.job pkPut.src)).length < 64 ∧
    pkPut.type = tyPut ∧ pkPut.rsp = 0 ∧ pkPut.ext 0 1 = 0 ∧ winB.step pkPut.seq = .new := by
  refine ⟨arrives_of _ _ _ pkPut_crc (by decide +kernel), ?_⟩
  decide +kernel

theorem witness_PacketsAndWindows_duplicate :
    let s := sPutDup
    arrives s 0 0 ⟨pkPut, 0, 0⟩ ∧ s.regsOk = true ∧ s.portsOk = true ∧ s.nmesOk = true ∧
    s.findWindow (s.nmeAt pkPut.addr) pkPut.job pkPut.src = .here winA ∧
    ((s.nme (s.nmeAt pkPut.addr)).windows.filter (fun v => !v.is pkPut.job pkPut.src)).length < 64 ∧ winA.step pkPut.seq = .dup ∧
    (s.nme (s.nmeAt pkPut.addr)).waiting = [] := by
  refine ⟨arrives_of _ _ _ pkPut_crc (by decide +kernel), ?_⟩
  decide +kernel

theorem witness_PacketsAndWindows_mirror :
    let s := sMirror
    arrives s 0 0 ⟨pkMirror, 0, 0⟩ ∧ s.regsOk = true ∧ s.portsOk = true ∧ s.nmesOk = true ∧ s.fab.recs = [] ∧ s.field Reg.fabE2e 16 8 ≠ 0 ∧
    s.fab.acks = [] ∧ s.backed pkMirror.addr (64 * pkMirror.len) = true ∧ (s.nme (s.nmeAt pkMirror.addr)).running = true ∧
    s.findWindow (s.nmeAt pkMirror.addr) pkMirror.job pkMirror.src = .here winB ∧
    ((s.nme (s.nmeAt pkMirror.addr)).windows.filter (fun v => !v.is pkMirror.job pkMirror.src)).length < 64 ∧ winB.step pkMirror.seq = .new ∧
    pkMirror.type = tyMirror ∧ s.mirrorAccepts pkMirror = true ∧ s.hostedAt pkMirror.addr = some 2 ∧ s.isOpen pkMirror 2 = false ∧
    s.isSeal pkMirror 2 = false := by
  refine ⟨arrives_of _ _ _ pkMirror_crc (by decide +kernel), ?_⟩
  decide +kernel

theorem witness_PacketsAndWindows_acc :
    let s := sAcc pkAcc
    let h := AccHead.ofNat (Packet.payloadNat pkAcc)
    let area := (armedA 1 .unreleased).target false h
    arrives s 0 0 ⟨pkAcc, 0, 0⟩ ∧ s.regsOk = true ∧ s.portsOk = true ∧ s.nmesOk = true ∧ s.fab.recs = [] ∧ s.fab.acks = [] ∧
    pkAcc.type = tyAcc ∧ s.accNme h = 0 ∧ (s.nme 0).running = true ∧ s.findWindow 0 pkAcc.job pkAcc.src = .here winB ∧
    ((s.nme 0).windows.filter (fun v => !v.is pkAcc.job pkAcc.src)).length < 64 ∧ winB.step pkAcc.seq = .new ∧ s.accCheck 0 pkAcc h = none ∧ h.isMarker = false ∧ (s.nme 0).find h.handle = some (armedA 1 .unreleased) ∧
    (s.nme 0).waiting = [] ∧ (pkAcc.src == s.own.node) = false ∧
    (armedA 1 .unreleased).ready ((armedA 1 .unreleased).desc.chunkOf h.loff) area = true ∧
    (s.addLanes 0 (armedA 1 .unreleased).desc area
      ((List.range h.nlanes).map (fun k => (h.loff + k, accLane (Packet.payloadNat pkAcc) k)))).1 = none := by
  refine ⟨arrives_of _ _ _ pkAcc_crc (by decide +kernel), ?_⟩
  decide +kernel

theorem witness_PacketsAndWindows_marker :
    let s := sAcc pkMark
    let h := AccHead.ofNat (Packet.payloadNat pkMark)
    arrives s 0 0 ⟨pkMark, 0, 0⟩ ∧ s.accNme h = 0 ∧ s.findWindow 0 pkMark.job pkMark.src = .here winB ∧ winB.step pkMark.seq = .new ∧
    s.accCheck 0 pkMark h = none ∧ h.isMarker = true ∧ (s.nme 0).find h.handle = some (armedA 1 .unreleased) := by
  refine ⟨arrives_of _ _ _ pkMark_crc (by decide +kernel), ?_⟩
  decide +kernel

/-- NME 31 with a spilled window and a handle whose first chunk is not zeroed. -/
def sZero : State := nmeOn (live sOn) 31 { Nme.reset with spilled := [winA], armed := [armedA 0 .unreleased] }

theorem witness_PacketsAndWindows_spilled :
    sZero.regsOk = true ∧ sZero.nmesOk = true ∧ sZero.stops 0 = false ∧ sZero.fab.recs = [] ∧ (sZero.nme 31).waiting = [] ∧
    (sZero.nme 31).running = true ∧ (sZero.nme 31).spilled.find? (fun w => w.is 7 6) = some winA ∧
    sZero.spillIn 31 winA = (winA, sZero) ∧ sZero.spillAddr 31 9 6 = none ∧
    (sZero.nme 31).find 32 = some (armedA 0 .unreleased) ∧ (armedA 0 .unreleased).zeroed < (armedA 0 .unreleased).desc.toZero := by decide +kernel

/-- A GET of core 5 that awaits two packets, to node 6 with tag 11, into core store. -/
def getRec : E2e :=
  { id := 4, type := tyGet, dst := 6, job := 7, epoch := 2, stepl := 9, seq := 0, addr := 0x1000, ext := 64, tag := 11, len := 0,
    source := { pre := [], core := some 5, segs := [(0x40, 64)] }, dest := none, owner := .core 5 0, sends := 1, sentAt := 0 }
def getRun : FabRun := ⟨kF.dmaOp (word 1 2 2 0 0) 1, 2, none, false, none, none, none⟩
def sGet (p : Packet) : State :=
  let s := live (onCore 5 { kF with runs := [getRun], nextOp := 1 })
  holding { s with fab := { s.fab with recs := [getRec] } } 0 0 p

theorem witness_GetsAndAcknowledgements_get :
    arrives (sGet pkGet) 0 0 ⟨pkGet, 0, 0⟩ ∧ pkGet.type = tyGet ∧ pkGet.rsp = 0 ∧ (sGet pkGet).backed pkGet.addr (pkGet.ext 0 11) = true ∧
    arrives (sGet pkGot) 0 0 ⟨pkGot, 0, 0⟩ ∧ (sGet pkGot).coresOk = true ∧ pkGot.type = tyGet ∧ pkGot.rsp = 1 ∧ pkGot.ext 0 4 = 0 ∧
    (sGet pkGot).getRecord pkGot = some getRec ∧ pkGot.len = getRec.ext / 64 ∧ ((sGet pkGot).core 5).runOf 0 = some getRun ∧
    1 < getRun.left ∧ ((sGet pkGot).core 5).fab = [] ∧ getRun.failed = none ∧ ((sGet pkGot).core 5).wait ≠ .stopped := by
  refine ⟨arrives_of _ _ _ pkGet_crc (by decide +kernel), ?_, ?_, ?_, arrives_of _ _ _ pkGot_crc (by decide +kernel), ?_⟩ <;> decide +kernel

/-- An ACC of core 5 to node 6 with sequence 40 that awaits two packets, its EACK, and records that time out. -/
def accRec (owner : E2eOwner) (sends : Nat) : E2e :=
  { id := 4, type := tyAcc, dst := 6, job := 7, epoch := 2, stepl := 9, seq := 40, addr := 0, ext := 0, tag := 0, len := 0,
    source := { pre := [], core := none, segs := [] }, dest := none, owner := owner, sends := sends, sentAt := 0 }
def pkEack : Packet := pkc tyCtrl 2914031674 [(216, 8, 1), (68, 3, 1), (288, 32, 40), (288 + 32, 32, 1)] []
def sEack : State :=
  let s := live (onCore 5 { kF with runs := [getRun], nextOp := 1 })
  holding { s with fab := { s.fab with recs := [accRec (.core 5 0) 1] } } 0 0 pkEack
theorem pkEack_crc : Packet.crc pkEack = 2914031674 := by decide +kernel

theorem witness_GetsAndAcknowledgements_eack :
    arrives sEack 0 0 ⟨pkEack, 0, 0⟩ ∧ sEack.regsOk = true ∧ sEack.stops 0 = false ∧ sEack.coresOk = true ∧ pkEack.type = tyCtrl ∧
    pkEack.sub = 1 ∧ Packet.acked pkEack = [(40, 0)] ∧ sEack.eackGhost pkEack = false ∧
    sEack.ackedRecord pkEack 40 = some (accRec (.core 5 0) 1) ∧ (sEack.core 5).runOf 0 = some getRun ∧ 1 < getRun.left ∧
    (sEack.core 5).fab = [] ∧ getRun.failed = none ∧ (sEack.core 5).wait ≠ .stopped ∧ (∀ e, e ∈ sEack.fab.recs → 0 < e.sends) := by
  refine ⟨arrives_of _ _ _ pkEack_crc (by decide +kernel), ?_⟩
  decide +kernel

/-- A map kept since 0, and records sent once and RMAX times, all past their limits. -/
def mapA : AckMap := ⟨6, 7, 2, 3, 1, [], 0⟩
def sLimits (sends : Nat) : State :=
  let s := live sOn
  { s with fab := { s.fab with acks := [mapA], recs := [accRec .none sends] }, time := { s.time with count := 10 ^ 9 } }

theorem witness_GetsAndAcknowledgements_limits :
    (sLimits 1).regsOk = true ∧ (sLimits 1).stops 0 = false ∧ (∀ e, e ∈ (sLimits 1).fab.recs → 0 < e.sends) ∧
    (sLimits 1).fab.acks.find? (fun q => q.source == mapA.source && q.job == mapA.job) = some mapA ∧
    mapA.since + 8 * (sLimits 1).field Reg.fabE2e 16 8 ≤ (sLimits 1).time.count ∧
    (sLimits 1).fab.recs.find? (fun q => q.id == (accRec .none 1).id) = some (accRec .none 1) ∧
    (accRec .none 1).sentAt + (sLimits 1).rto ≤ (sLimits 1).time.count ∧ (accRec .none 1).sends < (sLimits 1).rmax (accRec .none 1) ∧
    (sLimits 1).readSource (accRec .none 1).source (accRec .none 1).len = ([], none, sLimits 1) ∧ (accRec .none 1).coreOf = none ∧
    (sLimits 15).rmax (accRec .none 15) ≤ (accRec .none 15).sends := by decide

/-- Both tiles up; a withdrawal of tile 1 whose T has come; a notice of a neighbour; ring sizes of eight. -/
def sTiles : State := (live sOn).setField Reg.fabStat 0 2 3
def sLeaving : State := later 1 (sTiles.setField Reg.fabStat 3 1 1)
def pkNotice : Packet := pkc tyCtrl 0 [(216, 8, 3), (68, 3, 6), (288, 64, 77)] []
def sDim : State := (live sOn).setReg Reg.fabDim (8 + 8 * 2 ^ 8 + 8 * 2 ^ 16)

theorem witness_WithdrawalAndIdentity :
    sTiles.regsOk = true ∧ sTiles.portsOk = true ∧ sTiles.writeRefusal 1 Reg.fabWithdraw = none ∧ (3 : Word).toNat % 4 = 2 + 1 ∧
    sTiles.flag Reg.fabStat 2 = false ∧ sTiles.flag Reg.fabStat 3 = false ∧ sTiles.tileUp 0 = true ∧ sTiles.tileUp 1 = true ∧
    (holding sTiles 11 6 pkNotice).head 11 6 = some ⟨pkNotice, 0, 0⟩ ∧ pkNotice.linkLocal = true ∧ pkNotice.sub = 3 ∧
    sLeaving.flag Reg.fabStat (2 + 1) = true ∧ Tab.get sLeaving.fab.wdT 0 1 < sLeaving.nowA ∧
    sDim.writeRefusal 1 Reg.fabNode = none ∧ (0x8005 : Word).toNat.testBit 15 = true ∧
    NodeLatch.valid ⟨(0x8005 : Word).toNat % 2 ^ 15, sDim.field Reg.fabDim 0 6, sDim.field Reg.fabDim 8 6, sDim.field Reg.fabDim 16 6⟩ = true := by
  decide +kernel

/-- The piste table with entry 15 in TEARDOWN for job 7, and in QUARANTINE with QEND reached. -/
def sTear : State := sOn.setReg (Reg.fabPisteA 15) (3 + 7 * 8 + 2 * 2 ^ 15)
def sQuar : State := sOn.setReg (Reg.fabPisteA 15) (5 + 7 * 8 + 2 * 2 ^ 15)

theorem witness_PisteTable :
    sTear.regsOk = true ∧ sTear.writeRefusal 1 (Reg.fabPisteA 15) = none ∧ sTear.pisteBad 15 (BitVec.ofNat 64 7).toNat = true ∧
    sOn.pisteBad 15 (1 + 7 * 8) = false ∧ sOn.flag (Reg.fabPisteA 15) 0 = false ∧ (1 + 7 * 8) % 8 = 1 ∧
    sTear.pisteBad 15 (5 + 7 * 8) = false ∧ sTear.field (Reg.fabPisteA 15) 0 3 = 3 ∧ (5 + 7 * 8) % 8 = 5 ∧
    sTear.field (Reg.fabPisteA 15) 3 12 = (5 + 7 * 8) / 8 % 4096 ∧ sQuar.field (Reg.fabPisteA 15) 0 3 = 5 ∧
    sQuar.reg (Reg.fabPisteB 15) ≤ sQuar.nowA := by decide

/-! ### Broadcasts and the Step Gate -/

/-- The module with core 5 as `kF`, job 7 running there, tree 5 of job 7, on a ring of eight nodes. -/
def sTree : State :=
  let s := live (onCore 5 { kF with ctx := { LaunchCtx.none with job := 7, epoch := 2 } })
  s.memWrite (s.treeAddr 5) (toBytes 8 (1 + 7 * 2))

theorem witness_Broadcasts :
    sTree.coresOk = true ∧ sTree.fab.recs = [] ∧ (sTree.core 5).fab = [] ∧ (sTree.core 5).runs.all (fun r => r.failed.isNone) = true ∧ (sTree.core 5).outstanding < 64 ∧
    sTree.issues 5 [2] [2, 1] = true ∧ (word 2 1 2 0 0x1FF).c = 0 ∧ (word 2 1 2 0 0x1FF).imm.toNat < 2 ^ 9 ∧
    ((sTree.core 5).sr 2).toNat < 2 ^ 12 ∧ sTree.treeBusy ((sTree.core 5).dmaOp (word 2 1 2 0 0x1FF) 3) = false ∧
    dFmt ((sTree.core 5).dmaOp (word 2 1 2 0 0x1FF) 3).dA = some Fmt.fp32 ∧
    sTree.bcastCheck ((sTree.core 5).dmaOp (word 2 1 2 0 0x1FF) 3)
      (sTree.treeEntry ((sTree.core 5).dmaOp (word 2 1 2 0 0x1FF) 3).sB.toNat).1 (sTree.core 5).ctx.job = none ∧
    dSpace ((sTree.core 5).dmaOp (word 2 1 2 0 0x1FF) 3).dA = 1 ∧ sTree.own.children sTree.own.node sTree.own.node ≠ [] := by
  decide +kernel

/-- The Gate with slot k of job 7, epoch 2, step 9 in a state, as x. -/
def gateOn (s : State) (k st : Nat) (x : Slot) : State :=
  ((s.setReg (Reg.gateSlot k) (st + 7 * 2 ^ 4 + 2 * 2 ^ 16)).setReg (Reg.gateSlotStep k) 9).setSlot k { x with addr := 0x100000 }

/-- A leaf's broadcast of slot 3 from root 6, its bit map at 0x200000 with eight bytes a root. -/
def leafB : Bcast :=
  { ownBcast 9 with gateb := true, root := 6, tag := 9, npkt := 5, slot := some 3, arrived := false, isRoot := false, owner := none,
                    parents := [⟨6, false, false⟩] }
def sLeaf (seen : Nat) : State :=
  let s := gateOn (live sOn) 3 5 { Slot.empty with bmap := 0x200000, bmstr := 8 }
  let s := s.memWrite (0x200000 + 48) [BitVec.ofNat 8 seen]
  holding { s with gate := { s.gate with bcasts := [leafB] } } 0 0 pkBcast

theorem witness_Broadcasts_packet :
    let s := sLeaf 0
    let a := (s.slot 3).bmap + pkBcast.ext 12 15 * (s.slot 3).bmstr + pkBcast.seq / 8
    let m := s.memRead a 1
    arrives s 0 0 ⟨pkBcast, 0, 0⟩ ∧ s.regsOk = true ∧ s.stops 0 = false ∧ s.fab.recs = [] ∧ s.gate.bcasts[0]? = some leafB ∧
    pkBcast.type = tyBcast ∧ pkBcast.ext 27 1 = 1 ∧ s.bcastSlot pkBcast = some 3 ∧
    s.gate.bcasts.findIdx? (fun b => b.slot == some 3 && b.root == pkBcast.ext 12 15) = some 0 ∧ pkBcast.seq < 8 * (s.slot 3).bmstr ∧
    leafB.children = [] ∧ leafB.arrived = false ∧ leafB.isRoot = false ∧ leafB.parents.any (fun q => q.node == pkBcast.src) = true ∧
    bit (ofBytes m.1) (pkBcast.seq % 8) = false ∧ m.2.2.backed pkBcast.addr (64 * pkBcast.len) = true ∧ leafB.got + 1 ≠ leafB.npkt ∧
    bit (ofBytes ((sLeaf 8).memRead a 1).1) (pkBcast.seq % 8) = true := by
  refine ⟨arrives_of _ _ _ pkBcast_crc (by decide +kernel), ?_⟩
  decide +kernel

/-- A root's broadcast of slot 3 with children 6 and 4, and a DONE of node 6. -/
def rootB (fourDone : Bool) : Bcast :=
  { ownBcast 9 with gateb := true, tag := 9, slot := some 3, owner := none,
                    children := [⟨6, false, false, false, 0⟩, ⟨4, false, fourDone, false, 0⟩] }
def pkBack : Packet := pkc tyCtrl 951157797 [(216, 8, 4), (68, 3, 1), (224, 16, 9), (288, 15, 5), (288 + 15, 1, 1), (288 + 64, 1, 1)] []
theorem pkBack_crc : Packet.crc pkBack = 951157797 := by decide +kernel
def sRoot (fourDone : Bool) : State :=
  let s := gateOn (live sOn) 3 4 Slot.empty
  holding { s with gate := { s.gate with bcasts := [rootB fourDone] }, time := { s.time with count := 10 ^ 12 } } 0 0 pkBack

theorem witness_Broadcasts_back :
    arrives (sRoot false) 0 0 ⟨pkBack, 0, 0⟩ ∧ (sRoot false).gate.bcasts[0]? = some (rootB false) ∧ (rootB false).isRoot = true ∧
    pkBack.type = tyCtrl ∧ pkBack.sub = 4 ∧ (sRoot false).backFor pkBack = some 0 ∧ pkBack.ext 15 1 = 1 ∧ pkBack.ext 16 2 = 0 ∧
    pkBack.ext 63 1 = 0 ∧ ((rootB false).heard pkBack.src (sRoot false).time.count true [] false).settled = false ∧
    arrives (sRoot true) 0 0 ⟨pkBack, 0, 0⟩ ∧ ((rootB true).heard pkBack.src (sRoot true).time.count true [] false).settled = true ∧
    (sRoot true).backFor pkBack = some 0 ∧
    (rootB true).orphans = [] ∧ (rootB true).ovf = false ∧ (rootB true).slot = some 3 ∧ (sRoot true).slotState 3 = 4 ∧
    ((rootB false).fail 6).settled = false ∧ (sRoot false).childLate 0 6 false (sRoot false).bto = true := by
  refine ⟨arrives_of _ _ _ pkBack_crc (by decide +kernel), ?_, ?_, ?_, ?_, ?_, ?_, ?_, ?_, ?_, arrives_of _ _ _ pkBack_crc (by decide +kernel), ?_⟩ <;> decide +kernel

/-- A child that has sent RECEIVED and nothing since. -/
def sSilent : State := let s := sRoot false; { s with gate := { s.gate with bcasts := [{ rootB false with children := [⟨6, true, false, false, 0⟩, ⟨4, false, false, false, 0⟩] }] } }

theorem witness_Broadcasts_done : sSilent.childLate 0 6 true sSilent.btod = true := by decide +kernel

/-- A step record at 0x100000 of job 7, epoch 2, step 9 with one entry of handle 32, and the handle's descriptor. -/
def recordBytes : List Byte :=
  [1 + 7 * 8 + 2 * 2 ^ 15, 9, 10 ^ 7, 2 * 10 ^ 7, 3 * 10 ^ 7, 4 * 10 ^ 7, 0, 2 ^ 32].flatMap (toBytes 8) ++ List.replicate 192 0 ++
    [32, 2 ^ 32].flatMap (toBytes 8) ++ List.replicate 48 0
def handleBytes : List Byte := [1 + 2 ^ 22, 100, 0x10000].flatMap (toBytes 8) ++ List.replicate 40 0
def sLoad : State :=
  let s := live sOn
  ((s.memWrite 0x100000 recordBytes).memWrite (s.handleAddr 32) handleBytes).setField (Reg.nmeStat 0) 3 1 0

theorem witness_GateLoadAndCommit_load :
    let c := (sLoad.setField Reg.gateLoad 0 48 (BitVec.ofNat 64 (2 ^ 48 + 0x100000)).toNat).loadCheck 0x100000
    sLoad.regsOk = true ∧ sLoad.slotsOk = true ∧ sLoad.writeRefusal 0 Reg.gateLoad = none ∧ sLoad.flag Reg.gateLoad 49 = false ∧
    c.2.pickSlot = some 0 ∧ c.1.err = 0 ∧
    ((sLoad.setField Reg.gateLoad 0 48 (2 ^ 48 + 0x100020)).loadCheck 0x100020).1.err = 1 ∧
    sLoad.writeRefusal 1 Reg.gateCtl = none ∧ (1 : Word).toNat.testBit 0 = true := by decide +kernel

/-- An entry of handle 32 on NME 0 that expects one marker of its own and one upstream from node 6. -/
def entA : GateEntry :=
  { handle := 32, stage := 1, pos := 1, bken := false, bkwait := false, upnode := 6, bknode := 0, nmown := 1, nmup := 1, nmbk := 0,
    conv := 0, woff := 0, idxbase := 0, nbase := 0, ncnt := 1, opten := false, optd := 0x2000, own := Arrivals.none, bk := Arrivals.none,
    up := Arrivals.none, decided := false, mask := 0, trel := 0, relLeft := [], optLeft := [], pinf := 0, ninf := 0, nan := 0, ovf := 0 }

/-- A load that has ended, of nothing and of a handle that no NME holds. -/
theorem witness_GateLoadAndCommit_loaded :
    (gateOn (live sOn) 31 1 Slot.empty).slotState 31 = 1 ∧ (gateOn (live sOn) 31 1 Slot.empty).stops 0 = false ∧
    (gateOn (live sOn) 31 1 Slot.empty).fab.recs = [] ∧ [].all (gateOn (live sOn) 31 1 Slot.empty).latched = true ∧
    [entA].all (gateOn (live sOn) 31 1 { Slot.empty with entries := [entA] }).latched = false := by decide +kernel

/-- A marker of the entry's upstream neighbour, and one of no handle. -/
def sMark (h : Nat) : State :=
  let s := gateOn (live sOn) 31 2 { Slot.empty with tc := 10 ^ 7, dy := 1000, entries := [entA] }
  { s with gate := { s.gate with markers := [⟨h, 7, 2, 9, 6, false, 1, 5⟩] } }

theorem witness_GateDecisionsAndResolution_markers :
    (sMark 5).regsOk = true ∧ (sMark 5).slotsOk = true ∧ (sMark 5).nmesOk = true ∧ (sMark 5).stops 0 = false ∧ (sMark 5).fab.recs = [] ∧
    (sMark 5).markerEntry ⟨5, 7, 2, 9, 6, false, 1, 5⟩ = none ∧ (sMark 32).markerEntry ⟨32, 7, 2, 9, 6, false, 1, 5⟩ = some (31, 0, entA) ∧
    (sMark 32).markerEntry ⟨32, 7, 2, 8, 6, false, 1, 5⟩ = none ∧
    entA.classify (sMark 32).own.node ⟨32, 7, 2, 9, 6, false, 1, 5⟩ = some .upstream ∧ entA.decided = false ∧
    ((sMark 32).slot 31).early (entA.mark .upstream 5) = false := by decide +kernel

/-- The same slot with no marker and the entry's instant at 2000, reached; the handle armed on NME 0 with no lanes of its own there. -/
def armedN : Armed := { armedA 1 .unreleased with desc := { hdl 1 false with lanes := 0 } }
def sDecide : State :=
  let s := gateOn (live sOn) 31 2 { Slot.empty with tc := 10 ^ 7, entries := [entA] }
  let s := nmeOn s 0 { Nme.reset with armed := [armedN] }
  { s with time := { s.time with count := 4000 } }

theorem witness_GateDecisionsAndResolution_instant :
    sDecide.regsOk = true ∧ sDecide.slotsOk = true ∧ sDecide.nmesOk = true ∧ sDecide.stops 0 = false ∧ sDecide.fab.recs = [] ∧
    sDecide.gate.markers = [] ∧ sDecide.slotRuns 31 = true ∧ sDecide.slotState 31 = 2 ∧ (sDecide.slot 31).entries[0]? = some entA ∧
    (sDecide.slot 31).instant entA ≤ sDecide.nowA ∧ (sDecide.nme 0).find 32 = some armedN := by decide +kernel

theorem witness_GateDecisionsAndResolution_release (sel : Nat) (cmp : Bool) :
    let u := ((sDecide.zeroEntry entA).releaseEntry entA sel cmp).2
    u.gate = sDecide.gate ∧ u.slotState 31 = sDecide.slotState 31 ∧ u.fab.recs = [] ∧ u.regsOk = true ∧ u.time = sDecide.time := by
  have h : ((sDecide.zeroEntry entA).releaseEntry entA sel cmp).2 =
      ((sDecide.zeroEntry entA).releaseEntry entA 0 false).2 := by cases cmp <;> rfl
  rw [h]
  decide +kernel

/-- A handle in each phase of its release on NME 0; an entry whose optimizer is done. -/
def sPhase (ph : ReleasePhase) : State := nmeOn (live sOn) 0 { Nme.reset with armed := [armedA 1 ph] }
def entO : GateEntry := { entA with opten := true, decided := true }
def sOpt (n : Nat) (e : GateEntry) : State := gateOn (live sOn) 31 n { Slot.empty with tc := 0, entries := [e] }

theorem witness_GateDecisionsAndResolution_phases :
    ((sPhase .optimizing).nme 0).find 32 = some (armedA 1 .optimizing) ∧ ((sPhase .forwarding).nme 0).find 32 = some (armedA 1 .forwarding) ∧
    (sPhase .forwarding).forwarded 0 32 = true ∧ (sPhase .forwarding).nmesOk = true ∧
    (sOpt 6 entO).slotRuns 31 = true ∧ (sOpt 6 entO).slotState 31 = 6 ∧ ((sOpt 6 entO).slot 31).entries[0]? = some entO ∧
    entO.opten = true ∧ entO.decided = true ∧ entO.optLeft = [] ∧ (sOpt 6 entO).staged entO.optd = false := by decide +kernel

/-- Slot 31 at TC, with its entry decided; on its commit point, on hold and not, under policy 2. -/
def sTest : State := sOpt 2 { entA with decided := true, mask := 0x4000 }
def sCommit (hold : Bool) (policy : Nat) : State :=
  let s := gateOn (live sOn) 31 3 { Slot.empty with hold := hold }
  let s := (s.setField (Reg.gateSlot 31) 24 2 policy).setField Reg.fabStat 0 2 3
  { s with time := { s.time with count := 40001 } }
def pkHold : Packet := pkc tyCtrl 3857789430 [(216, 8, 2), (68, 3, 6), (89, 1, 1), (52, 16, 9), (288, 48, 9)] []
theorem pkHold_crc : Packet.crc pkHold = 3857789430 := by decide +kernel
def sHeld31 : State := holding (gateOn (live sOn) 31 1 { Slot.empty with tc := 5 }) 0 6 pkHold

theorem witness_GateLoadAndCommit_commit :
    sTest.regsOk = true ∧ sTest.slotsOk = true ∧ sTest.stops 0 = false ∧ sTest.fab.recs = [] ∧ sTest.slotRuns 31 = true ∧
    sTest.slotState 31 = 2 ∧ (sTest.slot 31).tc ≤ sTest.nowA ∧ sTest.gate.markers = [] ∧
    (sTest.slot 31).entries.all (fun e => e.decided) = true ∧ (sCommit false 0).slotState 31 = 3 ∧ (sCommit false 0).slotRuns 31 = true ∧
    ((sCommit false 0).slot 31).tc + 40000 < (sCommit false 0).nowA ∧ (sCommit false 0).isolated = false ∧
    ((sCommit false 0).slot 31).hold = false ∧ (sCommit false 0).ckpJob ≠ (sCommit false 0).slotJob 31 ∧
    ((sCommit true 2).slot 31).hold = true ∧ (sCommit true 2).slotPolicy 31 = 2 ∧ ((sCommit true 2).slot 31).bsemen = false ∧
    (sCommit true 1).slotPolicy 31 ≠ 2 ∧ ((sCommit true 1).slot 31).hold = true := by decide +kernel

theorem witness_GateLoadAndCommit_hold :
    sHeld31.regsOk = true ∧ sHeld31.slotsOk = true ∧ sHeld31.slotRuns 31 = true ∧ sHeld31.head 0 6 = some ⟨pkHold, 0, 0⟩ ∧ pkHold.flood = 1 ∧
    pkHold.type = tyCtrl ∧ pkHold.sub = 2 ∧ sHeld31.fab.flood.any (fun f => f.key == Packet.floodKey pkHold) = false ∧
    sHeld31.arrivalCheck pkHold = none ∧ sHeld31.slotOf pkHold.job pkHold.epoch (pkHold.ext 0 48) = some 31 ∧
    extendStamp pkHold.ts32 (0 / 16) ≤ ((sHeld31.slot 31).tc : Int) ∧ 0 / 16 ≤ (sHeld31.slot 31).tc + 40000 ∧ sHeld31.slotState 31 ∈ [1, 2, 3] := by
  refine ⟨?_, ?_, ?_, ?_, ?_, ?_, ?_, ?_, arrivalCheck_passes _ _ _ pkHold_crc (by decide +kernel), ?_⟩ <;> decide +kernel

/-- Slot 31 HELD; and an ABORT of job 7 from step 8. -/
def sResolve : State := sOpt 6 { entA with decided := true }
def pkAbort : Packet := pkc tyAbort 3273665365 [(68, 3, 6), (89, 1, 1), (288, 48, 8)] []
theorem pkAbort_crc : Packet.crc pkAbort = 3273665365 := by decide +kernel
def sAbort : State := holding (sOpt 3 entA) 0 6 pkAbort

theorem witness_GateDecisionsAndResolution_resolve :
    sResolve.regsOk = true ∧ sResolve.slotsOk = true ∧ sResolve.stops 0 = false ∧ sResolve.fab.recs = [] ∧
    sResolve.stops (sResolve.slotJob 31) = false ∧ sResolve.writeRefusal 1 Reg.gateResolve = none ∧ sResolve.slotState 31 = 6 ∧
    sResolve.ckpJob ≠ sResolve.slotJob 31 ∧ (sResolve.slot 31).opten.any (fun e => !sResolve.staged e.optd) = false ∧
    (sResolve.slot 31).bsemen = false := by decide +kernel

theorem witness_GateDecisionsAndResolution_idle : ∀ c, c < 192 → sResolve.coreState c ≠ 2 := by decide +kernel

theorem witness_GateDecisionsAndResolution_abort :
    sAbort.regsOk = true ∧ sAbort.slotsOk = true ∧ sAbort.head 0 6 = some ⟨pkAbort, 0, 0⟩ ∧ pkAbort.flood = 1 ∧ pkAbort.type = tyAbort ∧
    sAbort.fab.flood.any (fun f => f.key == Packet.floodKey pkAbort) = false ∧ sAbort.arrivalCheck pkAbort = none ∧
    sAbort.slotState 31 ∈ [1, 2, 3, 6] ∧ sAbort.slotJob 31 = pkAbort.job ∧ sAbort.slotEpoch 31 = pkAbort.epoch ∧
    pkAbort.ext 0 48 < sAbort.slotStep 31 ∧ (sAbort.slotState 31 = 3 → 0 / 16 ≤ (sAbort.slot 31).tc + 40000) := by
  refine ⟨?_, ?_, ?_, ?_, ?_, ?_, arrivalCheck_passes _ _ _ pkAbort_crc (by decide +kernel), ?_⟩ <;> decide +kernel

/-- Slot 31 COMMITTING with an OPTEN handle whose areas are empty, to be converted to binary32. -/
def sConvert : State :=
  nmeOn (gateOn (live sOn) 31 4 { Slot.empty with entries := [entO] }) 0 { Nme.reset with armed := [{ armedN with desc := { hdl 1 true with lanes := 0 } }] }

theorem witness_GateDecisionsAndResolution_convert :
    let x := sConvert.slot 31
    let q := x.opten.foldl (fun (a : List (Nat × Nat) × State) e =>
      let r := a.2.convertEntry 31 e
      (a.1 ++ r.1, r.2)) ([], sConvert.setSlot 31 { x with converted := true })
    sConvert.regsOk = true ∧ sConvert.slotsOk = true ∧ sConvert.slotState 31 = 4 ∧ x.converted = false ∧
    sConvert.own.children sConvert.own.node sConvert.own.node ≠ [] ∧ q.2.fab.recs = [] ∧
    q.2.gate = (sConvert.setSlot 31 { x with converted := true }).gate := by decide +kernel

/-! ### Rings, screens and recovery -/

/-- NME 0 running with handle 32's descriptor of one lane in memory and one command found. -/
def descBytes (opten : Nat) : List Byte := [1 + opten * 2 ^ 5 + 2 ^ 22, 1, 0x10000, 0, 0, 0x2000].flatMap (toBytes 8) ++ List.replicate 16 0
def cmdR (op : Nat) (opnds : List Nat) : RingCmd := { index := 3, op := op, semEn := false, sem := 0, start := 0, opnds := opnds, late := false }
def sRing (opten : Nat) (c : RingCmd) (m : Nme) : State :=
  let s := (live sOn).memWrite ((live sOn).handleAddr 32) (descBytes opten)
  nmeOn (s.setField (Reg.nmeStat 0) 3 1 0) 0 { m with found := [c] }

/-- The same with the handle armed. -/
def sArmed (opten : Nat) (c : RingCmd) : State := sRing opten c { Nme.reset with armed := [armedA 1 .unreleased] }
def cmdCvtw : RingCmd := cmdR 3 [32, 0x100000, 0, 0]
def cmdCkcvt : RingCmd := cmdR 4 [32, 0x100000]
def cmdArm : RingCmd := cmdR 1 [32, 9, 7 + 2 * 2 ^ 12]
def cmdDisarm : RingCmd := cmdR 2 [32]
def cmdCbwarm : RingCmd := cmdR 5 [32, 0x1000000]
def cmdCbwend : RingCmd := cmdR 6 [32]
def cmdHash : RingCmd := cmdR 7 [0, 0, 0x1000]
def cmdScrub : RingCmd := cmdR 8 [0x1000, 0x80]
def cmdZero : RingCmd := cmdR 9 [0x1000, 0x80]

theorem witness_RingCommands_canonical : (sRing 0 cmdArm Nme.reset).nmesOk = true ∧ (sArmed 1 cmdCvtw).nmesOk = true := by decide +kernel
theorem witness_RingCommands_arm : ringReady (sRing 0 cmdArm Nme.reset) 0 cmdArm 1 := by unfold ringReady; decide +kernel
theorem witness_RingCommands_disarm : ringReady (sArmed 0 cmdDisarm) 0 cmdDisarm 2 := by unfold ringReady; decide +kernel
theorem witness_RingCommands_cvtw : ringReady (sArmed 1 cmdCvtw) 0 cmdCvtw 3 := by unfold ringReady; decide +kernel
theorem witness_RingCommands_ckcvt : ringReady (sArmed 1 cmdCkcvt) 0 cmdCkcvt 4 := by unfold ringReady; decide +kernel
theorem witness_RingCommands_cbwarm : ringReady (sArmed 1 cmdCbwarm) 0 cmdCbwarm 5 := by unfold ringReady; decide +kernel
theorem witness_RingCommands_cbwend : ringReady (sArmed 1 cmdCbwend) 0 cmdCbwend 6 := by unfold ringReady; decide +kernel
theorem witness_RingCommands_hash : ringReady (sRing 0 cmdHash Nme.reset) 0 cmdHash 7 := by unfold ringReady; decide +kernel
theorem witness_RingCommands_scrubnow : ringReady (sRing 0 cmdScrub Nme.reset) 0 cmdScrub 8 := by unfold ringReady; decide +kernel
theorem witness_RingCommands_zero : ringReady (sRing 0 cmdZero Nme.reset) 0 cmdZero 9 := by unfold ringReady; decide +kernel

theorem witness_RingCommands_cvtwReads :
    (∃ v o, Conv.ofWords (cmdCvtw.opnd 2) (cmdCvtw.opnd 3) = some v ∧ (ringStart (sArmed 1 cmdCvtw) 0 cmdCvtw).2.1.opt = some o) ∧
    (match Conv.ofWords (cmdCvtw.opnd 2) (cmdCvtw.opnd 3), (ringStart (sArmed 1 cmdCvtw) 0 cmdCvtw).2.1.opt with
      | some v, some o => ((ringStart (sArmed 1 cmdCvtw) 0 cmdCvtw).2.2.cvtw v (ringStart (sArmed 1 cmdCvtw) 0 cmdCvtw).2.1.desc o (cmdCvtw.opnd 1) 0).1
      | _, _ => none) = none := by
  refine ⟨⟨_, _, rfl, by rfl⟩, by decide +kernel⟩

/-- HBM clean, and NME i protecting no bank. -/
def clean (i : Nat) (s : State) : Prop := s.ecc = [] ∧ (s.nme i).cbw = []

/-- The reads of CKCVT lie in backed HBM. -/
def ckReads (sp src : Nat) (h : Handle) (i : Nat) (l : List Nat) : Bool :=
  l.all (fun b => (pieces (src + 1024 * b) (4 * h.used i (256 * b) 256)).all (fun p => (locate sp p.1).isSome))

theorem clean_books {s u : State} {i : Nat} (hc : clean i s) (h : Books s u) : clean i u ∧ u.spread = s.spread :=
  have h1 : u.nmes = s.nmes := by rw [h.shape]
  ⟨⟨h.ecc.trans hc.1, by unfold State.nme; rw [h1]; exact hc.2⟩, State.spread_books h⟩

theorem clean_sweepRead {s : State} {i a n : Nat} (hc : clean i s) (hl : (pieces a n).all (fun p => (locate s.spread p.1).isSome) = true) :
    ∃ u, (s.sweepRead i a n).2 = (none, u) ∧ clean i u ∧ u.spread = s.spread := by
  have h1 : (s.nme i).protection a = none := by unfold Nme.protection; rw [hc.2]; rfl
  unfold State.sweepRead
  rw [h1]
  obtain ⟨u, e, hb⟩ := State.memRead_clean a n hc.1 (fun p hp => by simpa using List.all_eq_true.mp hl p hp)
  exact ⟨u, e, clean_books hc hb⟩

theorem clean_sweepMark {s : State} {i : Nat} (a : Nat) (hc : clean i s) : s.sweepMark i a = s := by
  have h1 : (s.nme i).protection a = none := by unfold Nme.protection; rw [hc.2]; rfl
  unfold State.sweepMark
  rw [h1]

theorem clean_memWrite {s : State} {i : Nat} (a : Nat) (l : List Byte) (hc : clean i s) :
    clean i (s.memWrite a l) ∧ (s.memWrite a l).spread = s.spread := by
  obtain ⟨m, u, hb, hm⟩ := State.memWrite_clean a l hc.1
  rw [hm]
  have h := clean_books hc hb
  exact h

theorem clean_ckTheta {h : Handle} {i src dst : Nat} (l : List Nat) : ∀ {s : State}, clean i s → ckReads s.spread src h i l = true →
    (s.ckTheta h i src dst l).1 = none ∧ clean i (s.ckTheta h i src dst l).2 ∧ (s.ckTheta h i src dst l).2.spread = s.spread := by
  induction l with
  | nil => intro s hc _; exact ⟨rfl, hc, rfl⟩
  | cons b t ih =>
    intro s hc hl
    unfold ckReads at hl
    rw [List.all_cons, Bool.and_eq_true] at hl
    obtain ⟨u, hr, hu, hs⟩ := clean_sweepRead hc hl.1
    unfold State.ckTheta
    simp only [hr]
    have hw := clean_memWrite (dst + 1024 * b) ((s.sweepRead i (src + 1024 * b) (4 * h.used i (256 * b) 256)).1 ++
      List.replicate (1024 - 4 * h.used i (256 * b) 256) 0) hu
    rw [clean_sweepMark _ hw.1]
    have hn := ih hw.1 (by rw [hw.2, hs]; exact hl.2)
    exact ⟨hn.1, hn.2.1, hn.2.2.trans (hw.2.trans hs)⟩

theorem clean_ckMoments {h : Handle} {f : Bool} {i src dst : Nat} (l : List Nat) : ∀ {s : State}, clean i s → ckReads s.spread src h i l = true →
    (s.ckMoments h f i src dst l).1 = none ∧ clean i (s.ckMoments h f i src dst l).2 ∧ (s.ckMoments h f i src dst l).2.spread = s.spread := by
  induction l with
  | nil => intro s hc _; exact ⟨rfl, hc, rfl⟩
  | cons b t ih =>
    intro s hc hl
    unfold ckReads at hl
    rw [List.all_cons, Bool.and_eq_true] at hl
    obtain ⟨v, hr, hv, hvs⟩ := clean_sweepRead hc hl.1
    unfold State.ckMoments
    simp only [hr]
    have key : ∀ u : State, clean i u → u.spread = s.spread →
        ((u.sweepMark i (src + 1024 * b)).ckMoments h f i src dst t).1 = none ∧
        clean i ((u.sweepMark i (src + 1024 * b)).ckMoments h f i src dst t).2 ∧
        ((u.sweepMark i (src + 1024 * b)).ckMoments h f i src dst t).2.spread = s.spread := fun u hu hs => by
      rw [clean_sweepMark _ hu]
      have hn := ih hu (by rw [hs]; exact hl.2)
      exact ⟨hn.1, hn.2.1, hn.2.2.trans hs⟩
    have hw : ∀ (a1 a2 : Nat) (l1 l2 : List Byte), clean i ((v.memWrite a1 l1).memWrite a2 l2) ∧
        ((v.memWrite a1 l1).memWrite a2 l2).spread = s.spread := fun a1 a2 l1 l2 =>
      have h1 := clean_memWrite a1 l1 hv
      have h2 := clean_memWrite a2 l2 h1.1
      ⟨h2.1, h2.2.trans (h1.2.trans hvs)⟩
    have hr' : ∀ (p : Prop) [Decidable p] (u : State) (x : Nat) (y : Nat × Nat) (z : List (Nat × Nat)), clean i u ∧ u.spread = s.spread →
        clean i (if p then u.raise x y z else u) ∧ (if p then u.raise x y z else u).spread = s.spread := fun p _ u x y z hu => by
      split
      · exact hu
      · exact hu
    refine key _ ?_ ?_
    · exact (hr' _ _ _ _ _ (hw _ _ _ _)).1
    · exact (hr' _ _ _ _ _ (hw _ _ _ _)).2

/-- CKCVT in clean, backed HBM reads without error. -/
theorem clean_ckcvt {s : State} {h : Handle} {alg : Nat} {f : Bool} {i src dst : Nat} (hc : clean i s)
    (h1 : ckReads s.spread src h i (List.range (h.params / 256)) = true)
    (h2 : ckReads s.spread (src + 4 * h.params) h i (List.range (h.params / 256)) = true)
    (h3 : ckReads s.spread (src + 8 * h.params) h i (List.range (h.params / 256)) = true) : (s.ckcvt h alg f i src dst).1 = none := by
  have a := clean_ckTheta (dst := dst) _ hc h1
  have b := clean_ckMoments (f := f) (dst := dst + h.chunks * granule) _ a.2.1 (by rw [a.2.2]; exact h2)
  have p := clean_memWrite (dst + h.chunks * granule + ((if f then 1 else 2) * h.params + h.params / 256))
    (List.replicate (granules ((if f then 1 else 2) * h.params + h.params / 256) * granule - ((if f then 1 else 2) * h.params + h.params / 256)) 0) b.2.1
  have c := clean_ckMoments (f := f) (dst := dst + h.chunks * granule + momentGranules f h.chunks * granule) _ p.1
    (by rw [p.2, b.2.2, a.2.2]; exact h3)
  unfold State.ckcvt
  simp only [a.1, b.1]
  split
  · rfl
  · unfold State.padGranule
    simp only [c.1]

theorem witness_RingCommands_ckcvtReads :
    let r := ringStart (sArmed 1 cmdCkcvt) 0 cmdCkcvt
    ∃ o, r.2.1.opt = some o ∧ (r.2.2.ckcvt r.2.1.desc o.alg (bit (cmdCkcvt.opnd 0) 16) 0
      (o.bank r.2.1.desc 0 (r.2.2.sweepBank 0 cmdCkcvt.handle o)) (0 / 4 * 2 ^ 39 + cmdCkcvt.opnd 1)).1 = none := by
  refine ⟨_, by rfl, clean_ckcvt ⟨by decide +kernel, by decide +kernel⟩ ?_ ?_ ?_⟩ <;> decide +kernel

theorem witness_RingCommands_ranges :
    ((ringStart (sRing 0 cmdHash Nme.reset) 0 cmdHash).2.2.hash 0 (cmdHash.opnd 0) (cmdHash.opnd 2) (List.range (cmdHash.opnd 1 / granule))).1 = none ∧
    (match (ringStart (sRing 0 cmdScrub Nme.reset) 0 cmdScrub).2.2.patrol 0 (pieces (cmdScrub.opnd 0) (cmdScrub.opnd 1)) 0 with
      | ⟨none, n, _⟩ => n == 0 | _ => false) = true ∧ (ringStart (sArmed 1 cmdCbwarm) 0 cmdCbwarm).2.1.opt.isSome = true := by decide +kernel

/-- NME 31's ring of one entry, empty and with a ZERO entered; its run at an end. -/
def sScan (l : List Byte) : State :=
  let s := (sOn.setReg (Reg.nmeCqCtl 31) (1 + 2 ^ 16)).setReg (Reg.nmeCqBase 31) 0x400
  nmeOn (s.memWrite 0x400 l) 31 Nme.reset
def zeroEntry : List Byte := [1 + 9 * 2 ^ 8, 0, 0x1000, 0x80].flatMap (toBytes 8) ++ List.replicate 32 0
def sRan : State := nmeOn sOn 31 { Nme.reset with run := some ⟨{ cmdZero with late := true }, 5, 0⟩ }

theorem witness_RingsAndReadings_scan :
    (sScan zeroEntry).stops 0 = false ∧ (sScan zeroEntry).serving = true ∧ ((sScan zeroEntry).region 3 31).running = true ∧ (sScan zeroEntry).regsOk = true ∧ (sScan zeroEntry).nmesOk = true ∧ ((sScan zeroEntry).nme 31).running = true ∧
    (sScan zeroEntry).host.bs8Done = true ∧ (sScan zeroEntry).tableEntries (Reg.nmeCqCtl 31) = 1 ∧
    ((sScan zeroEntry).nme 31).lastScan ≠ (sScan zeroEntry).scanTick ∧ (sScan zeroEntry).backed ((sScan zeroEntry).ringAddr 31 0) 64 = true ∧
    (sScan zeroEntry).memRead ((sScan zeroEntry).ringAddr 31 0) 64 = (zeroEntry, none, sScan zeroEntry) ∧
    bits (wordAt zeroEntry 0) 0 4 = 1 ∧ (RingCmd.ofBytes 0 (sScan zeroEntry).nowA zeroEntry).bad (wordAt zeroEntry 0) = false ∧
    (RingCmd.ofBytes 0 (sScan zeroEntry).nowA zeroEntry).start ≤ (sScan zeroEntry).nowA + 2 ^ 36 ∧
    (sRan.nme 31).run.isSome = true ∧ sRan.regsOk = true ∧ sRan.nmesOk = true := by decide +kernel

/-- NME 31 with its patrol on and one failed symbol in the line it reads next. -/
def sPatrol : State := { nmeOn (sOn.setField (Reg.nmeCtl 31) 0 1 1) 31 Nme.reset with ecc := [(31 * 2 ^ 31, 2)] }

theorem witness_RingsAndReadings_readings :
    sPatrol.regsOk = true ∧ sPatrol.nmesOk = true ∧ sPatrol.stops 0 = false ∧ (sPatrol.nme 31).running = true ∧
    sPatrol.flag (Reg.nmeCtl 31) 0 = true ∧ (sPatrol.nme 31).scrubPtr + 1 < 2 ^ 31 ∧ sPatrol.linePoison (31 * 2 ^ 31 + 0) = false ∧
    Tab.wf (fun _ => (0 : Nat)) sPatrol.ecc = true ∧ ({ sPatrol with ecc := [] } : State).lineErrs (31 * 2 ^ 31 + 0) = 0 ∧
    sPatrol.recorder.raised = [] ∧ sPatrol.heldByFreeze sPatrol.nowA = false ∧ sPatrol.recorder.clearing = false ∧
    sPatrol.recorder.store.length < 65000 ∧ sPatrol.recorder.staged < 4000 ∧ sPatrol.writeRefusal 1 (Reg.nmeWspill 31) = none := by
  decide +kernel

/-! ### The Groomer -/

/-- A package with one QUICK and one HB section, and the module with it, the Groomer on, QUICK and HB runs of every core due. -/
def secA (kind : Nat) : Section := { kind := kind, engine := 0, sub := 0, tlim := 100, imoff := 0x100, imlen := 64, csbase := 0, cslen := 64, misr := 0x1234 }
def sGroom (pkg : Option Package) : State :=
  let s := (sOn.setField Reg.grmCtl 0 1 1)
  { s with grm := { s.grm with package := pkg }, time := { s.time with count := 10 ^ 15 } }
def sPkgs : State := sGroom (some { id := 1, version := 1, sections := [secA 0, secA 1], pdig := [], svn := 0, len := 4096 })

theorem witness_Screens_due :
    (199 : Nat) < 200 ∧ sPkgs.stops 0 = false ∧ sPkgs.flag Reg.grmCtl 0 = true ∧ sPkgs.grmUsable 198 = true ∧
    Tab.get sPkgs.grm.quickAt 0 198 + sPkgs.quickPeriod ≤ sPkgs.time.count ∧ Tab.get sPkgs.grm.hbAt 0 198 + sPkgs.hbPeriod ≤ sPkgs.time.count ∧
    (sGroom none).grm.package = none ∧ (sGroom none).grm.staged = none ∧ (sGroom none).grmUsable 198 = true ∧ sPkgs.grm.staged = none ∧
    sPkgs.logicalOf 198 = some 191 ∧ sPkgs.physOf 191 = some 198 ∧ sPkgs.coresOk = true ∧ sPkgs.coreState 191 = 0 ∧ sPkgs.due 198 = 0 ∧
    Tab.find sPkgs.grm.runs 198 = none ∧ Tab.find sPkgs.grm.classify 198 = none ∧ sPkgs.fullDue 198 = false ∧
    sPkgs.recovering 191 = false ∧ sPkgs.wanted 191 = false ∧
    (match sPkgs.grm.package with
      | some k => (k.find 1 0 0).isSome && (k.find 0 0 0).isSome
      | none => false) = true := by
  decide +kernel

/-- A QUICK run on physical core 0 (logical core 0), begun now or long ago. -/
def runA : SectionRun := { part := secA 1, why := .quick, atSyld := false, saved := some kA, charged := false, began := 0, cyc := 0 }
def sRun (count : Nat) : State :=
  let s := sGroom none
  let s := s.setCore 0 { Core.reset with package := true, wait := .ended, misr := 0x1234 }
  { s with grm := { s.grm with runs := [(0, runA)], due := [(0, 1)] }, time := { s.time with count := count } }

/-- The same, long past its limit. -/
def sLateRun : State := { sRun (10 ^ 12) with regions := [(regionKey 1 0, { Region.off with running := true, mhz := 900 })] }

theorem witness_Screens_end :
    (sRun 5).stops 0 = false ∧ (sRun 5).regsOk = true ∧ (sRun 5).coresOk = true ∧ (sRun 5).grm.runs.keys.Pairwise (· < ·) ∧
    Tab.wf (fun _ => (0 : Nat)) (sRun 5).grm.due = true ∧ Tab.find (sRun 5).grm.runs 0 = some runA ∧ runA.why = .quick ∧ runA.atSyld = false ∧
    runA.saved = some kA ∧ (sRun 5).logicalOf 0 = some 0 ∧ (sRun 5).physOf 0 = some 0 ∧ (sRun 5).coreState 0 = 0 ∧ (sRun 5).due 0 = 1 ∧
    Tab.find (sRun 5).grm.classify 0 = none ∧ (sRun 5).fullDue 0 = false ∧ (sRun 5).overdue 0 runA = false ∧ ((sRun 5).core 0).wait = .ended ∧
    ((sRun 5).core 0).fenceClear 0x1E = true ∧ ((sRun 5).core 0).misr.toNat = runA.part.misr ∧ (sRun 5).corrLive (0 / 25) = [] ∧
    { runA with part := { secA 1 with misr := 1 } }.part.misr ≠ ((sRun 5).core 0).misr.toNat ∧ (sRun 5).grmState 0 = 0 ∧
    sLateRun.overdue 0 runA = true ∧ sLateRun.grmState 0 = 0 ∧ sLateRun.corrLive (0 / 25) = [] ∧
    sLateRun.grm.package = none ∧ sLateRun.grm.staged = none := by decide +kernel

/-- A sample of core 30 taken at 0, its digest 77, in each phase; a transient at 0; a window begun at 0. -/
def passRunA : PassRun :=
  { op := matOpAt kP xPass .mpass, anchor := 0, mmw := mmwReset, plane := Plane.empty, rows := [], scales := [], filled := [] }
def sampA (ph : SamplePhase) : Sample := { x := 30, y := 0, z := 0, w := 0, digestX := 77, digestY := 0, digestZ := 0, phase := ph, run := passRunA, takenAt := 0 }
def sSamp : State :=
  let s := sGroom none
  { s with grm := { s.grm with samples := [(127, sampA .onY)], transients := [(199, [0, 10 ^ 15])], window := [(7, [(1, 2, 3, 0)])] } }

theorem witness_SamplesAndCommands_samples :
    sSamp.stops 0 = false ∧ sSamp.regsOk = true ∧ Tab.find sSamp.grm.samples (16 * 7 + 15) = some (sampA .onY) ∧ (sampA .onY).phase = .onY ∧
    (sSamp.pickCore [(sampA .onY).x / 25]).any sSamp.groomFree = true ∧
    (∃ w : Word, passDigest passRunA ^^^ w.toNat = (sampA .onY).digestX) ∧ (∃ w : Word, passDigest passRunA ^^^ w.toNat ≠ (sampA .onY).digestX) ∧
    (sampA .onY).takenAt + 60000000000 ≤ sSamp.time.count ∧ Tab.get sSamp.grm.transients [] 199 = 0 :: [10 ^ 15] ∧
    0 + sSamp.twin ≤ sSamp.time.count ∧ (sSamp.corrLive 7).length < (Tab.get sSamp.grm.window [] 7).length := by
  refine ⟨?_, ?_, ?_, ?_, ?_, ⟨BitVec.ofNat 64 (passDigest passRunA ^^^ 77), ?_⟩, ⟨BitVec.ofNat 64 (passDigest passRunA ^^^ 78), ?_⟩, ?_⟩
  all_goals decide +kernel

/-- A handle held by a slot that is HELD, and commands that end. -/
def sCmpr : State := nmeOn (gateOn (sGroom none) 31 6 { Slot.empty with entries := [entA] }) 0 { Nme.reset with armed := [armedA 1 .done] }
def sCmdEnd (op : Nat) (failed : Bool) : State :=
  let s := sGroom none
  { s with grm := { s.grm with cmd := some { op := op, handle := 0, cores := [], failed := failed, err := 0, diffOwn := 0, diffBk := 0 } } }

theorem witness_SamplesAndCommands_commands :
    sCmpr.regsOk = true ∧ sCmpr.stops 0 = false ∧ sCmpr.writeRefusal 1 Reg.grmCmd = none ∧
    (BitVec.ofNat 64 (2 ^ 28 + 199 * 16 + 32 * 2 ^ 12)).toNat.testBit 28 = true ∧ sCmpr.flag Reg.grmCmd 29 = false ∧
    sCmpr.grmUsable ((BitVec.ofNat 64 (2 ^ 28 + 198 * 16)).toNat / 16 % 256) = true ∧
    sCmpr.rcmpErr ((BitVec.ofNat 64 (2 ^ 28 + 32 * 2 ^ 12)).toNat / 2 ^ 12 % 2 ^ 16) (sCmpr.field Reg.grmCmdArg 0 39) = 0 ∧
    sCmpr.rcmpErr ((BitVec.ofNat 64 (2 ^ 28 + 33 * 2 ^ 12)).toNat / 2 ^ 12 % 2 ^ 16) (sCmpr.field Reg.grmCmdArg 0 39) = 2 ∧
    (sCmdEnd 2 false).grm.cmd.isSome = true ∧ (sCmdEnd 1 true).grm.cmd.isSome = true ∧ (sCmdEnd 2 false).regsOk = true ∧
    sCmpr.writeRefusal 1 Reg.grmProb = none := by decide +kernel

/-! ### Recovery -/

/-- The module with recovery and the watchdogs on; a program of job 7 on core 5 whose ABORT has been sent, in a fence since 0; both tiles up. -/
def sWatch (k : Core) : State :=
  let s := ((live (onCore 5 { k with ctx := { LaunchCtx.none with job := 7, epoch := 2, step := 9 } })).setField Reg.rstCtl 0 2 3).setField Reg.fabStat 0 2 3
  { s with rst := { s.rst with sent := [(7, 2, 9)] }, host := sOn.host, time := { s.time with count := 10 ^ 13 } }
def sFence : State := sWatch { kA with wait := .fence (word 0 0 0 0 31) 0 0 }

/-- NME 31 with a command under way, and fabric tile 1 with a packet that has taken its credits. -/
def sBusy : State :=
  let s := sWatch kA
  (nmeOn s 31 { Nme.reset with run := some ⟨cmdZero, 0, 0⟩ }).modPort 11 (fun x => { x with outq := [⟨pkOn, none⟩] })

theorem witness_FaultsEnterRecovery :
    sFence.regsOk = true ∧ sFence.recLive = [] ∧ sFence.rst.ended = [] ∧ sFence.stops 0 = false ∧ sFence.flag Reg.rstCtl 1 = true ∧
    (sWatch kA).coreWatched 5 = true ∧ ((sWatch kA).core 5).ctx.job ≠ 0 ∧ (sWatch kA).stops ((sWatch kA).core 5).ctx.job = false ∧
    (sWatch kA).rst.sent.contains (((sWatch kA).core 5).ctx.job, ((sWatch kA).core 5).ctx.epoch, ((sWatch kA).core 5).ctx.step) = true ∧
    ((sWatch kA).core 5).engineBusy 0 = true ∧ (sWatch kA).queueStalled 5 = false ∧
    (sWatch kA).expired (4 * 5 + 0) ((sWatch kA).field Reg.rstCtl 2 10) = true ∧ sFence.coreWatched 5 = true ∧ sFence.waitOverdue 5 = true ∧
    sBusy.regsOk = true ∧ sBusy.recLive = [] ∧ sBusy.watching = true ∧ (sBusy.nme 31).running = true ∧ (sBusy.nme 31).busy = true ∧
    (sBusy.nme 31).armed = [] ∧ sBusy.expired (0x1000 + 31) (sBusy.field Reg.rstCtl 24 8) = true ∧ sBusy.tileUp 1 = true ∧
    sBusy.tileHolds 1 = true ∧ sBusy.expired (0x2000 + 1) (sBusy.field Reg.rstCtl 32 8) = true ∧
    sBusy.writeRefusal 1 Reg.rstReq = none ∧ 0 ∈ [0, 1, 2, 3, 5] ∧ 767 < unitsOf 0 ∧ 31 < unitsOf 5 ∧
    (BitVec.ofNat 64 (5 + 31 * 8 + 2 ^ 14)).toNat = 5 + 31 * 8 + 2 ^ 14 := by decide +kernel

/-- Recovery entry 7 of engine 23 (core 5) in capture or in reset, the core in RESET; of NME 31; of a dump. -/
def sRec (st dom unit : Nat) (e : Recovery) : State :=
  let s := live sOn
  let s := (s.setReg (Reg.rstRecqA 7) (1 + dom * 2 + unit * 2 ^ 4 + 0x30 * 2 ^ 14 + st * 2 ^ 42)).setField (Reg.hifCstat 5) 0 3 (if st = 2 then 4 else 3)
  { s with rst := { s.rst with entries := [(7, e)] }, time := { s.time with count := 10 ^ 6 } }
def recOpen : Recovery := { Recovery.fresh with captured := true, drainOpen := true, startedAt := 10 ^ 6 - 2000 }
def recA : CaptureRec := { kind := 0, index := 5, time := 7, lcyc := 0, cst := 0, body := .core kA [], waits := [] }
def dumpA : Dump :=
  { qent := 7, dom := 0, unit := 23, cause := 0x30, tf := 0, job := 0, epoch := 0, step := 0, recseq := 0, base := none, len := 64, records := [], counters := [], graph := [],
    roots := [], off3 := 0, off4 := 0, off5 := 0, off6 := 0, cores := [], tiles := [], complete := false, flashed := false }
def sDump : State := let s := sRec 2 0 23 recOpen; { s with rst := { s.rst with dumps := [(3, dumpA)] } }

theorem witness_Resets_run :
    (sRec 1 0 23 { Recovery.fresh with captured := false, requested := true }).regsOk = true ∧
    Tab.wf (fun _ => Recovery.fresh) (sRec 1 0 23 { Recovery.fresh with requested := true }).rst.entries = true ∧
    (let s := sRec 1 0 23 { Recovery.fresh with requested := true }
     s.stops 0 = false ∧ s.flag (Reg.rstRecqA 7) 0 = true ∧ s.recState 7 = 1 ∧ (s.recEntry 7).captured = false ∧ s.recDomain 7 = 0 ∧
     s.recUnit 7 = 23 ∧ (s.recEntry 7).nmes = [] ∧ s.coreState (23 / 4) ≠ 2 ∧ s.coreState (23 / 4) ≠ 5 ∧
     (s.recEntry 7).records = []) ∧
    (let s := sRec 1 0 23 { Recovery.fresh with records := [recA] }
     s.regsOk = true ∧ s.recState 7 = 1 ∧ (s.recEntry 7).captured = false ∧ (s.recEntry 7).records[0]? = some recA ∧ recA.body ≠ .missing) ∧
    (let s := sRec 2 0 23 recOpen
     s.regsOk = true ∧ Tab.wf (fun _ => Recovery.fresh) s.rst.entries = true ∧ s.recState 7 = 2 ∧ (s.recEntry 7).drainOpen = true ∧
     (s.recEntry 7).startedAt + 2000 ≤ s.time.count ∧ s.recLive = [7] ∧ s.fab.recs = [] ∧ s.coreState (23 / 4) = 4) ∧
    Tab.find sDump.rst.dumps 3 = some dumpA ∧ dumpA.off3 = 0 ∧ dumpA.complete = false := by decide +kernel

theorem witness_Resets_quiet : groomerQuiet (sRec 2 0 23 recOpen) (23 / 4) := by
  intro p h
  have h5 : (sRec 2 0 23 recOpen).physOf (23 / 4) = some 5 := by decide +kernel
  rw [h5] at h; cases h; decide +kernel

/-- Tile 1 withdrawn 2,000 ns ago; NME 31 in reset with a packet that waits. -/
def sGone : State :=
  let s := (live sOn).setField Reg.fabStat 0 4 11
  { s with fab := { s.fab with wdT := [(1, 10)] }, time := { s.time with count := 10 ^ 9, a := { s.time.a with base := 10 ^ 6 } } }
def heldA : HeldPacket := { packet := pkAcc, stamp := 0, hw := .none, viaPort := true, dedup := false, dup := false }
def sAbsorb : State := (sRec 2 5 31 { recOpen with startedAt := 10 ^ 6 - 50000 }).setNme 31 { Nme.reset with waiting := [heldA] }

/-- Tile 1 with its planned reset captured. -/
def sPlanned : State :=
  let s := (sRec 1 4 1 { Recovery.fresh with requested := true, captured := true }).setField Reg.fabStat 0 4 11
  { s.setField (Reg.rstRecqA 7) 14 8 0x39 with fab := { s.fab with wdT := [(1, 10)] } }

theorem witness_Resets_planned :
    sPlanned.regsOk = true ∧ sPlanned.stops 0 = false ∧ sPlanned.withdrawn 1 = true ∧ sPlanned.host.offlineT = none ∧
    sPlanned.plannedOf 1 = some 7 ∧ (sPlanned.recEntry 7).captured = true ∧ (sPlanned.recEntry 7).nmes = [] := by decide +kernel

theorem witness_Resets_other :
    sGone.regsOk = true ∧ sGone.stops 0 = false ∧ sGone.withdrawn 1 = true ∧ sGone.host.offlineT = none ∧ sGone.recLive = [] ∧
    sGone.writeRefusal 1 Reg.rstIsol = none ∧
    sAbsorb.regsOk = true ∧ sAbsorb.nmesOk = true ∧ sAbsorb.flag (Reg.rstRecqA 7) 0 = true ∧ sAbsorb.recState 7 = 2 ∧
    sAbsorb.recDomain 7 = 5 ∧ sAbsorb.recUnit 7 = 31 ∧ (sAbsorb.recEntry 7).startedAt + 50000 ≤ sAbsorb.time.count ∧ sAbsorb.fab.recs = [] ∧
    sAbsorb.field Reg.fabE2e 16 8 ≠ 0 ∧ sAbsorb.fab.acks = [] ∧ (sAbsorb.nme 31).running = false ∧ (sAbsorb.nme 31).windows = [] ∧
    (sAbsorb.nme 31).spilled = [] ∧ (sAbsorb.nme 31).armed = [] ∧ (sAbsorb.nme 31).waiting = [heldA] ∧ heldA.dedup = false ∧
    heldA.viaPort = true ∧ heldA.packet.type = tyAcc := by decide +kernel

/-! ### Fabric time -/

/-- The module with the domains numbered 0 and 1. -/
def sTwo : State := (live sOn).setField (Reg.timeCfg true) 5 8 1
def sRole (b : Bool) (st : Nat) : State := (sTwo.setField (Reg.timeCfg b) 0 5 (1 + 3 * 4)).setField Reg.timeStat (if b then 3 else 0) 3 st
def sSwitch2 : State := { sOn with time := { sOn.time with switch := some ⟨false, 5, none, none⟩ } }
def sSlew (n : Int) : State :=
  let d : TimeDomain := { TimeDomain.reset with slew := n, base := 2 ^ 64 - 1 }
  { sOn with time := { sOn.time with count := 4096, b := d } }

theorem witness_TimeParameters :
    sOn.regsOk = true ∧ sOn.writeRefusal 1 (Reg.timeSet false) = none ∧ (!false && sOn.anyPiste || false && sOn.time.switch.isSome) = false ∧
    (!false && (live sOn).anyPiste || false && (live sOn).time.switch.isSome) = true ∧
    (!true && sSwitch2.anyPiste || true && sSwitch2.time.switch.isSome) = true ∧ sOn.time.switch = none ∧
    sOn.writeRefusal 1 (Reg.timeRate true) = none ∧ (sRole true 1).follows true = true ∧ sOn.follows true = false ∧
    sOn.writeRefusal 1 (Reg.timeSlew true) = none ∧ sSwitch2.time.switch.isSome = true ∧ sOn.writeRefusal 1 (Reg.timeCfg true) = none ∧
    (sSlew 1).domain true = (sSlew 1).time.b ∧ ((sSlew 1).domain true).slew ≠ 0 ∧
    ((sSlew 1).domain true).slewAt + 4096 * (((sSlew 1).domain true).slewSteps + 1) ≤ (sSlew 1).time.count ∧ 0 < ((sSlew 1).domain true).slew ∧
    ((sSlew (-1)).domain true).slew < 0 ∧ 0 < (sSlew (-1)).time.count ∧
    ((sSlew (-1)).domain true).formula ((sSlew (-1)).time.count - 1) < ((sSlew (-1)).domain true).formula (sSlew (-1)).time.count := by decide

/-- A time message on port 3, with TIME messaging of the port as tp. -/
def pkTime (sub num : Nat) (fs : List (Nat × Nat × Nat)) : Packet :=
  pkc tyCtrl 0 ([(216, 8, sub), (68, 3, 6), (292, 8, num), (300, 16, 9)] ++ fs) []
def sTime (s : State) (tp : TimePort) (p : Packet) : State := holding (((s.setField (Reg.fabPortStat 3) 0 4 7)).setTimePort 3 tp) 3 6 p
def waitA (num : Nat) : TimeWait := ⟨num, 9, 1600, 1600, 0⟩
def followA (num : Nat) : TimeFollow := ⟨num, 9, 100, 0⟩

theorem witness_TimeMessages :
    (∀ x, x ∈ [pkTime 0x10 0 [], pkTime 0x11 1 [], pkTime 0x12 0 [], pkTime 0x13 1 [], pkTime 0x14 0 [], pkTime 0x15 1 []] →
      x.type = tyCtrl ∧ x.linkLocal = true ∧ x.ext 12 16 = 9) ∧
    (let s := sTime sTwo TimePort.reset (pkTime 0x10 77 [])
     s.regsOk = true ∧ s.portsOk = true ∧ Tab.wf (fun _ => TimePort.reset) s.time.ports = true ∧ s.head 3 6 = some ⟨pkTime 0x10 77 [], 0, 0⟩ ∧
     (pkTime 0x10 77 []).ext 4 8 ≠ s.domNum false ∧ (pkTime 0x10 77 []).ext 4 8 ≠ s.domNum true) ∧
    (pkTime 0x10 0 []).ext 4 8 = sTwo.domNum false ∧ (pkTime 0x11 1 []).ext 4 8 = sTwo.domNum true ∧ 1 ≠ sTwo.domNum false ∧ 0 ≠ sTwo.domNum true ∧
    (sTime sTwo TimePort.reset (pkTime 0x11 1 [])).timePort 3 = TimePort.reset := by decide +kernel

/-- Domain B LOCKED behind port 3, with a Sync that waits on it; an exchange of the port's Pdelay open. -/
def sServo : State := sTime (sRole true 2) { TimePort.reset with syncs := [waitA 1] } (pkTime 0x11 1 [(288 + 32, 64, 99)])
def pdA : Pdelay := ⟨9, some 16, none, 0, 0⟩
def pdFollowA : PdFollow := ⟨true, 9, 100, 0⟩
def tpPd : TimePort := { TimePort.reset with pdSeq := 9, pds := [pdA], pdFollows := [pdFollowA] }
def pkResp (sub : Nat) : Packet := pkTime sub 0 [(288 + 160, 15, 5), (288 + 175, 4, 3), (288 + 32, 64, 3)]

theorem witness_TimeMessages_servo :
    sServo.regsOk = true ∧ sServo.portsOk = true ∧ Tab.wf (fun _ => TimePort.reset) sServo.time.ports = true ∧
    (sServo.timePort 3).syncs = [waitA 1] ∧ (waitA 1).domnum = (pkTime 0x11 1 [(288 + 32, 64, 99)]).ext 4 8 ∧
    (waitA 1).seqid = (pkTime 0x11 1 [(288 + 32, 64, 99)]).ext 12 16 ∧ sServo.time.switch = none ∧ sServo.flag Reg.timeCtl 20 = false ∧
    sServo.follows true = true ∧ sServo.parentPort true = some 3 ∧ sServo.timeState true = tsLocked ∧
    saturate 32 ((waitA 1).stampB - (timeOrigin (pkTime 0x11 1 [(288 + 32, 64, 99)]) + (sServo.field (Reg.timePmeas 3) 0 24 : Nat))) = 16 ∧
    timeOrigin (pkTime 0x11 1 [(288 + 32, 64, 99)]) - (sServo.domain true).lastT1 ≠ 0 ∧
    (sTime sTwo { TimePort.reset with syncs := [waitA 0] } (pkTime 0x11 0 [])).flag Reg.timeCtl 20 = false := by decide +kernel

theorem witness_TimeMessages_pdelay :
    (sTime sTwo tpPd (pkResp 0x13)).answers 3 (pkResp 0x13) = some pdA ∧ pdA.t1 = some 16 ∧
    ((sTime sTwo tpPd (pkResp 0x13)).timePort 3).pdFollows = [pdFollowA] ∧ pdFollowA.own = true ∧ pdFollowA.seqid = pdA.seq ∧
    (sTime sTwo { tpPd with pdFollows := [] } (pkResp 0x13)).answers 3 (pkResp 0x13) = some pdA ∧
    (sTime sTwo { tpPd with pds := [{ pdA with t2 := some 20 }] } (pkResp 0x14)).answers 3 (pkResp 0x14) = some { pdA with t2 := some 20 } ∧
    (sTime sTwo TimePort.reset (pkResp 0x13)).answers 3 (pkResp 0x13) = none ∧
    (sTime sTwo tpPd (pkResp 0x13)).regsOk = true ∧ (sTime sTwo tpPd (pkResp 0x13)).portsOk = true ∧ (pkResp 0x13).sub = 0x13 ∧
    (pkResp 0x14).sub = 0x14 ∧ (pkResp 0x13).ext 4 8 = sTwo.domNum false := by decide +kernel

/-- Announces of grandmaster 6, to a domain that acquires and to one LOCKED to another. -/
def pkAnn (num : Nat) : Packet := pkTime 0x15 num [(288 + 56, 15, 6), (288 + 72, 16, 2)]
def sAnn (b : Bool) (st : Nat) : State :=
  let s := sTime (sRole b st) TimePort.reset (pkAnn (b2n b))
  s.setDomain b { s.domain b with announced := some 4 }

theorem witness_TimeMessages_announce :
    ∀ b ∈ [true, false], ∀ st ∈ [1, 2], (sAnn b st).regsOk = true ∧ (sAnn b st).portsOk = true ∧
      (pkAnn (b2n b)).ext 4 8 = (sAnn b st).domNum b ∧ (pkAnn (b2n b)).ext 4 8 ≠ (sAnn b st).domNum (!b) ∧ (sAnn b st).follows b = true ∧
      (sAnn b st).parentPort b = some 3 ∧ (sAnn b st).time.switch = none ∧ (sAnn b st).timeState b = st ∧
      ((sAnn b st).domain b).announced = some 4 ∧ 4 ≠ (pkAnn (b2n b)).ext 56 15 := by decide +kernel

/-- A domain LOCKED for long with three UP ports, its last Sync long gone; a port's exchange and follow-ups that wait. -/
def sTick (b : Bool) (st : Nat) : State :=
  let s := ((sRole b st).setField (Reg.fabPortStat 0) 0 4 7).setField (Reg.fabPortStat 11) 0 4 7
  let s := s.setDomain b { s.domain b with sends := 1 }
  let s := s.setTimePort 11 { TimePort.reset with pds := [⟨0xFFFF, none, none, 0, 0⟩], pdSeq := 0xFFFF, follows := [followA 0] }
  let s := s.setTimePort 0 { TimePort.reset with pdFollows := [pdFollowA] }
  { s with time := { s.time with count := 10 ^ 13 } }

theorem witness_TimersSwitchAndRegions :
    ∀ b ∈ [true, false], ∀ st ∈ [2, 4], (sTick b st).regsOk = true ∧ (sTick b st).portsOk = true ∧
      Tab.wf (fun _ => TimePort.reset) (sTick b st).time.ports = true ∧ Tab.wf (fun _ => Region.off) (sTick b st).regions = true ∧
      (sTick b st).timeState b = st ∧ (sTick b st).passed ((sTick b st).logSync b) ((sTick b st).domain b).lastSend = true ∧
      ((sTick b st).domain b).sends % 16 ≠ 0 ∧ (sTick b st).portUp 11 = true ∧ (sTick b st).portUp 1 = false ∧
      (sTick b st).passed (logInterval ((sTick b st).field Reg.timeCtl 12 8) 0 8 4) ((sTick b st).timePort 11).pdCount = true ∧
      ((sTick b st).timePort 11).pds.any (fun x => decide (x.count + 10000000 < (sTick b st).time.count)) = true ∧
      ((sTick b st).timePort 11).follows = [followA 0] ∧ (followA 0).count + 1000000 < (sTick b st).time.count ∧
      ((sTick b st).timePort 11).pdFollows = [] ∧ ((sTick b st).timePort 0).pdFollows = [pdFollowA] ∧ ((sTick b st).timePort 0).follows = [] ∧
      pdFollowA.count + 1000000 < (sTick b st).time.count ∧ (sTick b st).time.switch = none ∧ (sTick b st).flag Reg.timeCtl 0 = false ∧
      10 ^ 9 * max 1 ((sTick b st).field (Reg.timeCfg b) 13 4) < 2 ^ (sTick b st).logSync b * ((sTick b st).time.count - ((sTick b st).domain b).lastSync) := by
  decide +kernel

/-- Domain B a MASTER, ahead or behind by n, far away, or no master. -/
def sAhead (a b st : Nat) : State :=
  let s := sRole true st
  { s with time := { s.time with a := { s.time.a with base := a }, b := { s.time.b with base := b } } }
def sEnd : State := let s := sAhead 10 11 4; { s with time := { s.time with switch := some ⟨false, 1, none, none⟩ } }

theorem witness_TimersSwitchAndRegions_switch :
    (sAhead 10 5 4).regsOk = true ∧ (sAhead 10 5 4).writeRefusal 1 Reg.timeSwitch = none ∧ (sAhead 10 5 1).timeState true = tsAcquire ∧
    (sAhead 10 5 4).time.switch = none ∧ (sAhead 10 5 4).timeState true = tsMaster ∧ (sAhead 10 5 4).timeDelta = -5 ∧
    (sAhead 10 15 4).timeDelta = 5 ∧ ((sAhead 10 5 4).timeDelta).natAbs < 2 ^ 31 ∧ ¬ ((sAhead 0 (2 ^ 31) 4).timeDelta).natAbs < 2 ^ 31 ∧
    sEnd.time.switch.isSome = true ∧ sEnd.timeDelta.natAbs ≤ 1 ∧ isRegion 1 191 = true ∧ isRegion 3 31 = true ∧ isRegion 5 1 = true ∧
    (let s : State := { sOn with regions := [(regionKey 3 31, { Region.off with stretches := 1 })] }
     0 < (s.region 3 31).stretches ∧ (s.region 3 31).reported ≠ s.time.count / 1000000 + 1) := by decide +kernel

/-! ### The recorder's freeze, counters, trace and stops -/

/-- A freeze due at 0 by a TIME packet and by the module's own register; a freeze in force since 5 with an end at 10 or at 5, and a record held. -/
def eventA : Event :=
  { code := 0x3001, stamp := 0, count := 0, stampB := 0, skind := 0, sidx := 0, lcyc := 0, cst := 0, job := none, data := 0, trunc := false }
def sDue : State :=
  let s := { sOn.setReg Reg.recFreeze 7 with time := { sOn.time with a := { sOn.time.a with base := 10 ^ 12 } } }
  { s with recorder := { s.recorder with freezeAt := [9] } }
def sFrozen (endAt : Nat) : State :=
  let s := { sOn with time := { sOn.time with a := { sOn.time.a with base := 10 ^ 12 } } }
  { s with recorder := { s.recorder with frozen := some 5, frzFrom := 5, thawAt := [endAt], held := [eventA], begun := [eventA] } }

theorem witness_RecorderFreeze :
    sDue.regsOk = true ∧ sDue.recorder.raised = [] ∧ sDue.recorder.frozen = none ∧ sDue.freezeDue = some 7 ∧ sDue.reg Reg.recFreeze = 7 ∧
    (sFrozen 10).regsOk = true ∧ (sFrozen 10).recorder.raised = [] ∧ (sFrozen 10).recorder.frozen = some 5 ∧ (sFrozen 10).thawDue = some 10 ∧
    (sFrozen 5).thawDue = some 5 ∧ (sFrozen 5).recorder.frzFrom + 1000000000 * max 1 ((sFrozen 5).field Reg.recCtl 1 8) ≤ (sFrozen 5).nowA ∧
    sDue.writeRefusal 1 Reg.recCtl = none ∧ (1 : Word).toNat.testBit 0 = true ∧ (2 : Word).toNat.testBit 0 = false := by decide +kernel

/-- The last counter of the last core, of a tile and of the module at all ones and enabled. -/
def sWrap (unit j : Nat) : State :=
  (sOn.setField ((pmcUnit unit).sel j) 12 1 1).setReg ((pmcUnit unit).cnt j) (2 ^ (pmcUnit unit).width - 1)

theorem witness_CountersAndTrace_counters :
    ∀ x ∈ [(191, 15), (201, 63), (202, 255)], (sWrap x.1 x.2).regsOk = true ∧ (sWrap x.1 x.2).recorder.raised = [] ∧ x.1 < 203 ∧
      x.2 < (pmcUnit x.1).size ∧ (sWrap x.1 x.2).flag ((pmcUnit x.1).sel x.2) 12 = true ∧
      (sWrap x.1 x.2).flag ((pmcUnit x.1).sel x.2) 13 = false ∧
      (sWrap x.1 x.2).field ((pmcUnit x.1).cnt x.2) 0 (pmcUnit x.1).width = 2 ^ (pmcUnit x.1).width - 1 ∧
      pmcAt ((pmcUnit x.1).cnt x.2) = some (pmcUnit x.1, x.2) ∧ (pmcUnit x.1).cnt x.2 % 8 = 0 ∧
      (sWrap x.1 x.2).writeRefusal 1 ((pmcUnit x.1).cnt x.2) = none := by decide +kernel

/-- The trace buffer of core 191 with 300 records, to the port or to a ring of 8 KiB. -/
def sTraced (port : Bool) : State :=
  let s := ((sOn.setReg (Reg.trcCtl 191) (if port then 3 else 1)).setField Reg.trcPort 0 1 1).setReg (Reg.trcRsize 191) 8192
  { s with traces := [(191, { TraceBuf.empty with recs := List.replicate 300 (1, 2, 0) })] }

theorem witness_CountersAndTrace_trace :
    (sTraced true).regsOk = true ∧ (sTraced true).recorder.raised = [] ∧ Tab.wf (fun _ => TraceBuf.empty) (sTraced true).traces = true ∧
    sOn.writeRefusal 1 (Reg.trcCtl 191) = none ∧ sOn.flag (Reg.trcCtl 191) 0 = false ∧ sOn.writeRefusal 1 (Reg.trcRbase 191) = none ∧
    sOn.writeRefusal 1 (Reg.trcRsize 191) = none ∧ (sTraced true).flag (Reg.trcStat 191) 13 = false ∧
    (sTraced true).flag (Reg.trcCtl 191) 1 = true ∧ (sTraced true).flag Reg.trcPort 0 = true ∧ (sTraced true).ringCapturing (191 / 24) = false ∧
    (sTraced true).drainable 191 15 ≠ 0 ∧
    (sTraced false).flag (Reg.trcCtl 191) 1 = false ∧ (sTraced false).drainable 191 256 ≠ 0 ∧
    8192 ≤ (sTraced false).field (Reg.trcRsize 191) 0 32 ∧ (sTraced false).field (Reg.trcRsize 191) 0 32 % 4096 = 0 ∧
    ((sTraced false).field (Reg.trcRwr 191) 0 32 + 4096) % (sTraced false).field (Reg.trcRsize 191) 0 32 ≠
      (sTraced false).field (Reg.trcRrd 191) 0 32 := by decide +kernel

/-- A stop of job 7 due, one whose capture runs, a dump of core 5 whose graph is written, and TIME packets that arrive by flood. -/
def sStopDue : State := { sA with gstop := { sA.gstop with sched := [(0, 7), (0, 9)] } }
def sCapturing : State := { sOn with gstop := { sOn.gstop with capturing := [(7, 3), (8, 4)], stopped := [(7, 3), (8, 4)] } }
def sDumped : State :=
  let s := { sOn with rst := { sOn.rst with dumps := [(3, { dumpA with off3 := 64, len := 96, cores := [5] })] } }
  s.setField (Reg.trcStat 5) 13 1 1
def pkFlood (op crc : Nat) : Packet :=
  Packet.make [(0, 15, 5), (16, 15, 6), (71, 4, tyTime), (68, 3, 6), (89, 1, 1), (256, 32, crc), (288, 4, op), (292, 64, 10 ^ 6)] []
def sFlood (op crc : Nat) : State := holding (live sOn) 0 6 (pkFlood op crc)

theorem witness_StopsAndDumps :
    sStopDue.regsOk = true ∧ sStopDue.portsOk = true ∧ Tab.wf (fun _ => TraceBuf.empty) sStopDue.traces = true ∧
    sOn.writeRefusal 1 Reg.trcGstopT = none ∧ sStopDue.stopsDue = (0, 7) :: [(0, 9)] ∧ sStopDue.stoppedBy 7 = false ∧ sStopDue.gstop.capturing = [] ∧
    sStopDue.coreState 6 ≠ 2 ∧ (sStopDue.core 6).package = false ∧ sStopDue.runsJob 5 0 = true ∧
    sCapturing.regsOk = true ∧ sCapturing.gstop.capturing = (7, 3) :: [(8, 4)] ∧
    Tab.find sDumped.rst.dumps 3 = some { dumpA with off3 := 64, len := 96, cores := [5] } ∧ sDumped.regsOk = true := by decide +kernel

theorem witness_StopsAndDumps_packets : ∀ x ∈ [(1, 3828348930), (2, 134026159), (3, 2783484059)],
    (sFlood x.1 x.2).regsOk = true ∧ (sFlood x.1 x.2).portsOk = true ∧ (sFlood x.1 x.2).stops 0 = false ∧
    (sFlood x.1 x.2).head 0 6 = some ⟨pkFlood x.1 x.2, 0, 0⟩ ∧ (pkFlood x.1 x.2).flood = 1 ∧ (pkFlood x.1 x.2).type = tyTime ∧
    (sFlood x.1 x.2).arrivalCheck (pkFlood x.1 x.2) = none ∧
    (sFlood x.1 x.2).fab.flood.any (fun f => f.key == Packet.floodKey (pkFlood x.1 x.2)) = false ∧
    (sFlood x.1 x.2).nowA ≤ (pkFlood x.1 x.2).ext 4 64 ∧ (pkFlood x.1 x.2).ext 0 4 = x.1 ∧
    (sFlood x.1 x.2).gstop.sched.contains ((pkFlood x.1 x.2).ext 4 64, (pkFlood x.1 x.2).job) = false ∧
    (sFlood x.1 x.2).recorder.frozen = none := by decide +kernel

/-! ### Checkpoints -/

/-- The checkpoint controller enabled for job 7 with areas of two granules; step 9 of job 7 committed in slot 31 without an OPTEN handle. -/
def sCkp : State :=
  let s := gateOn (live sOn) 31 5 { Slot.empty with tdec := 55 }
  let s := ((s.setReg Reg.ckpCtl (1 + 7 * 2)).setReg Reg.ckpArea (2 ^ 30 + 2 * 2 ^ 39)).setReg Reg.ckpSnap (2 ^ 31 + 2 ^ 39)
  { s with gate := { s.gate with lastStep := [(7, 10)] } }
def sCkpReq : State := { sCkp.setReg Reg.ckpReq 5 with time := { sCkp.time with a := { sCkp.time.a with base := 10 } } }
def sCkpEw : State := (sCkp.setField Reg.ckpEw 0 1 1).setReg Reg.fabDiscEcrc 9

theorem witness_CheckpointsTaken :
    sCkpReq.regsOk = true ∧ sCkpReq.ckpLive = true ∧ sCkpReq.reg Reg.ckpReq ≠ 0 ∧ sCkpReq.reg Reg.ckpReq ≤ sCkpReq.nowA ∧
    (sOn.setReg Reg.ckpReq 5).flag Reg.ckpCtl 0 = false ∧ (List.range 8).filter sCkp.monitorTrips = [] ∧
    (sCkp.setField Reg.ckpEw 0 1 0).flag Reg.ckpEw 0 = false ∧ (List.range 8).filter sCkpEw.monitorTrips = [3] ∧ sCkpEw.flag Reg.ckpEw 0 = true ∧
    sCkpEw.earlyAllowed = true ∧ sCkpEw.ckpLive = true ∧ sCkp.writeRefusal 1 Reg.ckpCmd = none ∧
    sCkp.cmdIgnored (setBits (BitVec.ofNat 64 (2 ^ 21)).toNat 0 4 1) = false ∧
    (sOn.setReg Reg.ckpCtl (1 + 7 * 2)).flag Reg.ckpCtl 0 = true ∧ (sOn.setReg Reg.ckpCtl (1 + 7 * 2)).latestStep = none := by decide +kernel

theorem witness_CheckpointsTaken_ready : ckpReady sCkp 9 31 [] := by unfold ckpReady; decide +kernel
theorem witness_CheckpointsTaken_request : ckpReady (sCkpReq.setReg Reg.ckpReq 0) 9 31 [] := by unfold ckpReady; decide +kernel
theorem witness_CheckpointsTaken_monitor :
    ckpReady ([3].foldl (fun (s : State) b => (s.setFlag Reg.ckpStat (5 + b)).ckpEvent 0x009 s.ckpJob 0 0 [(8, b)]) sCkpEw.monitorSeen) 9 31 [] := by
  unfold ckpReady; decide +kernel

/-- A checkpoint whose sweep is over, and one being signed, every NME running. -/
def runC (signing : Bool) : CkRun :=
  { gen := 1, job := 7, epoch := 2, step := 9, trig := 3, tcommit := 55, mfmt := false, handles := [], committed := true, signing := signing, startAt := 0 }
def sCkpRun (signing : Bool) : State :=
  let s := nmeOn sCkp 0 Nme.reset
  { s with ckp := { s.ckp with run := some (runC signing) } }

theorem witness_CheckpointsTaken_sweep :
    (sCkpRun false).regsOk = true ∧ (sCkpRun false).ckpLive = true ∧ ((sCkpRun false).nme 0).running = true ∧
    ((sCkpRun false).sweepAll (runC false) (List.range 32)).1 = none ∧
    (((sCkpRun false).sweepAll (runC false) (List.range 32)).2.roots (runC false) (List.range 32)).2.1 = none ∧
    (sCkpRun true).ckp.pend = none ∧ (sCkpRun true).ckp.mirror = none ∧ (sCkpRun true).flag Reg.ckpMirout 15 = false ∧
    (sCkpRun true).fab.recs = [] ∧ ((sCkpRun true).memRead ((sCkpRun true).area 1 0) signedBytes).2.1 = none := by decide +kernel

/-- Generation 1 SIGNED, set aside or not; a VERIFY and a RESTORE at their end; a sealed hosted generation. -/
def sGen (bits : Nat) : State := sCkp.setReg (Reg.ckpGenA 1) bits
def cmdC (op : Nat) : CkCmd :=
  { op := op, gen := 1, srcnode := 5, step := 9, fetching := false, manifest := false, left := [], into := 0, failed := false, broken := false }
def sCmdC (op : Nat) : State := { sCkp with ckp := { sCkp.ckp with cmd := some (cmdC op) } }
def sSealed : State := let s := sCkp.setReg (Reg.ckpGenA 3) 5; { s with ckp := { s.ckp with sealed' := [3, 2] } }

theorem witness_CheckpointCommands :
    (sGen 2).regsOk = true ∧ (sGen 2).writeRefusal 1 Reg.ckpCmd = none ∧
    (∀ op ∈ [2, 3, 4, 5, 6], (sGen 2).cmdIgnored (setBits (2 ^ 21 + 16 + 5 * 64) 0 4 op) = false) ∧
    (BitVec.ofNat 64 (2 ^ 21 + 16 + 5 * 64)).toNat / 64 % 2 ^ 15 = (sGen 2).own.node ∧ (sGen 2).ckp.mirror = none ∧ (sGen 2).genState 1 = 2 ∧
    (sGen 0).genState 1 ≠ 2 ∧ (sGen 0).genState 1 ≠ 4 ∧ (sGen 10).aside 1 = true ∧ (sGen 10).genState 1 = 2 ∧ (sGen 2).aside 1 = false ∧
    (sGen 2).flag Reg.ckpMirout 15 = false ∧ ((sGen 2).setField Reg.ckpMirout 15 1 1).flag Reg.ckpMirout 15 = true ∧ (sGen 2).fab.recs = [] ∧
    (sCmdC 2).ckpLive = true ∧ (sCmdC 2).ckp.cmd = some (cmdC 2) ∧ (sCmdC 3).ckp.cmd = some (cmdC 3) ∧ (cmdC 2).fetching = false ∧
    sSealed.ckpLive = true ∧ sSealed.ckp.sealed'.contains 3 = true ∧ sSealed.genState 3 = 5 ∧ sSealed.regsOk = true := by decide +kernel

/-! ### Isrek -/

/-- The module with controllers 0 and 1 in two states and an owner. -/
def sIsk (a b : Nat) (owner : Option Nat) : State :=
  let s := sOn.setReg Reg.iskStat (owner.getD 3 + a * 4 + b * 32)
  { s with isk := { s.isk with owner := owner } }
def sOwn : State := sIsk 3 2 (some 1)

theorem witness_Controllers_cycle :
    sOwn.regsOk = true ∧ 1 < 2 ∧ sOwn.isk.owner = some 1 ∧ sOwn.ctl 1 = ctlActive ∧ sOwn.isk.lastCycle ≠ sOwn.nowA / 1000000 + 1 ∧
    sOwn.isk.next = none ∧ ({ sOwn with isk := { sOwn.isk with overran := true } } : State).isk.overran = true ∧ sOwn.isk.swap = none ∧
    (let s : State := { sIsk 5 3 (some 1) with isk := { (sIsk 5 3 (some 1)).isk with next := some (1, 0, 5) } }
     s.isk.owner = some 1 ∧ s.isk.lastCycle ≠ s.nowA / 1000000 + 1 ∧ s.isk.next = some (1, 0, 5)) ∧
    (let s : State := { sOwn with isk := { sOwn.isk with copyDue := true } }
     s.isk.copyDue = true ∧ s.ctl (1 - 1) = ctlStandby) ∧ (sIsk 2 4 (some 0)).ctl (1 - 0) = ctlStale ∧
    (let s : State := { sOwn with isk := { sOwn.isk with missed := 3 } }
     s.isk.owner = some 1 ∧ s.ctl (1 - 1) = ctlStandby ∧ 3 + b2n s.isk.copyDue ≤ s.isk.missed) ∧
    (let s : State := { sOwn with time := { sOn.time with count := 2500000 } }
     s.isk.lapsed = false ∧ s.isk.owner = some 1 ∧ s.ctl 1 = ctlActive ∧ s.isk.activeAt + 2500000 ≤ s.time.count) := by decide

theorem witness_Controllers_claims :
    ¬ (sOwn.isk.owner = some 0 ∧ sOwn.ctl 0 = ctlActive) ∧ sOwn.ctl 0 ≠ ctlOff ∧
    (let s : State := { sIsk 1 1 none with host := { sOn.host with stage := 1 } }
     s.regsOk = true ∧ s.isk.owner = none ∧ s.ctl 1 = ctlBoot ∧ s.host.auxIn = true ∧ 1 ≤ s.host.stage ∧ s.flag Reg.secBoot 4 = false) ∧
    (sIsk 4 5 none).isk.owner = none ∧ (sIsk 4 5 none).ctl 0 = ctlStale ∧
    (let s : State := { sIsk 4 1 none with isk := { sOn.isk with prefer := some (0, 0) }, time := { sOn.time with count := 500000000 } }
     s.isk.owner = none ∧ s.isk.prefer = some (0, 0) ∧ s.ctl (1 - 0) = ctlBoot ∧ 0 + 500000000 ≤ s.time.count) ∧
    (let s : State := { sOwn with isk := { sOwn.isk with lapsed := true } }
     s.isk.owner = some 1 ∧ s.isk.lapsed = true ∧ s.ctl 0 = ctlStandby) ∧ (sIsk 5 2 (some 1)).ctl 0 = ctlFailed := by decide

/-- Sensor 0x20 of core cluster 0 above THROT, and cool; its clock lowered at 0. -/
def sHot (reading : Nat) : State := sOwn.setReg (Reg.iskSens 0x20) (reading + 2 ^ 32)
def sCool : State :=
  let s := sHot 0
  { s with isk := { s.isk with thermal := [(0, (900, 0))], coolAt := [(0, 1)], validAt := [(0x20, 1)], hotAt := [(0x20, 1)], withinAt := [(0x20, 1)] },
           time := { s.time with count := 10 ^ 9 } }
def sFlagged : State := sCool.setField (Reg.iskSens 0x20) 33 2 3
def dgram (op tag : Nat) (l : List Byte) : Datagram := ⟨op, tag, 0, 0, l⟩
def sPort (active : Bool) (held : Nat) : State :=
  let s := (if active then sOwn else sIsk 3 3 none).setField Reg.iskMport 0 2 3
  { s with isk := { s.isk with frames := [(1, List.replicate held (dgram 1 1 (List.replicate 448 0)))] } }

theorem witness_SensorsAndPorts :
    sOwn.regsOk = true ∧ sOwn.host.bs1Done = true ∧ sensorExists 0x73 = true ∧ sCool.flag (Reg.iskSens 0x20) 32 = true ∧
    Tab.get sCool.isk.validAt 0 0x20 + 10000000 ≤ sCool.time.count + 1 ∧ sFlagged.iskActive = true ∧ sFlagged.flag (Reg.iskSens 0x20) 33 = true ∧
    sFlagged.flag (Reg.iskSens 0x20) 32 = true ∧ sCool.host.powered = true ∧
    Tab.get sFlagged.isk.withinAt 0 0x20 ≠ 0 ∧ Tab.get sFlagged.isk.withinAt 0 0x20 + 100000000 ≤ sFlagged.time.count + 1 ∧
    (sHot 8000).host.powered = true ∧ (sHot 8000).flag (Reg.iskSens (0x20 + 0)) 32 = true ∧ (sHot 8000).throt < (sHot 8000).reading (0x20 + 0) ∧
    Tab.find (sHot 8000).isk.thermal 0 = none ∧ sCool.reading (0x20 + 0) ≤ sCool.throt - 24 ∧ Tab.find sCool.isk.thermal 0 = some (900, 0) ∧
    Tab.get sCool.isk.coolAt 0 0 ≠ 0 ∧ Tab.get sCool.isk.coolAt 0 0 + 10000000 ≤ sCool.time.count + 1 ∧ 0 + 10000000 ≤ sCool.time.count ∧
    sCool.thermalClock 0 + 100 < sCool.clkCap (0 / 5) ∧ Tab.get sCool.isk.hotAt 0 0x20 ≠ 0 ∧
    Tab.get sCool.isk.hotAt 0 0x20 + 1000000 ≤ sCool.time.count + 1 ∧ sOwn.flag Reg.iskMport 1 ≠ true ∧
    (sPort true 1).flag Reg.iskMport 1 = true ∧ (sPort false 511).iskActive = false ∧
    decide (262144 < (sPort false 512).frameBytes 1 + 64 + (dgram 1 1 []).payload.length) = true ∧
    decide (262144 < (sPort false 1).frameBytes 1 + 64 + (dgram 1 1 []).payload.length) = false := by decide +kernel

/-! ### Requests to Isrek -/

/-- A request of an OP with TAG 7 in slot 15, and on port 1, where TAG 6 was completed last. -/
def req (op : Nat) (w18 w20 : Word) (l : List Byte) : Datagram := ⟨op, 7, w18, w20, l⟩
def sReq (q : Datagram) : State :=
  let s := sOwn.setField Reg.hifBs 7 1 1
  { s with isk := { s.isk with done := [(0, ⟨6, 0, []⟩), (2, ⟨6, 0, []⟩)], frames := [(1, [q])] } }

theorem fresh_of (src op : Nat) (q : Datagram) (s : State) (ops : Nat → Bool) (h1 : s.mboxTakes src q ops = true)
    (h2 : Tab.find s.isk.done (requester src) = some ⟨6, 0, []⟩) (h3 : 6 < q.tag) (h4 : q.payload.length ≤ 4032) (_ : q.op = op) :
    freshRequest s src q ops := by
  refine ⟨h1, fun d hd => ?_, h4⟩
  rw [h2] at hd
  cases hd
  exact h3

/-- Requests of each OP. -/
def qInfo : Datagram := req 0x01 0 0 []
def qRdreg (n : Nat) : Datagram := req 0x02 0 0 (List.replicate n 0)
def qWrreg (n : Nat) : Datagram := req 0x03 0 0 (List.replicate n 0)
def qRdrec : Datagram := req 0x04 3 0 []
def qClrrec (n : Nat) : Datagram := req 0x05 0 0 (List.replicate n 0)

theorem witness_ManagementCommands_fresh : ∀ src ∈ [15, 17],
    freshRequest (sReq qInfo) src qInfo (· == 0x01) ∧ freshRequest (sReq (qRdreg 512)) src (qRdreg 512) (· == 0x02) ∧
    freshRequest (sReq (qRdreg 520)) src (qRdreg 520) (· == 0x02) ∧ freshRequest (sReq (qWrreg 1024)) src (qWrreg 1024) (· == 0x03) ∧
    freshRequest (sReq (qWrreg 1040)) src (qWrreg 1040) (· == 0x03) ∧ freshRequest (sReq qRdrec) src qRdrec (· == 0x04) ∧
    freshRequest (sReq (qClrrec 3389)) src (qClrrec 3389) (· == 0x05) ∧ freshRequest (sReq (qClrrec 0)) src (qClrrec 0) (· == 0x05) := by
  intro src h
  simp only [List.mem_cons, List.not_mem_nil, or_false] at h
  rcases h with rfl | rfl <;>
    refine ⟨?_, ?_, ?_, ?_, ?_, ?_, ?_, ?_⟩ <;> refine fresh_of _ _ _ _ _ ?_ ?_ ?_ ?_ rfl <;> decide +kernel

def qOf (op : Nat) : Datagram := req op 5 0 [1, 2]

theorem witness_ManagementCommands_others : ∀ src ∈ [15, 17], ∀ op ∈ [0x06, 0x07, 0x08, 0x0A, 0x0C, 0x0D],
    freshRequest (sReq (qOf op)) src (qOf op) (· == op) := by
  intro src h op h2
  simp only [List.mem_cons, List.not_mem_nil, or_false] at h h2
  rcases h with rfl | rfl <;> rcases h2 with rfl | rfl | rfl | rfl | rfl | rfl <;>
    refine fresh_of _ _ _ _ _ ?_ ?_ ?_ ?_ rfl <;> decide +kernel

theorem witness_ManagementCommands_report : ∀ op ∈ [0, 0x0E, 0xFF],
    freshRequest (sReq (qOf op)) 15 (qOf op) (fun op => op == 0 || decide (0x0E ≤ op)) := by
  intro op h2
  simp only [List.mem_cons, List.not_mem_nil, or_false] at h2
  rcases h2 with rfl | rfl | rfl <;> refine fresh_of _ _ _ _ _ ?_ ?_ ?_ ?_ rfl <;> decide +kernel

theorem witness_ManagementCommands_rest :
    (sReq qInfo).regsOk = true ∧ (sReq qInfo).isk.passed = none ∧ (sReq qInfo).isk.swapped = none ∧
    (sReq qInfo).ctl (1 - (sReq qInfo).isk.owner.getD 0) = ctlStandby ∧ (sReq qInfo).isk.swap = none ∧
    (let s := { sReq qInfo with isk := { (sReq qInfo).isk with owner := some 0 } }.setReg Reg.iskStat (2 * 4 + 4 * 32)
     s.ctl (1 - s.isk.owner.getD 0) ≠ ctlStandby ∧ s.iskActive = true) ∧
    (∀ op ∈ [1, 2, 3, 4, 5, 6, 7, 8, 9, 0x0C], (sReq (qOf op)).mboxTakes 15 { qOf op with tag := 6 } (· == op) = true) ∧
    Tab.find (sReq qInfo).isk.done (requester 15) = some ⟨6, 0, []⟩ ∧ (sReq qInfo).sec.cmdDone = none ∧
    (qClrrec 3389).payload.length = 3389 ∧ (qClrrec 0).payload.length ≠ 3389 := by decide +kernel

/-- A CLRREC that an owner signed, its nonce and LASTSEQ those of the module, is accepted where the signatures hold. -/
theorem witness_ManagementCommands_clear (s : State) (p : List Byte) (keys : List Byte) (h1 : Tab.find s.sec.owners 0 = some keys)
    (h2 : edOk keys (clrMessage p) ((p.drop 16).take 64) = true) (h3 : mdOk keys (clrMessage p) ((p.drop 80).take 3309) = true) :
    (s.clrSigner p).isSome = true := by
  unfold State.clrSigner
  have h4 : keys ∈ (List.range 4).filterMap (fun k => Tab.find s.sec.owners k) :=
    List.mem_filterMap.mpr ⟨0, by decide, h1⟩
  rw [List.find?_isSome]
  exact ⟨keys, h4, by simp [h2, h3]⟩

/-- Slot 15 with a clear, an erase and a commit in progress. -/
def sLong (kind data : Nat) : State :=
  let s := sReq qInfo
  { s with isk := { s.isk with long := [⟨15, 7, 5, kind, data⟩] }, host := { s.host with calStage := some [] } }

theorem witness_ManagementCommands_long : ∀ x ∈ [(0, 0), (1, 0), (1, 1), (2, 0)],
    (sLong x.1 x.2).regsOk = true ∧ (sLong x.1 x.2).iskActive = true ∧
    (sLong x.1 x.2).isk.long.find? (fun x => x.src == 15) = some ⟨15, 7, 5, x.1, x.2⟩ ∧ (sLong x.1 x.2).recorder.frozen = none ∧
    (sLong x.1 x.2).host.calStage.isSome = true := by decide +kernel

/-- FWSTAGE requests of an ACTION on the bank or the package; an area open; recovery mode. -/
def qStage (action area off n : Nat) : Datagram :=
  req 0x0B (BitVec.ofNat 64 (action + area * 4)) (BitVec.ofNat 64 off) (List.replicate n 1)
def sStaging (a : Option Nat) (erasing : Bool) : State :=
  let s := sReq qInfo
  { s with sec := { s.sec with staging := a, erasing := erasing } }
def sRecovery : State :=
  let s := (sStaging none false).setField Reg.secBoot 4 1 1
  { s with isk := { s.isk with owner := none } }

theorem witness_Staging : ∀ a ∈ [0, 1, 2, 3], (sStaging none false).regsOk = true ∧ (qStage a 1 0 8).op = 0x0B ∧ fwAction (qStage a 1 0 8) = a ∧
    Tab.find (sStaging none false).isk.done (requester 15) = some ⟨6, 0, []⟩ ∧ (qStage a 1 0 8).payload.length ≤ 4032 ∧
    (sStaging none false).flag Reg.secBoot 4 = false ∧ (sStaging none false).mboxTakes 15 (qStage a 1 0 8) (· == 0x0B) = true ∧
    (sStaging none false).sec.staging = none ∧ (sStaging (some 1) false).sec.staging = some (fwArea (qStage a 1 0 8)) ∧
    (sStaging (some 1) false).sec.erasing = false ∧ (sStaging (some 1) true).sec.erasing = true ∧
    (sStaging (some 0) false).sec.staging ≠ some (fwArea (qStage a 1 0 8)) ∧
    (qStage a 1 (16 * 2 ^ 20 - 8) 8).word20.toNat % 2 ^ 32 + (qStage a 1 0 8).payload.length ≤ pkgSize ∧
    ¬ (qStage a 1 (16 * 2 ^ 20) 8).word20.toNat % 2 ^ 32 + (qStage a 1 0 8).payload.length ≤ pkgSize ∧
    sRecovery.flag Reg.secBoot 4 = true ∧ (qStage a 0 0 8).tag < 2 ^ 32 ∧ fwArea (qStage a 0 0 8) = 0 ∧ sRecovery.isk.long = [] := by
  decide +kernel

/-- CALIO requests, with nothing staged, a copy staged, and a commit in progress. -/
def qCal (action sec off n : Nat) : Datagram :=
  req 0x0D (BitVec.ofNat 64 (action + sec * 16)) (BitVec.ofNat 64 off) (List.replicate n 1)
def sCal (m : Option (Tab Byte)) (busy : Bool) : State :=
  let s := sReq qInfo
  { s with host := { s.host with calStage := m, calBusy := busy } }

theorem witness_CalibrationCommands : ∀ a ∈ [0, 1, 2, 3, 4, 5], freshRequest (sCal (some []) false) 15 (qCal a 4 327672 8) (· == 0x0D) ∧
    (sCal (some []) false).regsOk = true ∧ (qCal a 4 327672 8).word18.toNat % 8 = a ∧ (sCal (some []) false).flag Reg.hifBs 7 = true ∧
    ((sCal (some []) false).setField Reg.hifBs 7 1 0).flag Reg.hifBs 7 = false ∧
    calOff (qCal a 4 327679 1) < calSize ∧ calSize ≤ calOff (qCal a 4 327680 1) ∧ (sCal none true).host.calBusy = true ∧
    (sCal (some []) false).host.calStage = some [] ∧ calOff (qCal a 4 327672 8) + (qCal a 4 327672 8).payload.length ≤ calSize ∧
    calSize < calOff (qCal a 4 327673 8) + (qCal a 4 327673 8).payload.length ∧ calSec (qCal a 4 0 0) = 4 ∧ calSec (qCal a 3 0 0) = 3 ∧
    calValid [] ((sCal (some []) false).reg Reg.fuseSerial) ≠ [0, 1, 2, 3, 4] := by
  intro a h
  refine ⟨?_, ?_⟩
  · simp only [List.mem_cons, List.not_mem_nil, or_false] at h
    rcases h with rfl | rfl | rfl | rfl | rfl | rfl <;> refine fresh_of _ _ _ _ _ ?_ ?_ ?_ ?_ rfl <;> decide +kernel
  · revert a; decide +kernel

/-! ### Signed commands -/

theorem areaBytes_put (l : List Byte) (off n : Nat) (h : off + n ≤ l.length) : areaBytes (putBytes [] 0 l) off n = (l.drop off).take n := by
  refine List.ext_getElem (by simp [areaBytes]; omega) fun i h1 h2 => ?_
  simp only [areaBytes, List.length_map, List.length_range] at h1
  have := putBytes_in (m := []) 0 l rfl (off + i) (by omega)
  rw [Nat.zero_add] at this
  simpa [areaBytes] using this

theorem putBytes_append (m : Tab Byte) (k : Nat) (a b : List Byte) : putBytes (putBytes m k a) (k + a.length) b = putBytes m k (a ++ b) := by
  induction a generalizing m k with
  | nil => rfl
  | cons x t ih => rw [List.cons_append, putBytes, putBytes, List.length_cons, ← ih]; congr 1; omega

theorem covered_two (a b : List Byte) (n : Nat) (h : n ≤ a.length + b.length) : covered [(0, a), (a.length, b)] n = true := by
  unfold covered
  rw [List.all_eq_true]
  intro i hi
  rw [List.mem_range] at hi
  simp only [List.any_cons, List.any_nil, Bool.or_false, Bool.or_eq_true, decide_eq_true_eq]
  omega

def zeros (n : Nat) : List Byte := List.replicate n 0
theorem zeros_length (n : Nat) : (zeros n).length = n := List.length_replicate

/-- The head of a command's envelope, with a MAGIC, for owner slot 0, of node 0, with SEC_NONCE 0 and a payload of 2 bytes with digest d. -/
def lead (magic : Nat) : List Byte := toBytes 4 magic ++ [7, 0x10, 0, 0, 0, 0, 0, 0, 2, 0, 0, 0]
def head (magic : Nat) (d : List Byte) : List Byte := lead magic ++ (zeros 16 ++ (d ++ zeros 5424))

/-- The module has the first 4032 bytes of that envelope; the fragments that end it, that leave a byte out, and that pass the buffer. -/
def first (magic : Nat) : List Byte := (head magic (zeros 48)).take 4032
def sFrag (magic src : Nat) (q : Datagram) : State :=
  let s := sReq q
  { s with sec := { s.sec with frags := [(requester src, [(0, first magic)])] } }
def second (magic k : Nat) : List Byte := (head magic (zeros 48)).drop 4032 ++ [BitVec.ofNat 8 k, 1]
def qFrag (off last : Nat) (l : List Byte) : Datagram := req 0x09 (BitVec.ofNat 64 (off + last * 2 ^ 32)) 0 l

theorem head_length (m : Nat) (d : List Byte) (h : d.length = 48) : (head m d).length = 5504 := by
  rw [head, List.length_append, List.length_append, List.length_append, zeros_length, zeros_length, h]; rfl

theorem first_length (m : Nat) : (first m).length = 4032 := by
  rw [first, List.length_take, head_length _ _ (zeros_length 48)]; rfl
theorem second_length (m k : Nat) : (second m k).length = 1474 := by
  rw [second, List.length_append, List.length_drop, head_length _ _ (zeros_length 48)]; rfl

theorem first_second (m k : Nat) : first m ++ second m k = head m (zeros 48) ++ [BitVec.ofNat 8 k, 1] := by
  rw [first, second, ← List.append_assoc, List.take_append_drop]

theorem frag_put (m k : Nat) : assembled [(0, first m), (4032, second m k)] =
    putBytes [] 0 (head m (zeros 48) ++ [BitVec.ofNat 8 k, 1]) := by
  rw [← first_second, ← putBytes_append, first_length]
  simp only [assembled, List.foldl_cons, List.foldl_nil, Nat.zero_add]

/-- The fragments make the envelope, of LEN 2, with its payload. -/
theorem frag_parts (m k : Nat) :
    areaBytes (assembled [(0, first m), (4032, second m k)]) 0 envBytes = head m (zeros 48) ∧
    areaBytes (assembled [(0, first m), (4032, second m k)]) envBytes 2 = [BitVec.ofNat 8 k, 1] ∧
    assembledLen [(0, first m), (4032, second m k)] = 2 := by
  have hl : (head m (zeros 48)).length = 5504 := head_length m _ (zeros_length 48)
  refine ⟨?_, ?_, ?_⟩
  · rw [frag_put, areaBytes_put _ _ _ (by simp [hl, envBytes]), List.drop_zero, List.take_append_of_le_length (by simp [hl, envBytes]),
      List.take_of_length_le (by simp [hl, envBytes])]
  · rw [frag_put, areaBytes_put _ _ _ (by simp [hl, envBytes]), List.drop_append_of_le_length (by simp [hl, envBytes]),
      List.drop_of_length_le (by simp [hl, envBytes])]
    rfl
  · unfold assembledLen
    rw [frag_put, areaBytes_put _ _ _ (by simp [hl])]
    rw [head, List.append_assoc, List.drop_append_of_le_length (by simp [lead, toBytes]),
      List.take_append_of_le_length (by simp [lead, toBytes])]
    rfl

/-- The fragments that end a command, that leave its last byte out, and that pass the buffer. -/
theorem witness_SignedCommands (m k : Nat) (hk : k < 256) : ∀ src ∈ [15, 17],
    let q := qFrag 4032 1 (second m k)
    let s := sFrag m src q
    let l := [(0, first m), (4032, second m k)]
    freshRequest s src q (· == 0x09) ∧ s.regsOk = true ∧ s.sec.owners.keys.Pairwise (· < ·) ∧ s.sec.cmdDone = none ∧
    s.withFragment src q = some l ∧ s.completes src q = true ∧ assembledLen l = 2 ∧ s.completedCmd src q = k ∧
    le (areaBytes (assembled l) envBytes (assembledLen l)) 0 1 = k := by
  intro src h
  have hp := frag_parts m k
  have act : ∀ src, (sFrag m src (qFrag 4032 1 (second m k))).iskActive = true := fun _ => (by decide +kernel : (sReq qInfo).iskActive = true)
  have hc := covered_two (first m) (second m k)
  simp only [first_length, second_length] at hc
  have h1 : BitVec.toNat (BitVec.ofNat 64 (4032 + 1 * 2 ^ 32)) % 2 ^ 32 = 4032 := by decide
  have hw : (sFrag m src (qFrag 4032 1 (second m k))).withFragment src (qFrag 4032 1 (second m k)) = some [(0, first m), (4032, second m k)] := by
    simp only [State.withFragment, qFrag, req, h1, second_length]
    simp [sFrag, Tab.get, Tab.find]
  have hm : Tab.get (assembled [(0, first m), (4032, second m k)]) 0 envBytes = BitVec.ofNat 8 k := by
    have := hp.2.1
    simp only [areaBytes, List.range, List.range.loop, List.map] at this
    exact (List.cons.inj this).1
  have hk2 : (BitVec.ofNat 8 k).toNat = k := by simp; omega
  simp only [List.mem_cons, List.not_mem_nil, or_false] at h
  refine ⟨?_, ?_, ?_, ?_, hw, ?_, hp.2.2, ?_, ?_⟩
  · refine fresh_of _ _ _ _ _ ?_ ?_ ?_ ?_ rfl
    · rcases h with rfl | rfl
      · simp only [State.mboxTakes, Bool.and_eq_true]
        exact ⟨⟨⟨⟨⟨⟨⟨rfl, act _⟩, rfl⟩, rfl⟩, rfl⟩, rfl⟩, rfl⟩, rfl⟩
      · simp only [State.mboxTakes, Bool.and_eq_true]
        refine ⟨⟨⟨⟨⟨⟨⟨rfl, act _⟩, rfl⟩, rfl⟩, rfl⟩, ?_⟩, rfl⟩, rfl⟩
        rw [show (sFrag m 17 (qFrag 4032 1 (second m k))).frameHead (17 - 16) = some (qFrag 4032 1 (second m k)) from rfl]
        simp
    · rcases h with rfl | rfl <;> rfl
    · exact (by decide : 6 < 7)
    · simp [qFrag, req, second_length]
  · rfl
  · exact (by decide : (sReq qInfo).sec.owners.keys.Pairwise (· < ·))
  · rfl
  · simp only [State.completes, hw, hp.2.2, hc _ (by decide : envBytes ≤ 4032 + 1474), hc _ (by decide : envBytes + 2 ≤ 4032 + 1474), Bool.or_true,
      Bool.and_true, Bool.or_eq_true]
    exact Or.inr (by decide : (BitVec.ofNat 64 (4032 + 1 * 2 ^ 32)).getLsbD 32 = true)
  · simp only [State.completedCmd, hw, hm, hk2]
  · rw [hp.2.2, hp.2.1]; simp [le, ofBytes]; omega

/-- A fragment that is not the last, and one that passes the buffer. -/
theorem witness_SignedCommands_more : ∀ src ∈ [15, 17],
    let q := qFrag 4032 0 [2, 1]
    let r := qFrag 65535 0 [2, 1]
    freshRequest (sFrag 0 src q) src q (· == 0x09) ∧ ((sFrag 0 src q).withFragment src q).isSome = true ∧
    (sFrag 0 src q).completes src q = false ∧ freshRequest (sFrag 0 src r) src r (· == 0x09) ∧ (sFrag 0 src r).withFragment src r = none := by
  intro src h
  simp only [List.mem_cons, List.not_mem_nil, or_false] at h
  rcases h with rfl | rfl <;>
    refine ⟨fresh_of _ _ _ _ _ ?_ ?_ ?_ ?_ rfl, ?_, ?_, fresh_of _ _ _ _ _ ?_ ?_ ?_ ?_ rfl, ?_⟩ <;> first | rfl | decide +kernel

/-- Without its MAGIC the command's code is 0x01. -/
theorem witness_SignedCommands_refused (s : State) (p : List Byte) (x : Bool) : s.envVerify (head 0 (zeros 48)) p x = 0x01 := by
  have h : le (head 0 (zeros 48)) 0 4 = 0 := by
    simp only [le, head, List.drop_zero]
    rw [List.take_append_of_le_length (by simp [lead, toBytes])]
    rfl
  simp [State.envVerify, envFormOk, h]

theorem lead_part (m off n : Nat) (d : List Byte) (h : off + n ≤ 16) : ((head m d).drop off).take n = ((lead m).drop off).take n := by
  have hl : (lead m).length = 16 := rfl
  rw [head, List.drop_append_of_le_length (by omega), List.take_append_of_le_length (by simp [hl]; omega)]

theorem zeros_part (n off k : Nat) (l : List Byte) (h : off + k ≤ n) : ((zeros n ++ l).drop off).take k = zeros k := by
  have hl := zeros_length n
  rw [List.drop_append_of_le_length (by omega), List.take_append_of_le_length (by simp [hl]; omega), zeros, zeros, List.drop_replicate,
    List.take_replicate]
  congr 1
  omega

theorem head_drop16 (m j : Nat) (d : List Byte) : (head m d).drop (16 + j) = (zeros 16 ++ (d ++ zeros 5424)).drop j := by
  rw [head, ← List.drop_drop, List.drop_append_of_le_length (by exact Nat.le_refl _), show (lead m).drop 16 = [] from rfl, List.nil_append]

theorem head_drop32 (m j : Nat) (d : List Byte) : (head m d).drop (16 + (16 + j)) = (d ++ zeros 5424).drop j := by
  rw [head_drop16, ← List.drop_drop, List.drop_append_of_le_length (Nat.le_of_eq (by rw [zeros_length])),
    List.drop_of_length_le (l := zeros 16) (Nat.le_of_eq (by rw [zeros_length])), List.nil_append]

theorem head_drop80 (m j : Nat) (d : List Byte) (h : d.length = 48) : (head m d).drop (16 + (16 + (48 + j))) = (zeros 5424 ++ []).drop j := by
  rw [head_drop32, ← List.drop_drop, List.drop_append_of_le_length (by omega), List.drop_of_length_le (l := d) (by omega), List.nil_append,
    List.append_nil]

theorem zeros_all (n : Nat) : (zeros n).all (· == 0) = true := by simp [zeros]

/-- With its MAGIC and a digest the envelope's form holds. -/
theorem head_form (d : List Byte) (h : d.length = 48) : envFormOk (head 0x47534B31 d) = true := by
  have k1 := zeros_part 16 0 2 (d ++ zeros 5424) (by decide)
  have k2 := zeros_part 16 2 6 (d ++ zeros 5424) (by decide)
  have k4 := zeros_part 5424 0 0x30 [] (by decide)
  have k5 := zeros_part 5424 (0x156D - 80) 0x13 [] (by decide)
  rw [← head_drop16 0x47534B31] at k1 k2
  rw [← head_drop80 0x47534B31 _ d h] at k4 k5
  simp only [envFormOk, envType, envKslot, envSvn, envLen, envTarget, le, zeroBytes, lead_part 0x47534B31 _ _ d (by decide : 0 + 4 ≤ 16),
    lead_part 0x47534B31 _ _ d (by decide : 4 + 1 ≤ 16), lead_part 0x47534B31 _ _ d (by decide : 5 + 1 ≤ 16),
    lead_part 0x47534B31 _ _ d (by decide : 8 + 4 ≤ 16), lead_part 0x47534B31 _ _ d (by decide : 12 + 4 ≤ 16),
    lead_part 0x47534B31 _ _ d (by decide : 6 + 2 ≤ 16), head_length _ d h]
  simp only [show 16 + 0 = 0x10 from rfl, show 16 + 2 = 0x12 from rfl, show 16 + (16 + (48 + 0)) = 0x50 from rfl,
    show 16 + (16 + (48 + (0x156D - 80))) = 0x156D from rfl] at k1 k2 k4 k5
  rw [k1, k2, k4, k5, zeros_all, zeros_all, zeros_all]
  simp only [show ofBytes (((lead 0x47534B31).drop 4).take 1) = 7 by decide]
  rw [show ((7 : Nat) == 7) = true from rfl, Bool.true_or]
  decide

/-- With the digest of its payload, and where both signatures hold with the keys of owner slot 0, the code is 0. -/
theorem witness_SignedCommands_code0 (s : State) (p d keys : List Byte) (h1 : d = sha384 p) (h2 : d.length = 48)
    (h3 : Tab.find s.sec.owners 0 = some keys) (h4 : keys = envKeys (head 0x47534B31 d))
    (h5 : edOk keys (envMessage (head 0x47534B31 d)) (envSigEd (head 0x47534B31 d)) = true)
    (h6 : mdOk keys (envMessage (head 0x47534B31 d)) (envSigMd (head 0x47534B31 d)) = true) (h7 : s.own.node = 0)
    (h8 : s.reg Reg.secNonce = 0) : s.envVerify (head 0x47534B31 d) p true = 0 := by
  have t1 : envType (head 0x47534B31 d) = 7 := by rw [envType, le, lead_part _ _ _ _ (by decide)]; decide
  have t2 : envKslot (head 0x47534B31 d) = 0x10 := by rw [envKslot, le, lead_part _ _ _ _ (by decide)]; decide
  have t3 : envTarget (head 0x47534B31 d) = 0 := by
    rw [envTarget, le, show 0x10 = 16 + 0 from rfl, head_drop16, zeros_part _ _ _ _ (by decide)]; decide
  have t4 : envNonce (head 0x47534B31 d) = 0 := by
    rw [envNonce, le, show 0x18 = 16 + 8 from rfl, head_drop16, zeros_part _ _ _ _ (by decide)]; decide
  have t5 : ((head 0x47534B31 d).drop 0x20).take 48 = d := by
    rw [show 0x20 = 16 + (16 + 0) from rfl, head_drop32, List.drop_zero, List.take_append_of_le_length (by omega), List.take_of_length_le (by omega)]
  have t6 : s.envKeyOk (head 0x47534B31 d) = true := by
    simp [State.envKeyOk, t2, h3, vendorSlot, h4]
  subst h4
  have t7 := head_form d h2
  subst h1
  simp [State.envVerify, t1, t2, t3, t4, t5, t6, t7, h5, h6, h7, h8, vendorSlot, bit]

/-! ### SPDM -/

/-- SPDM messages of each code, to a slot, a port and DOE. -/
def qSpdm (code : Nat) : Datagram := req 0x0A 0 0 [0x13, BitVec.ofNat 8 code, 0, 0]
def qVendor (op : Nat) : Datagram :=
  req 0x0A 0 0 ([0x13, 0xFE, 0, 0, 4, 0, 4, 0xE3, 0xA7, 0x01, 0x00, 0, 0, BitVec.ofNat 8 op])

theorem witness_SpdmMessages_codes :
    (∀ x ∈ [spdmGetVersion, spdmGetCapabilities, spdmNegotiate, spdmGetDigests, spdmGetCertificate, spdmChallenge, spdmGetMeasurements, 0x90],
      spdmCode (qSpdm x).payload = x ∧ (qSpdm x).op = 0x0A ∧ ∀ src ∈ [15, 17], (sReq (qSpdm x)).mboxTakes src (qSpdm x) (· == 0x0A) = true) ∧
    spdmSupported (qSpdm 0x90).payload = false ∧ spdmVendorOp (qVendor 1).payload = some 1 ∧ spdmVendorOp (qVendor 2).payload = some 2 ∧
    spdmSupported (qVendor 3).payload = false ∧
    (sReq (qSpdm 0x84)).regsOk = true ∧ (sReq (qSpdm 0x84)).host.bs1Done = true ∧ (sReq (qSpdm 0x84)).iskActive = true := by decide +kernel

/-! ### The host interface -/

/-- The module up to BS1 and up to the end of BS8, its link up. -/
def sHost1 : State := { sOwn with host := { sOwn.host with bs1Done := true, bs5Done := false } }
def sHost0 : State := { sOwn with host := { sOwn.host with bs1Done := false, bs5Done := false } }
def sHost : State :=
  let s : State := { sOwn with host := { sOwn.host with bs1Done := true, bs5Done := true, auxIn := true } }
  s.setField Reg.hifStat 0 1 1

theorem witness_HostAccesses_reads : ∀ pf ∈ [0, 1],
    sHost.regsOk = true ∧ sHost.readRefusal pf 0 = none ∧ sHost.readRefusal pf (0x24 - 0x24 % 8) = none ∧
    sHost.readRefusal pf 0x5FFFF8 = some 4 ∧ sHost0.readRefusal pf 0x600000 = some 5 ∧ sHost.readRefusal 0 Reg.recNonce = none := by
  decide +kernel

theorem witness_HostAccesses_writes :
    sHost.writeRefusal 0 Reg.fabNode = some 2 ∧ sHost.writeRefusal 1 0x5FFFF8 = some 4 ∧
    sHost0.writeRefusal 1 Reg.recFreeze = some 5 ∧
    sHost.writeRefusal 1 Reg.recFreeze = none ∧ sHost.unitWrite 1 Reg.recFreeze 0x55 = none ∧ (regInfo Reg.recFreeze).isSome = true ∧
    sHost.writeRefusal 0 Reg.hifAper = none ∧ sHost.writeRefusal 1 Reg.hifAper = none := by decide +kernel

theorem witness_HostAccesses_bar2 : ∀ pf ∈ [0, 1],
    sHost.bar2Refusal pf 0 8 = none ∧ sHost1.bar2Refusal pf 0 8 = some 5 ∧
    (sHost.setReg (regKey pf Reg.hifAper) (2 ^ 48 - 2 ^ 30)).bar2Refusal pf (2 ^ 30 - 4) 8 = some 6 ∧
    (sHost.memRead (sHost.bar2Addr pf 0) 8).2.1 = none := by decide +kernel

theorem witness_LinkAndOffline :
    sHost1.host.auxIn = true ∧ sHost1.flag Reg.hifStat 0 = false ∧ sHost.flag Reg.hifStat 0 = true ∧
    sHost.writeRefusal 1 Reg.hifOffline = none ∧ (1 : Word).toNat.testBit 0 = true ∧ sHost.host.offlineT = none ∧
    (List.range 16).any (fun e => pisteCode (sHost.reg (Reg.fabPisteA e)) == 0) = false := by decide +kernel

end Sys2Proof.Tests
end

/-! PROOFS. The machine as a whole: every step answers (R20). -/

namespace Sys2Proof.Machine
open Sys2Proof

/-- Every command answers a next state, with what it raised handed to the recorder: the dispatch calls one meaning for each command, and
each of these does. -/
theorem exec_recorded (i : Instr) (s : State) : Recorded s (exec i s) :=
  match i with
  | .coldPowerOn badStores => execColdPowerOn_recorded badStores s
  | .bringupStageComplete report => execBringupStageComplete_recorded report s
  | .bringupStageTimeout => execBringupStageTimeout_recorded s
  | .mainInputRangeChange input => execMainInputRangeChange_recorded input s
  | .auxInputLoss => execAuxInputLoss_recorded s
  | .dispatcherScan => execDispatcherScan_recorded s
  | .launch entry => execLaunch_recorded entry s
  | .add x => execAdd_recorded x s
  | .sub x => execSub_recorded x s
  | .mul x => execMul_recorded x s
  | .mulhu x => execMulhu_recorded x s
  | .and x => execAnd_recorded x s
  | .or x => execOr_recorded x s
  | .xor x => execXor_recorded x s
  | .shl x => execShl_recorded x s
  | .shr x => execShr_recorded x s
  | .sar x => execSar_recorded x s
  | .slt x => execSlt_recorded x s
  | .sltu x => execSltu_recorded x s
  | .min x => execMin_recorded x s
  | .max x => execMax_recorded x s
  | .addi x => execAddi_recorded x s
  | .andi x => execAndi_recorded x s
  | .ori x => execOri_recorded x s
  | .lui x => execLui_recorded x s
  | .movi x => execMovi_recorded x s
  | .rdsr x => execRdsr_recorded x s
  | .wrsr x => execWrsr_recorded x s
  | .nop x => execNop_recorded x s
  | .beq x => execBeq_recorded x s
  | .bne x => execBne_recorded x s
  | .blt x => execBlt_recorded x s
  | .bge x => execBge_recorded x s
  | .bltu x => execBltu_recorded x s
  | .bgeu x => execBgeu_recorded x s
  | .jal x => execJal_recorded x s
  | .jr x => execJr_recorded x s
  | .bpany x => execBpany_recorded x s
  | .bpnone x => execBpnone_recorded x s
  | .endProgram x => execEndProgram_recorded x s
  | .programEndComplete core => execProgramEndComplete_recorded core s
  | .lds x => execLds_recorded x s
  | .sts x => execSts_recorded x s
  | .ldv x => execLdv_recorded x s
  | .stv x => execStv_recorded x s
  | .ldt x => execLdt_recorded x s
  | .stt x => execStt_recorded x s
  | .tset x => execTset_recorded x s
  | .vadd x => execVadd_recorded x s
  | .vsub x => execVsub_recorded x s
  | .vmul x => execVmul_recorded x s
  | .vfma x hw => execVfma_recorded x hw s
  | .vdiv x => execVdiv_recorded x s
  | .vsqrt x => execVsqrt_recorded x s
  | .vmin x => execVmin_recorded x s
  | .vmax x => execVmax_recorded x s
  | .vabs x => execVabs_recorded x s
  | .vneg x => execVneg_recorded x s
  | .vceq x => execVceq_recorded x s
  | .vclt x => execVclt_recorded x s
  | .vcle x => execVcle_recorded x s
  | .vsel x => execVsel_recorded x s
  | .vbcst x => execVbcst_recorded x s
  | .vred x => execVred_recorded x s
  | .vrcp x => execVrcp_recorded x s
  | .vrsq x => execVrsq_recorded x s
  | .vexp2 x => execVexp2_recorded x s
  | .vlog2 x => execVlog2_recorded x s
  | .vexp x => execVexp_recorded x s
  | .vln x => execVln_recorded x s
  | .vsin x => execVsin_recorded x s
  | .vcos x => execVcos_recorded x s
  | .vtanh x => execVtanh_recorded x s
  | .vsigm x => execVsigm_recorded x s
  | .verf x => execVerf_recorded x s
  | .vsplit x => execVsplit_recorded x s
  | .viadd x => execViadd_recorded x s
  | .vimul x => execVimul_recorded x s
  | .vcvtif x => execVcvtif_recorded x s
  | .vcvtfi x => execVcvtfi_recorded x s
  | .mwld x => execMwld_recorded x s
  | .weightLoadStart core plane => execWeightLoadStart_recorded core plane s
  | .weightLoadComplete core plane => execWeightLoadComplete_recorded core plane s
  | .manc x => execManc_recorded x s
  | .prescanComplete core => execPrescanComplete_recorded core s
  | .mpass x => execMpass_recorded x s
  | .matrixPassStart core waited => execMatrixPassStart_recorded core waited s
  | .matrixPassComplete core frzFeed frzDrain frzBoth hw => execMatrixPassComplete_recorded core frzFeed frzDrain frzBoth hw s
  | .mdrn x => execMdrn_recorded x s
  | .matrixDrainComplete core hw => execMatrixDrainComplete_recorded core hw s
  | .mmode x => execMmode_recorded x s
  | .mrdmode x => execMrdmode_recorded x s
  | .dmac x => execDmac_recorded x s
  | .dmacComplete core hw => execDmacComplete_recorded core hw s
  | .put x => execPut_recorded x s
  | .get x => execGet_recorded x s
  | .acc x => execAcc_recorded x s
  | .bcast x => execBcast_recorded x s
  | .ssig x => execSsig_recorded x s
  | .swait x => execSwait_recorded x s
  | .swaitTimeout core => execSwaitTimeout_recorded core s
  | .sset x => execSset_recorded x s
  | .srd x => execSrd_recorded x s
  | .fence x => execFence_recorded x s
  | .fenceComplete core => execFenceComplete_recorded core s
  | .garv x => execGarv_recorded x s
  | .trd x => execTrd_recorded x s
  | .twait x => execTwait_recorded x s
  | .twaitExpire core => execTwaitExpire_recorded core s
  | .syld x => execSyld_recorded x s
  | .smark x => execSmark_recorded x s
  | .smisr x => execSmisr_recorded x s
  | .srdm x => execSrdm_recorded x s
  | .hifCexc0Write pf core value => execHifCexc0Write_recorded pf core value s
  | .frameReceive port frame => execFrameReceive_recorded port frame s
  | .lossOfLock port => execLossOfLock_recorded port s
  | .serWindowEnd port counts => execSerWindowEnd_recorded port counts s
  | .laneFail port lane => execLaneFail_recorded port lane s
  | .trainingStateComplete port found => execTrainingStateComplete_recorded port found s
  | .trainingStateTimeout port => execTrainingStateTimeout_recorded port s
  | .trainRetry port => execTrainRetry_recorded port s
  | .retrain pf port value => execRetrain_recorded pf port value s
  | .portEnableWrite pf port value => execPortEnableWrite_recorded pf port value s
  | .packetTransmit port => execPacketTransmit_recorded port s
  | .transitPacket port vc => execTransitPacket_recorded port vc s
  | .stallDrop port vc => execStallDrop_recorded port vc s
  | .floodCreditTimeout port => execFloodCreditTimeout_recorded port s
  | .floodSeenExpire index => execFloodSeenExpire_recorded index s
  | .putReceive port vc => execPutReceive_recorded port vc s
  | .getRequestReceive port vc => execGetRequestReceive_recorded port vc s
  | .getResponseReceive port vc => execGetResponseReceive_recorded port vc s
  | .accReceive port vc hw => execAccReceive_recorded port vc hw s
  | .windowReload nme job source => execWindowReload_recorded nme job source s
  | .zeroChunkComplete nme handle => execZeroChunkComplete_recorded nme handle s
  | .mirrorReceive port vc => execMirrorReceive_recorded port vc s
  | .eackReceive port vc => execEackReceive_recorded port vc s
  | .eackCoalesceExpire source job => execEackCoalesceExpire_recorded source job s
  | .retransmitTimeout record => execRetransmitTimeout_recorded record s
  | .fabWithdrawGo pf value => execFabWithdrawGo_recorded pf value s
  | .withdrawReceive port vc => execWithdrawReceive_recorded port vc s
  | .withdrawTReached tile => execWithdrawTReached_recorded tile s
  | .withdrawReset tile => execWithdrawReset_recorded tile s
  | .fabNodeWrite pf value => execFabNodeWrite_recorded pf value s
  | .pisteWrite pf entry half value => execPisteWrite_recorded pf entry half value s
  | .quarantineEnd entry => execQuarantineEnd_recorded entry s
  | .slewStep domain => execSlewStep_recorded domain s
  | .timeSetWrite pf domain value => execTimeSetWrite_recorded pf domain value s
  | .timeRateWrite pf domain value => execTimeRateWrite_recorded pf domain value s
  | .timeSlewWrite pf domain value => execTimeSlewWrite_recorded pf domain value s
  | .timeCfgWrite pf domain value => execTimeCfgWrite_recorded pf domain value s
  | .sync port vc => execSync_recorded port vc s
  | .followUp port vc => execFollowUp_recorded port vc s
  | .pdelayReq port vc => execPdelayReq_recorded port vc s
  | .pdelayResp port vc => execPdelayResp_recorded port vc s
  | .pdelayRespFollowUp port vc => execPdelayRespFollowUp_recorded port vc s
  | .announce port vc => execAnnounce_recorded port vc s
  | .syncSendTimer domain => execSyncSendTimer_recorded domain s
  | .pdelaySendTimer port => execPdelaySendTimer_recorded port s
  | .pdelayTimeout port => execPdelayTimeout_recorded port s
  | .followUpTimeout port => execFollowUpTimeout_recorded port s
  | .syncLossTimeout domain => execSyncLossTimeout_recorded domain s
  | .switchSlew pf => execSwitchSlew_recorded pf s
  | .switchMeet pf => execSwitchMeet_recorded pf s
  | .switchComplete => execSwitchComplete_recorded s
  | .timePacket port vc => execTimePacket_recorded port vc s
  | .clockRegionTransition kind index change => execClockRegionTransition_recorded kind index change s
  | .stretchTotalReport kind index => execStretchTotalReport_recorded kind index s
  | .gateLoad pf value => execGateLoad_recorded pf value s
  | .gateLoadComplete slot => execGateLoadComplete_recorded slot s
  | .markerReceive => execMarkerReceive_recorded s
  | .decisionInstant slot index => execDecisionInstant_recorded slot index s
  | .releaseComplete nme handle => execReleaseComplete_recorded nme handle s
  | .optimizerComplete slot index => execOptimizerComplete_recorded slot index s
  | .commitTest slot => execCommitTest_recorded slot s
  | .hold port vc => execHold_recorded port vc s
  | .commitPoint slot => execCommitPoint_recorded slot s
  | .resolveCommit pf slot => execResolveCommit_recorded pf slot s
  | .resolveSkip pf slot => execResolveSkip_recorded pf slot s
  | .resolveAbort pf slot => execResolveAbort_recorded pf slot s
  | .conversionComplete slot => execConversionComplete_recorded slot s
  | .bcastReceive port vc => execBcastReceive_recorded port vc s
  | .back port vc => execBack_recorded port vc s
  | .broadcastReceivedTimeout tree child => execBroadcastReceivedTimeout_recorded tree child s
  | .broadcastDoneTimeout tree child => execBroadcastDoneTimeout_recorded tree child s
  | .statclr pf value => execStatclr_recorded pf value s
  | .abortReceive port vc => execAbortReceive_recorded port vc s
  | .nmeRingScan nme => execNmeRingScan_recorded nme s
  | .arm nme => execArm_recorded nme s
  | .disarm nme => execDisarm_recorded nme s
  | .cvtw nme => execCvtw_recorded nme s
  | .ckcvt nme => execCkcvt_recorded nme s
  | .cbwarm nme => execCbwarm_recorded nme s
  | .cbwend nme => execCbwend_recorded nme s
  | .hash nme => execHash_recorded nme s
  | .scrubnow nme => execScrubnow_recorded nme s
  | .zero nme => execZero_recorded nme s
  | .nmeCommandComplete nme => execNmeCommandComplete_recorded nme s
  | .scrubRead nme errs => execScrubRead_recorded nme errs s
  | .hbmTempSample nme celsius => execHbmTempSample_recorded nme celsius s
  | .ecsCountRead nme count => execEcsCountRead_recorded nme count s
  | .nmeWspillBaseWrite pf nme value => execNmeWspillBaseWrite_recorded pf nme value s
  | .quickScreenTimer phys => execQuickScreenTimer_recorded phys s
  | .hbTimer phys => execHbTimer_recorded phys s
  | .sectionRunComplete phys misr => execSectionRunComplete_recorded phys misr s
  | .sectionTimeout phys => execSectionTimeout_recorded phys s
  | .sampleReexecComplete tile slot digest => execSampleReexecComplete_recorded tile slot digest s
  | .sampleTimeout tile slot => execSampleTimeout_recorded tile slot s
  | .transientExpire phys => execTransientExpire_recorded phys s
  | .tileCorrWindowExpire tile => execTileCorrWindowExpire_recorded tile s
  | .screen pf value => execScreen_recorded pf value s
  | .modscreen pf value => execModscreen_recorded pf value s
  | .rcmp pf value => execRcmp_recorded pf value s
  | .grmCmdComplete => execGrmCmdComplete_recorded s
  | .grmProbWrite pf value => execGrmProbWrite_recorded pf value s
  | .progressWatchdog core engine => execProgressWatchdog_recorded core engine s
  | .waitWatchdog core => execWaitWatchdog_recorded core s
  | .nmeWatchdog nme => execNmeWatchdog_recorded nme s
  | .fabricTileWatchdog tile => execFabricTileWatchdog_recorded tile s
  | .debugPortTimeout entry part => execDebugPortTimeout_recorded entry part s
  | .captureComplete entry => execCaptureComplete_recorded entry s
  | .drainWindowClose entry dropped => execDrainWindowClose_recorded entry dropped s
  | .nmeAbsorbTimeout nme => execNmeAbsorbTimeout_recorded nme s
  | .resetComplete entry absorbed => execResetComplete_recorded entry absorbed s
  | .waitForGraphBuilt slot => execWaitForGraphBuilt_recorded slot s
  | .rstReq pf value => execRstReq_recorded pf value s
  | .rstIsolWrite pf value => execRstIsolWrite_recorded pf value s
  | .ckpRequestedTime => execCkpRequestedTime_recorded s
  | .ewMonitorEval observed => execEwMonitorEval_recorded observed s
  | .take pf value => execTake_recorded pf value s
  | .verify pf value => execVerify_recorded pf value s
  | .restore pf value => execRestore_recorded pf value s
  | .nocommon pf value => execNocommon_recorded pf value s
  | .release pf value => execRelease_recorded pf value s
  | .mirror pf value => execMirror_recorded pf value s
  | .ckpSweepComplete => execCkpSweepComplete_recorded s
  | .ckpSignComplete => execCkpSignComplete_recorded s
  | .hostVerifyComplete gen => execHostVerifyComplete_recorded gen s
  | .ckpCommandComplete => execCkpCommandComplete_recorded s
  | .managementCycle check overrun => execManagementCycle_recorded check overrun s
  | .stateCopyReceive good => execStateCopyReceive_recorded good s
  | .standbyStale => execStandbyStale_recorded s
  | .iskWatchdogExpire controller => execIskWatchdogExpire_recorded controller s
  | .iskSupplyLoss controller => execIskSupplyLoss_recorded controller s
  | .heartbeatLapse => execHeartbeatLapse_recorded s
  | .ownershipClaim controller => execOwnershipClaim_recorded controller s
  | .bootPreferTimeout => execBootPreferTimeout_recorded s
  | .diagnosisComplete controller pass check => execDiagnosisComplete_recorded controller pass check s
  | .sensorSample sensor reading => execSensorSample_recorded sensor reading s
  | .sensorInvalidTimeout sensor => execSensorInvalidTimeout_recorded sensor s
  | .sensorClearTimeout sensor => execSensorClearTimeout_recorded sensor s
  | .thermalClockStep cluster => execThermalClockStep_recorded cluster s
  | .thermalTrip sensor => execThermalTrip_recorded sensor s
  | .mgmtPortLinkChange port up => execMgmtPortLinkChange_recorded port up s
  | .impDatagramReceive port datagram => execImpDatagramReceive_recorded port datagram s
  | .info src request => execInfo_recorded src request s
  | .rdreg src request => execRdreg_recorded src request s
  | .wrreg src request => execWrreg_recorded src request s
  | .rdrec src request => execRdrec_recorded src request s
  | .clrrec src request => execClrrec_recorded src request s
  | .sensors src request => execSensors_recorded src request s
  | .freeze src request => execFreeze_recorded src request s
  | .swap src request => execSwap_recorded src request s
  | .signed src request => execSigned_recorded src request s
  | .ownerset src request => execOwnerset_recorded src request s
  | .ownerdel src request => execOwnerdel_recorded src request s
  | .revoke src request => execRevoke_recorded src request s
  | .svncommit src request => execSvncommit_recorded src request s
  | .keyinst src request => execKeyinst_recorded src request s
  | .keydel src request => execKeydel_recorded src request s
  | .coreset src request => execCoreset_recorded src request s
  | .spdm src request => execSpdm_recorded src request s
  | .getVersion src request => execGetVersion_recorded src request s
  | .getCapabilities src request => execGetCapabilities_recorded src request s
  | .negotiateAlgorithms src request => execNegotiateAlgorithms_recorded src request s
  | .getDigests src request => execGetDigests_recorded src request s
  | .getCertificate src request => execGetCertificate_recorded src request s
  | .challenge src request => execChallenge_recorded src request s
  | .getMeasurements src request => execGetMeasurements_recorded src request s
  | .getMdSig src request => execGetMdSig_recorded src request s
  | .getMdCert src request => execGetMdCert_recorded src request s
  | .spdmUnsupportedRequest src request => execSpdmUnsupportedRequest_recorded src request s
  | .fwstageBegin src request => execFwstageBegin_recorded src request s
  | .fwstageData src request => execFwstageData_recorded src request s
  | .fwstageFinish src request => execFwstageFinish_recorded src request s
  | .fwstageCancel src request => execFwstageCancel_recorded src request s
  | .netcfg src request => execNetcfg_recorded src request s
  | .calioRead src request => execCalioRead_recorded src request s
  | .calioOpen src request => execCalioOpen_recorded src request s
  | .calioWrite src request => execCalioWrite_recorded src request s
  | .calioCapture src request => execCalioCapture_recorded src request s
  | .calioCommit src request => execCalioCommit_recorded src request s
  | .calioCancel src request => execCalioCancel_recorded src request s
  | .report src request => execReport_recorded src request s
  | .mailboxCommandComplete src => execMailboxCommandComplete_recorded src s
  | .recorderFreezeBegin => execRecorderFreezeBegin_recorded s
  | .recorderFreezeEnd => execRecorderFreezeEnd_recorded s
  | .freezeMaxExpire => execFreezeMaxExpire_recorded s
  | .thaw pf value => execThaw_recorded pf value s
  | .flashDrain count => execFlashDrain_recorded count s
  | .counterWrap unit index => execCounterWrap_recorded unit index s
  | .pmcCounterWrite pf offset value same => execPmcCounterWrite_recorded pf offset value same s
  | .trcCtlWrite pf core value => execTrcCtlWrite_recorded pf core value s
  | .trcRingWrite pf core base value => execTrcRingWrite_recorded pf core base value s
  | .traceDrainBlock core => execTraceDrainBlock_recorded core s
  | .gstopRequestWrite pf value => execGstopRequestWrite_recorded pf value s
  | .globalStop => execGlobalStop_recorded s
  | .globalStopCaptureComplete => execGlobalStopCaptureComplete_recorded s
  | .dumpComplete slot => execDumpComplete_recorded slot s
  | .linkUp rate width => execLinkUp_recorded rate width s
  | .linkDown => execLinkDown_recorded s
  | .perstAssert => execPerstAssert_recorded s
  | .hotReset => execHotReset_recorded s
  | .functionLevelReset pf => execFunctionLevelReset_recorded pf s
  | .registerWrite pf offset bytes values => execRegisterWrite_recorded pf offset bytes values s
  | .hifAperWrite pf value => execHifAperWrite_recorded pf value s
  | .bar2Write pf offset data => execBar2Write_recorded pf offset data s
  | .bar2Read pf offset bytes => execBar2Read_recorded pf offset bytes s
  | .offlineGo pf value => execOfflineGo_recorded pf value s
  | .offlinePowerRemove => execOfflinePowerRemove_recorded s
  | .fabricTileInternalError tile => execFabricTileInternalError_recorded tile s
  | .illegalInstruction core word => execIllegalInstruction_recorded core word s
  | .registerRead pf offset bytes => execRegisterRead_recorded pf offset bytes s

/-- So does the step of a queue that is not empty. -/
theorem step_recorded {s : State} {c : Instr} {rest : List Instr} (h : s.pending = c :: rest) :
    Recorded { s with pending := rest } (step s) := by
  unfold step
  rw [h]
  exact exec_recorded c _

/-- Settles O3: an empty queue ticks, and the command at the front of any other answers (log entries 3 and 80). -/
theorem everyStepAnswers : Obligations.EveryStepAnswers := by
  intro s
  cases h : s.pending with
  | nil => exact ⟨s.tick, by simp only [step, h]⟩
  | cons c rest =>
    obtain ⟨t, ht, _⟩ := step_recorded h
    exact ⟨t, ht⟩

end Sys2Proof.Machine

/-! PROOFS. What the log of the module keeps, and what an access of HBM leaves alone. -/

namespace Sys2Proof.Machine
open Sys2Proof

/-! ### What has left the module stays in its log -/

theorem out_of_eq {s t : State} (h : t.out = s.out) : s.out <+: t.out := ⟨[], by rw [List.append_nil, h]⟩

theorem State.msix_out (s : State) (pf v : Nat) : s.out <+: (s.msix pf v).out := by
  unfold State.msix
  split
  · exact List.prefix_rfl
  · exact List.prefix_append _ _

theorem State.irq_out (s : State) (pf v : Nat) : s.out <+: (s.irq pf v).out := by
  unfold State.irq
  dsimp only
  split
  · exact List.prefix_rfl
  · split
    · exact State.msix_out (s.setFlag (regKey pf Reg.hifIrqStat) v) pf v
    · exact List.prefix_rfl

theorem foldl_out {β : Type} (l : List β) (f : State → β → State) (h : ∀ s b, s.out <+: (f s b).out) (s : State) :
    s.out <+: (l.foldl f s).out := by
  induction l generalizing s with
  | nil => exact List.prefix_rfl
  | cons b l ih => exact (h s b).trans (ih (f s b))

/-- A global counter sends no message, whatever it wraps to. -/
theorem State.pmcAdd_global_out (s : State) (j n : Nat) : (s.pmcAdd .global j n).out = s.out := by
  unfold State.pmcAdd
  dsimp only
  split
  · rfl
  · split
    · split <;> rfl
    · rfl

theorem State.globalEvent_out (s : State) (ev : Nat) : s.out <+: (s.globalEvent ev).out := by
  unfold State.globalEvent State.pmcGlobal
  refine foldl_out _ _ (fun t j => ?_) s
  dsimp only
  split
  · exact out_of_eq (State.pmcAdd_global_out t j 1)
  · exact List.prefix_rfl

theorem State.writeOne_out (s : State) (e : Event) : s.out <+: (s.writeOne e).out := by
  unfold State.writeOne
  split
  · exact List.prefix_rfl
  · split
    · exact List.prefix_rfl
    · dsimp only
      refine List.IsPrefix.trans ?_ (State.irq_out _ _ _)
      refine List.IsPrefix.trans ?_ (State.globalEvent_out _ _)
      exact List.prefix_rfl

theorem State.writeEvent_out (s : State) (e : Event) : s.out <+: (s.writeEvent e).out := by
  unfold State.writeEvent
  dsimp only
  refine List.IsPrefix.trans ?_ (State.writeOne_out _ e)
  split
  · exact State.writeOne_out s (timeReference e)
  · split <;> exact List.prefix_rfl

theorem State.takeEvent_out (s : State) (e : Event) : s.out <+: (s.takeEvent e).out := by
  unfold State.takeEvent
  split
  · split <;> exact List.prefix_rfl
  · split
    · split <;> exact List.prefix_rfl
    · exact State.writeEvent_out s e

/-- Handing the raised events to the recorder takes back nothing that has left the module. -/
theorem State.flush_out (s : State) : s.out <+: s.flush.out := by
  unfold State.flush
  exact foldl_out _ _ State.takeEvent_out { s with recorder := { s.recorder with raised := [] } }

/-! ### What an access of HBM can change -/

/-- A state that differs from another only as reads and writes of HBM make it differ: bytes and ECC, the NMEs that scrub and repair,
free values, and the module's books. -/
def MemFrame (s t : State) : Prop :=
  t = { s with hbm := t.hbm, ecc := t.ecc, nmes := t.nmes, freeIndex := t.freeIndex, regs := t.regs, traces := t.traces,
               queues := t.queues, recorder := t.recorder, out := t.out }

theorem MemFrame.refl (s : State) : MemFrame s s := by cases s; rfl

theorem MemFrame.trans {s t u : State} (h : MemFrame s t) (g : MemFrame t u) : MemFrame s u := by
  unfold MemFrame at *
  rw [g, h]

theorem MemFrame.cores {s t : State} (h : MemFrame s t) : t.cores = s.cores := by rw [h]

theorem Books.memFrame {s t : State} (h : Books s t) : MemFrame s t := by
  unfold MemFrame
  rw [h.shape]

theorem State.setReg_memFrame (s : State) (k v : Nat) : MemFrame s (s.setReg k v) := by cases s; rfl
theorem State.count_memFrame (s : State) (k : Nat) : MemFrame s (s.count k) := by cases s; rfl
theorem State.setEcc_memFrame (s : State) (l e : Nat) (p : Bool) : MemFrame s (s.setEcc l e p) := by cases s; rfl
theorem State.setNme_memFrame (s : State) (i : Nat) (x : Nme) : MemFrame s (s.setNme i x) := by cases s; rfl
theorem State.fresh_memFrame (s : State) : MemFrame s s.fresh.2 := by cases s; rfl
theorem State.setHbm_memFrame (s : State) (m : Tab Byte) : MemFrame s { s with hbm := m } := by cases s; rfl

theorem State.bankFull_memFrame (s : State) (i bank : Nat) : MemFrame s (s.bankFull i bank) := by
  unfold State.bankFull
  dsimp only
  split
  · exact MemFrame.refl s
  · exact ((State.setNme_memFrame s i _).trans (State.setReg_memFrame _ _ _)).trans (Books.raise _ _ _ _ _).memFrame

theorem State.sppr_memFrame (s : State) (i row : Nat) : MemFrame s (s.sppr i row) := by
  unfold State.sppr
  dsimp only
  split
  · have h (x : Nme) : MemFrame s (((s.setNme i x).count (Reg.nmeSppr i)).raise 0x6004 (3, i) [(16, i), (64, row)]) :=
      ((State.setNme_memFrame s i x).trans (State.count_memFrame _ _)).trans (Books.raise _ _ _ _ _).memFrame
    split
    · exact h _
    · exact (h _).trans (State.bankFull_memFrame _ _ _)
  · exact State.bankFull_memFrame s i _

theorem State.passTick_memFrame (s : State) (i : Nat) : MemFrame s (s.passTick i) := by
  unfold State.passTick
  dsimp only
  split
  · exact MemFrame.refl s
  · exact State.setNme_memFrame s i _

theorem State.corrected_memFrame (s : State) (i a : Nat) : MemFrame s (s.corrected i a) := by
  have h (x : Nme) : MemFrame s (((s.passTick i).setNme i x).count (Reg.nmeEccCe i)) :=
    ((State.passTick_memFrame s i).trans (State.setNme_memFrame _ i x)).trans (State.count_memFrame _ _)
  have repaired (t : State) (b : Bool) (ht : MemFrame s t) : MemFrame s (if b then t.sppr i (rowOf a) else t) := by
    split
    · exact ht.trans (State.sppr_memFrame t i _)
    · exact ht
  unfold State.corrected
  dsimp only
  split
  · exact repaired _ _ ((h _).trans (Books.raise _ _ _ _ _).memFrame)
  · exact repaired _ _ (h _)

theorem State.readLine_memFrame (s : State) (line : Nat) : MemFrame s (s.readLine line).2 := by
  have hb := (Books.hbmEvent s (line / 2 ^ 31) 0x020).memFrame
  unfold State.readLine
  dsimp only
  split
  · split
    · exact hb.trans (State.count_memFrame _ _)
    · exact hb
  · split
    · have hc := (hb.trans (State.setEcc_memFrame _ line 0 (s.linePoison line))).trans
        (State.corrected_memFrame _ (line / 2 ^ 31) (line % 2 ^ 31 * 64))
      split
      · exact hc.trans (State.count_memFrame _ _)
      · exact hc
    · have hf := hb.trans (State.fresh_memFrame _)
      split
      · exact hf.trans (State.setHbm_memFrame _ _)
      · split
        · exact (hf.trans (State.setEcc_memFrame _ _ _ _)).trans (State.count_memFrame _ _)
        · exact (hb.trans (State.setEcc_memFrame _ _ _ _)).trans (State.count_memFrame _ _)

theorem State.writeLine_memFrame (s : State) (k : Nat) (l : List Byte) : MemFrame s (s.writeLine k l) := by
  have hb := (Books.hbmEvent s (k / 64 / 2 ^ 31) 0x021).memFrame
  unfold State.writeLine
  dsimp only
  split
  · exact (hb.trans (State.setEcc_memFrame _ _ _ _)).trans (State.setHbm_memFrame _ _)
  · have hr (m : Tab Byte) := (hb.trans (State.readLine_memFrame _ (k / 64))).trans (State.setHbm_memFrame _ m)
    split
    · exact (hr _).trans (State.setEcc_memFrame _ _ _ _)
    · exact ((hr _).trans (State.setEcc_memFrame _ _ _ _)).trans (Books.raise _ _ _ _ _).memFrame

theorem State.readPieces_memFrame (s : State) (l : List (Nat × Nat)) : MemFrame s (s.readPieces l).2.2 := by
  induction l generalizing s with
  | nil => exact MemFrame.refl s
  | cons e t ih =>
    obtain ⟨addr, n⟩ := e
    simp only [State.readPieces]
    split
    · exact MemFrame.refl s
    · split
      · exact (State.readLine_memFrame s _).trans (ih _)
      · exact State.readLine_memFrame s _

theorem State.writePieces_memFrame (s : State) (l : List (Nat × Nat)) (bytes : List Byte) : MemFrame s (s.writePieces l bytes) := by
  induction l generalizing s bytes with
  | nil => exact MemFrame.refl s
  | cons e t ih =>
    obtain ⟨addr, n⟩ := e
    simp only [State.writePieces]
    split
    · exact ih s _
    · exact (State.writeLine_memFrame s _ _).trans (ih _ _)

/-- A read of HBM, whatever it meets, changes nothing beyond HBM but the books. -/
theorem State.memRead_memFrame (s : State) (addr n : Nat) : MemFrame s (s.memRead addr n).2.2 := State.readPieces_memFrame s _

/-- And so does a write. -/
theorem State.memWrite_memFrame (s : State) (addr : Nat) (bytes : List Byte) : MemFrame s (s.memWrite addr bytes) :=
  State.writePieces_memFrame s _ _

end Sys2Proof.Machine

/-! PROOFS. Register and BAR2 accesses of the host (R11, R13, R14, R460-R462). -/

namespace Sys2Proof.Machine
open Sys2Proof

/-! ### Refused accesses (R460, R462) -/

theorem State.reg_congr {s t : State} (h : t.regs = s.regs) (k : Nat) : t.reg k = s.reg k := by
  unfold State.reg
  rw [h]

/-- A counter of the layout of R92 reads one more, or stays full. -/
theorem State.reg_count {s : State} (k : Nat) (h : s.regsWf) : (s.count k).reg k = min (s.field k 0 48 + 1) (2 ^ 48 - 1) := by
  rw [State.count, State.countN, State.reg_setReg _ _ h]
  exact Nat.mod_eq_of_lt (by omega)

theorem State.reg_count_ne (s : State) {k j : Nat} (h : j ≠ k) : (s.count k).reg j = s.reg j := s.reg_setReg_ne _ h

/-- What HIF_REFUSE shows of a refused access: KIND, function, BAR2 and the offset (R462). -/
def refuseShown (kind pf : Nat) (bar2 : Bool) (off : Nat) : Nat := kind % 16 + pf % 2 * 16 + b2n bar2 * 32 + off % 2 ^ 40 * 256

theorem refuseShown_lt (kind pf : Nat) (bar2 : Bool) (off : Nat) : refuseShown kind pf bar2 off < 2 ^ 64 := by
  have hb : b2n bar2 ≤ 1 := by cases bar2 <;> decide
  unfold refuseShown
  omega

/-- A refusal changes two registers; the event it may raise and the time of that event are no registers. -/
theorem State.refuse_regs (s : State) (kind pf : Nat) (bar2 : Bool) (off : Nat) :
    (s.refuse kind pf bar2 off).regs = ((s.count Reg.hifRefused).setReg Reg.hifRefuse (refuseShown kind pf bar2 off)).regs := by
  unfold State.refuse
  dsimp only
  split <;> rfl

@[simp] theorem State.refuse_cores (s : State) (kind pf : Nat) (bar2 : Bool) (off : Nat) : (s.refuse kind pf bar2 off).cores = s.cores := by
  unfold State.refuse
  dsimp only
  split <;> rfl

@[simp] theorem State.refuse_hbm (s : State) (kind pf : Nat) (bar2 : Bool) (off : Nat) : (s.refuse kind pf bar2 off).hbm = s.hbm := by
  unfold State.refuse
  dsimp only
  split <;> rfl

@[simp] theorem State.refuse_out (s : State) (kind pf : Nat) (bar2 : Bool) (off : Nat) : (s.refuse kind pf bar2 off).out = s.out := by
  unfold State.refuse
  dsimp only
  split <;> rfl

/-- What a refused access leaves: it is counted, HIF_REFUSE shows it, and nothing else but the books is touched. -/
structure RefusedAccess (s : State) (pf off : Nat) (t : State) (kind : Nat) (bar2 : Bool) : Prop where
  counted : t.reg Reg.hifRefused = min (s.field Reg.hifRefused 0 48 + 1) (2 ^ 48 - 1)
  shown : t.reg Reg.hifRefuse = refuseShown kind pf bar2 off
  cores : t.cores = s.cores
  hbm : t.hbm = s.hbm
  regs : ∀ k, bookKey k = false → k ≠ Reg.hifRefused → k ≠ Reg.hifRefuse → t.reg k = s.reg k

theorem State.refuse_access {s : State} (h : s.regsWf) (kind pf : Nat) (bar2 : Bool) (off : Nat) :
    RefusedAccess s pf off (s.refuse kind pf bar2 off) kind bar2 where
  counted := by
    rw [State.reg_congr (s.refuse_regs kind pf bar2 off), State.reg_setReg_ne _ _ (by decide), State.reg_count _ h]
  shown := by
    rw [State.reg_congr (s.refuse_regs kind pf bar2 off), State.reg_setReg (s := s.count Reg.hifRefused) _ _ (State.regsWf_setReg _ _ h),
      Nat.mod_eq_of_lt (refuseShown_lt kind pf bar2 off)]
  cores := s.refuse_cores kind pf bar2 off
  hbm := s.refuse_hbm kind pf bar2 off
  regs k _ h1 h2 := by
    rw [State.reg_congr (s.refuse_regs kind pf bar2 off), State.reg_setReg_ne _ _ h2, State.reg_count_ne _ h1]

/-- The books, which record the refusal, leave what it shows. -/
theorem RefusedAccess.books {s t u : State} {pf off kind : Nat} {bar2 : Bool} (h : RefusedAccess s pf off t kind bar2)
    (g : Books t u) :
    RefusedAccess s pf off u kind bar2 where
  counted := (g.regs _ (by decide)).trans h.counted
  shown := (g.regs _ (by decide)).trans h.shown
  cores := g.cores.trans h.cores
  hbm := g.hbm.trans h.hbm
  regs k hk h1 h2 := (g.regs k hk).trans (h.regs k hk h1 h2)

theorem Books.setOut (s : State) (l : List Output) : Books s { s with out := l } := ⟨by cases s; rfl, fun _ _ => rfl⟩

theorem Books.readDone (s : State) (pf off v : Nat) : Books s (s.readDone pf off v) := Books.setOut s _

/-! ### Reads of registers -/

/-- What completing accesses of the host leaves: the cores and HBM as they were, and what had left the module in its log. -/
structure Served (s t : State) : Prop where
  cores : t.cores = s.cores
  hbm : t.hbm = s.hbm
  out : s.out <+: t.out

theorem Served.refl (s : State) : Served s s := ⟨rfl, rfl, List.prefix_rfl⟩

theorem Served.trans {s t u : State} (h : Served s t) (g : Served t u) : Served s u :=
  ⟨g.cores.trans h.cores, g.hbm.trans h.hbm, h.out.trans g.out⟩

theorem Served.flush (s : State) : Served s s.flush := ⟨s.flush_cores, s.flush_hbm, s.flush_out⟩

theorem Served.readDone (s : State) (pf off v : Nat) : Served s (s.readDone pf off v) := ⟨rfl, rfl, List.prefix_append _ _⟩

theorem Served.refuse (s : State) (kind pf : Nat) (bar2 : Bool) (off : Nat) : Served s (s.refuse kind pf bar2 off) :=
  ⟨s.refuse_cores kind pf bar2 off, s.refuse_hbm kind pf bar2 off, out_of_eq (s.refuse_out kind pf bar2 off)⟩

theorem Served.readOne (s : State) (pf off : Nat) : Served s (s.readOne pf off).2 := by
  unfold State.readOne
  split
  · exact Served.refuse s _ pf false off
  · dsimp only
    split
    · exact ⟨rfl, rfl, List.prefix_rfl⟩
    · exact Served.refl s

theorem Served.readMany (s : State) (pf off n : Nat) : Served s (s.readMany pf off n) := by
  induction n generalizing s off with
  | zero => exact Served.refl s
  | succ n ih => exact ((Served.readOne s pf off).trans (Served.readDone _ pf off _)).trans (ih _ _)

theorem State.readOne_refused {s : State} {pf off k : Nat} (h : s.readRefusal pf off = some k) :
    s.readOne pf off = (0, s.refuse k pf false off) := by
  simp only [State.readOne, h]

/-- A read gives the register's value, and 0 where it is refused. -/
theorem State.readOne_value (s : State) (pf off : Nat) :
    (s.readOne pf off).1 = if s.readRefusal pf off = none then s.regRead pf off else 0 := by
  unfold State.readOne
  cases h : s.readRefusal pf off with
  | none => rfl
  | some k => rfl

/-- A read is completed with a value: it is in the log of what left the module, and cores and HBM are untouched. -/
structure ReadShown (s : State) (pf off v : Nat) (t : State) : Prop where
  out : Output.read pf off (BitVec.ofNat 64 v) ∈ t.out
  cores : t.cores = s.cores
  hbm : t.hbm = s.hbm

theorem Served.readShown {s t u : State} {pf off v : Nat} (h : Served s t) (g : Served (t.readDone pf off v) u) :
    ReadShown s pf off v u where
  out := g.out.subset (List.mem_append_right _ (List.mem_singleton.mpr rfl))
  cores := g.cores.trans h.cores
  hbm := g.hbm.trans h.hbm

section Reads
variable {pf off n : Nat} {s : State} (hp : pf < 2)

theorem exec_registerRead : exec (.registerRead pf off n) s = execRegisterRead pf off n s := rfl

include hp

theorem exec_registerRead_words (hn : n ≠ 0) (h8 : n % 8 = 0) (ho : off % 8 = 0) :
    exec (.registerRead pf off n) s = .next (s.readMany pf off (n / 8)).flush := by
  rw [exec_registerRead, execRegisterRead, act_true (decide_eq_true hp), if_neg (by omega), if_pos ⟨hn, h8, ho⟩]

theorem exec_registerRead_half (ho : off % 4 = 0) : exec (.registerRead pf off 4) s =
    .next (((s.readOne pf (off - off % 8)).2.readDone pf off (bits (s.readOne pf (off - off % 8)).1 (off % 8 * 8) 32)).flush) := by
  rw [exec_registerRead, execRegisterRead, act_true (decide_eq_true hp), if_pos ⟨rfl, ho⟩]

theorem exec_registerRead_misaligned (h4 : ¬ (n = 4 ∧ off % 4 = 0)) (h8 : ¬ (n ≠ 0 ∧ n % 8 = 0 ∧ off % 8 = 0)) :
    exec (.registerRead pf off n) s = .next ((s.refuse 7 pf false off).readDone pf off 0).flush := by
  rw [exec_registerRead, execRegisterRead, act_true (decide_eq_true hp), if_neg h4, if_neg h8]

/-- A read of whole registers shows the first of them; refused as a single one, it is counted. -/
theorem registerRead_words (h : s.regsWf) (hn : n ≠ 0) (h8 : n % 8 = 0) (ho : off % 8 = 0) :
    ∃ t, exec (.registerRead pf off n) s = .next t ∧
      ReadShown s pf off (if s.readRefusal pf off = none then s.regRead pf off else 0) t ∧
      ∀ k, n = 8 → s.readRefusal pf off = some k → RefusedAccess s pf off t k false := by
  refine ⟨_, exec_registerRead_words hp hn h8 ho, ?_, fun k hk hr => ?_⟩
  · obtain ⟨m, hm⟩ : ∃ m, n / 8 = m + 1 := ⟨n / 8 - 1, by omega⟩
    rw [hm, State.readMany, ← State.readOne_value]
    exact (Served.readOne s pf off).readShown ((Served.readMany _ pf (off + 8) m).trans (Served.flush _))
  · subst hk
    simp only [Nat.reduceDiv, State.readMany, State.readOne_refused hr]
    exact (State.refuse_access h k pf false off).books ((Books.readDone _ _ _ _).trans (Books.flush _))

/-- A read of half a register shows the half. -/
theorem registerRead_half (ho : off % 4 = 0) (hr : s.readRefusal pf (off - off % 8) = none) :
    ∃ t, exec (.registerRead pf off 4) s = .next t ∧ ReadShown s pf off (bits (s.regRead pf (off - off % 8)) (off % 8 * 8) 32) t := by
  refine ⟨_, exec_registerRead_half hp ho, ?_⟩
  rw [State.readOne_value, if_pos hr]
  exact (Served.readOne s pf (off - off % 8)).readShown (Served.flush _)

/-- A read of any other width or place is refused and shows 0. -/
theorem registerRead_misaligned (h : s.regsWf) (h4 : ¬ (n = 4 ∧ off % 4 = 0)) (h8 : ¬ (n ≠ 0 ∧ n % 8 = 0 ∧ off % 8 = 0)) :
    ∃ t, exec (.registerRead pf off n) s = .next t ∧ ReadShown s pf off 0 t ∧ RefusedAccess s pf off t 7 false :=
  ⟨_, exec_registerRead_misaligned hp h4 h8, (Served.refuse s 7 pf false off).readShown (Served.flush _),
    (State.refuse_access h 7 pf false off).books ((Books.readDone _ _ _ _).trans (Books.flush _))⟩

end Reads

/-! ### Writes of registers -/

section Writes
variable {pf off : Nat} {s : State} (v : Word) (l : List (BitVec 64))

theorem exec_registerWrite (n : Nat) : exec (.registerWrite pf off n (v :: l)) s = execRegisterWrite pf off n (v :: l) s := rfl

theorem exec_registerWrite_narrow {n : Nat} (hn : n < 8) :
    exec (.registerWrite pf off n (v :: l)) s = .next (s.refuse 1 pf false off).flush := by
  rw [exec_registerWrite, execRegisterWrite, act1, if_pos hn]

theorem exec_registerWrite_misaligned {n : Nat} (hn : 8 ≤ n) (h : n % 8 ≠ 0 ∨ off % 8 ≠ 0) :
    exec (.registerWrite pf off n (v :: l)) s = .next (s.refuse 7 pf false off).flush := by
  rw [exec_registerWrite, execRegisterWrite, act1, if_neg (by omega), if_pos h]

theorem exec_registerWrite_word (ho : off % 8 = 0) :
    exec (.registerWrite pf off 8 (v :: l)) s = .next (s.writeReg pf off v.toNat).flush := by
  rw [exec_registerWrite, execRegisterWrite, act1, if_neg (by omega), if_neg (by omega)]
  rfl

/-- A refused access, once its event is recorded. -/
theorem State.refuse_flush (h : s.regsWf) (kind : Nat) (bar2 : Bool) :
    RefusedAccess s pf off (s.refuse kind pf bar2 off).flush kind bar2 :=
  (State.refuse_access h kind pf bar2 off).books (Books.flush _)

theorem State.writeReg_refused {k x : Nat} (h : s.writeRefusal pf off = some k) : s.writeReg pf off x = s.refuse k pf false off := by
  simp only [State.writeReg, h]

/-- What an ordinary register holds after a write: RO bits stay, ones clear W1C bits, RW bits take the value (R13, R14). -/
def RegInfo.written (i : RegInfo) (x v : Nat) : Nat := (x - (x &&& i.rw)) - ((x - (x &&& i.rw)) &&& (v &&& i.w1c)) + (v &&& i.rw)

theorem State.regWrite_ordinary {x : Nat} {i : RegInfo} (hu : s.unitWrite pf off x = none) (hi : regInfo off = some i) :
    s.regWrite pf off x = s.setReg (regKey pf off) (i.written (s.reg (regKey pf off)) x) := by
  simp only [State.regWrite, hu, hi, RegInfo.written]

theorem registerWrite_ordinary {i : RegInfo} (ho : off % 8 = 0) (hr : s.writeRefusal pf off = none)
    (hu : s.unitWrite pf off v.toNat = none) (hi : regInfo off = some i) :
    Answers (.registerWrite pf off 8 (v :: l)) s (s.setReg (regKey pf off) (i.written (s.reg (regKey pf off)) v.toNat)) := by
  refine ⟨_, exec_registerWrite_word v l ho, ?_⟩
  simp only [State.writeReg, hr, State.regWrite_ordinary hu hi]
  exact Books.flush _

end Writes

/-! ### The window of BAR2 and its requests (R458, R461) -/

/-- HIF_APER's RW bits are 18 bits from bit 30. -/
def aperInfo : RegInfo := .rwReg 0 0x0000FFFFC0000000

theorem regInfo_aper : regInfo Reg.hifAper = some aperInfo := rfl

theorem State.unitWrite_aper (s : State) (pf v : Nat) : s.unitWrite pf Reg.hifAper v = none := rfl

theorem and_aperMask (x : Nat) : x &&& 0x0000FFFFC0000000 = x / 2 ^ 30 % 2 ^ 18 * 2 ^ 30 := by
  rw [show 0x0000FFFFC0000000 = (2 ^ 18 - 1) <<< 30 from rfl, ← Nat.shiftRight_eq_div_pow, ← Nat.and_two_pow_sub_one_eq_mod,
    ← Nat.shiftLeft_eq]
  refine Nat.eq_of_testBit_eq fun i => ?_
  simp only [Nat.testBit_and, Nat.testBit_shiftLeft, Nat.testBit_shiftRight]
  by_cases h : 30 ≤ i <;> simp [h]

theorem aperInfo_rw : aperInfo.rw = 0x0000FFFFC0000000 := rfl
theorem aperInfo_w1c : aperInfo.w1c = 0 := rfl

/-- The field of the window takes the value's bits, whatever the register held. -/
theorem aperInfo_written {x : Nat} (v : Nat) (hx : x < 2 ^ 64) :
    bits (aperInfo.written x v % 2 ^ 64) 30 18 = v / 2 ^ 30 % 2 ^ 18 := by
  have hw : aperInfo.written x v = x - x / 2 ^ 30 % 2 ^ 18 * 2 ^ 30 + v / 2 ^ 30 % 2 ^ 18 * 2 ^ 30 := by
    rw [RegInfo.written, aperInfo_rw, aperInfo_w1c, Nat.and_zero, Nat.and_zero, Nat.sub_zero, and_aperMask, and_aperMask]
  rw [hw, bits, Nat.shiftRight_eq_div_pow]
  omega

theorem flushKey_aper (pf : Nat) : flushKey (regKey pf Reg.hifAper) = false := by
  rcases Nat.eq_zero_or_pos pf with rfl | h
  · decide
  · have hk : regKey pf Reg.hifAper = Reg.hifAper + 0x4000000 := by
      simp [regKey, perFunction, Nat.ne_of_gt h]
    rw [hk]
    decide

theorem exec_hifAperWrite (pf : Nat) (v : Word) (s : State) : exec (.hifAperWrite pf v) s = execHifAperWrite pf v s := rfl

/-- A write of HIF_APER that is not refused moves the window. -/
theorem hifAperWrite_moves {pf : Nat} {s : State} (v : Word) (h : s.regsWf) (hr : s.writeRefusal pf Reg.hifAper = none) :
    ∃ t, exec (.hifAperWrite pf v) s = .next t ∧
      t.field (regKey pf Reg.hifAper) 30 18 = v.toNat / 2 ^ 30 % 2 ^ 18 ∧ t.cores = s.cores ∧ t.hbm = s.hbm := by
  have hw := State.regWrite_ordinary (s.unitWrite_aper pf v.toNat) regInfo_aper
  refine ⟨(s.regWrite pf Reg.hifAper v.toNat).flush, ?_, ?_, ?_, ?_⟩
  · rw [exec_hifAperWrite, execHifAperWrite, hostWrite, act1, hr]
  · rw [State.flush_field _ _ _ (flushKey_aper pf), hw, State.field, State.reg_setReg _ _ h, aperInfo_written v.toNat (s.reg_lt _)]
  · rw [State.flush_cores, hw, State.setReg_cores]
  · rw [State.flush_hbm, hw, State.setReg_hbm]

section Bar2
variable {pf off : Nat} {s : State}

theorem exec_bar2Write (d : List Byte) : exec (.bar2Write pf off d) s = execBar2Write pf off d s := rfl
theorem exec_bar2Read (n : Nat) : exec (.bar2Read pf off n) s = execBar2Read pf off n s := rfl

theorem bar2Write_lands {d : List Byte} (hr : s.bar2Refusal pf off d.length = none) :
    ∃ t, exec (.bar2Write pf off d) s = .next t ∧ t.hbm = (s.memWrite (s.bar2Addr pf off) d).hbm ∧ t.cores = s.cores := by
  refine ⟨(s.memWrite (s.bar2Addr pf off) d).flush, ?_, State.flush_hbm _, ?_⟩
  · rw [exec_bar2Write, execBar2Write, act1, hr]
  · rw [State.flush_cores, (s.memWrite_memFrame _ d).cores]

theorem bar2Write_refused {d : List Byte} {k : Nat} (h : s.regsWf) (hr : s.bar2Refusal pf off d.length = some k) :
    ∃ t, exec (.bar2Write pf off d) s = .next t ∧ RefusedAccess s pf off t k true := by
  refine ⟨(s.refuse k pf true off).flush, ?_, State.refuse_flush h k true⟩
  rw [exec_bar2Write, execBar2Write, act1, hr]

/-- A completed read of BAR2. -/
def State.bar2Done (s : State) (pf off : Nat) (data : List Byte) : State := { s with out := s.out ++ [Output.bar2 pf off data false] }

/-- Its data stands in the log when the command's events have been recorded. -/
theorem State.bar2Done_out (s : State) (pf off : Nat) (data : List Byte) :
    Output.bar2 pf off data false ∈ (s.bar2Done pf off data).flush.out :=
  (State.flush_out _).subset (List.mem_append_right _ (List.mem_singleton.mpr rfl))

theorem exec_bar2Read_next {n : Nat} {l : List Byte} {u : State} (hr : s.bar2Refusal pf off n = none)
    (hm : s.memRead (s.bar2Addr pf off) n = (l, none, u)) : exec (.bar2Read pf off n) s = .next (u.bar2Done pf off l).flush := by
  rw [exec_bar2Read, execBar2Read, act1, hr]
  dsimp only
  rw [hm]
  rfl

theorem bar2Read_completes {n : Nat} (hr : s.bar2Refusal pf off n = none) (hm : (s.memRead (s.bar2Addr pf off) n).2.1 = none) :
    ∃ t, exec (.bar2Read pf off n) s = .next t ∧
      Output.bar2 pf off (s.memRead (s.bar2Addr pf off) n).1 false ∈ t.out ∧ t.cores = s.cores := by
  have hc := (s.memRead_memFrame (s.bar2Addr pf off) n).cores
  rcases hq : s.memRead (s.bar2Addr pf off) n with ⟨l, e, u⟩
  rw [hq] at hm hc
  subst hm
  exact ⟨_, exec_bar2Read_next hr hq, u.bar2Done_out pf off l, (State.flush_cores _).trans hc⟩

theorem bar2Read_refused {n k : Nat} (h : s.regsWf) (hr : s.bar2Refusal pf off n = some k) :
    ∃ t, exec (.bar2Read pf off n) s = .next t ∧ RefusedAccess s pf off t k true ∧
      Output.bar2 pf off (List.replicate n 0xFF) false ∈ t.out := by
  refine ⟨((s.refuse k pf true off).bar2Done pf off (List.replicate n 0xFF)).flush, ?_, ?_, State.bar2Done_out _ _ _ _⟩
  · rw [exec_bar2Read, execBar2Read, act1, hr]
    rfl
  · exact (State.refuse_access h k pf true off).books ((Books.setOut _ _).trans (Books.flush _))

end Bar2

/-- Settles O59: one lemma above for each form of access, and for its refusal. -/
theorem hostAccesses : Obligations.HostAccesses := by
  intro pf off s h hp refused shown
  have hrefused {t : State} {kind : Nat} {bar2 : Bool} (g : RefusedAccess s pf off t kind bar2) : refused t kind bar2 :=
    ⟨g.counted, g.shown, g.cores, g.hbm, g.regs⟩
  have hshown {v : Nat} {t : State} (g : ReadShown s pf off v t) : shown v t := ⟨g.out, g.cores, g.hbm⟩
  refine ⟨fun n hn h8 ho => ?_, fun ho hr => ?_, fun n h4 h8 => ?_, fun v l => ⟨fun n hn => ?_, fun n hn hm => ?_, fun ho k hr => ?_,
    fun i ho hr hu hi => registerWrite_ordinary v l ho hr hu hi⟩, fun v hr => hifAperWrite_moves v h hr,
    fun d => ⟨bar2Write_lands, fun k hr => ?_⟩, fun n => ⟨fun m hr hm hv => ?_, fun k hr => ?_⟩⟩
  · obtain ⟨t, ht, hs, hk⟩ := registerRead_words hp h hn h8 ho
    exact ⟨t, ht, hshown hs, fun k h1 h2 => hrefused (hk k h1 h2)⟩
  · obtain ⟨t, ht, hs⟩ := registerRead_half hp ho hr
    exact ⟨t, ht, hshown hs⟩
  · obtain ⟨t, ht, hs, hk⟩ := registerRead_misaligned hp h h4 h8
    exact ⟨t, ht, hshown hs, hrefused hk⟩
  · exact ⟨_, exec_registerWrite_narrow v l hn, hrefused (State.refuse_flush h 1 false)⟩
  · exact ⟨_, exec_registerWrite_misaligned v l hn hm, hrefused (State.refuse_flush h 7 false)⟩
  · refine ⟨_, exec_registerWrite_word v l ho, ?_⟩
    rw [State.writeReg_refused hr]
    exact hrefused (State.refuse_flush h k false)
  · obtain ⟨t, ht, hk⟩ := bar2Write_refused h hr
    exact ⟨t, ht, hrefused hk⟩
  · subst hm
    exact bar2Read_completes hr hv
  · obtain ⟨t, ht, hk, hout⟩ := bar2Read_refused h hr
    exact ⟨t, ht, hrefused hk, hout⟩

end Sys2Proof.Machine

/-! PROOFS. Sums in the accumulation window: a lane's window and wrap count as one number modulo 2^128 (R52, R54). -/

namespace Sys2Proof.Machine
open Sys2Proof

/-! ### The window and its carry -/

/-- The unit by which the wrap count moves: what an integer exceeds the window's residue of it by, in multiples of 2^96 (R52). -/
def windowCarry (x : Int) : Int := (x - x.bmod (2 ^ 96)) / 2 ^ 96

/-- An integer is its window residue and 2^96 times its carry. -/
theorem windowCarry_spec (x : Int) : x = x.bmod (2 ^ 96) + windowCarry x * 2 ^ 96 := by
  have h : (2 : Int) ^ 96 ∣ x - x.bmod (2 ^ 96) := Int.dvd_self_sub_bmod
  unfold windowCarry
  rw [Int.ediv_mul_cancel h]
  omega

/-- The window residue of an integer lies in the range of the window. -/
theorem windowResidue_range (x : Int) : -2 ^ 95 ≤ x.bmod (2 ^ 96) ∧ x.bmod (2 ^ 96) < 2 ^ 95 := by
  have h1 := Int.le_bmod (x := x) (m := 2 ^ 96) (by decide)
  have h2 := Int.bmod_lt (x := x) (m := 2 ^ 96) (by decide)
  omega

theorem windowCarry_up {x : Int} (h : 2 ^ 95 ≤ x) (h' : x < 3 * 2 ^ 95) :
    x.bmod (2 ^ 96) = x - 2 ^ 96 ∧ windowCarry x = 1 := by
  have hs := windowCarry_spec x
  have hr := windowResidue_range x
  omega

theorem windowCarry_down {x : Int} (h : x < -2 ^ 95) (h' : -(3 * 2 ^ 95) ≤ x) :
    x.bmod (2 ^ 96) = x + 2 ^ 96 ∧ windowCarry x = -1 := by
  have hs := windowCarry_spec x
  have hr := windowResidue_range x
  omega

theorem windowCarry_none {x : Int} (h : -2 ^ 95 ≤ x) (h' : x < 2 ^ 95) : x.bmod (2 ^ 96) = x ∧ windowCarry x = 0 := by
  have hs := windowCarry_spec x
  have hr := windowResidue_range x
  omega

theorem window_range (w : BitVec 96) : -2 ^ 95 ≤ w.toInt ∧ w.toInt < 2 ^ 95 := ⟨BitVec.le_toInt w, BitVec.toInt_lt⟩

theorem wrap_range (w : BitVec 32) : -2 ^ 31 ≤ w.toInt ∧ w.toInt < 2 ^ 31 := ⟨BitVec.le_toInt w, BitVec.toInt_lt⟩

/-! ### What the additions do to window and wrap count -/

theorem Lane.addInt_w (l : Lane) (t : Int) : (l.addInt t).w.toInt = (l.w.toInt + t).bmod (2 ^ 96) := by
  simp only [Lane.addInt, BitVec.toInt_ofInt]

theorem Lane.addInt_wrap (l : Lane) (t : Int) : (l.addInt t).wrap = l.wrap + BitVec.ofInt 32 (windowCarry (l.w.toInt + t)) := by
  simp only [Lane.addInt, BitVec.toInt_ofInt, windowCarry]

theorem Lane.add_w (a b : Lane) : (a.add b).w = (a.addInt b.w.toInt).w := rfl

theorem Lane.add_wrap (a b : Lane) : (a.add b).wrap = (a.addInt b.w.toInt).wrap + b.wrap := rfl

theorem Contrib.lane_w (c : Contrib) : c.lane.w.toInt = c.sum.bmod (2 ^ 96) := by
  simp only [Contrib.lane, BitVec.toInt_ofInt]

theorem Contrib.lane_wrap (c : Contrib) : c.lane.wrap = BitVec.ofInt 32 (windowCarry c.sum) := by
  simp only [Contrib.lane, BitVec.toInt_ofInt, windowCarry]

/-- The three cases of R52 for an integer no larger than the window's range. -/
theorem Lane.addInt_cases (l : Lane) {t : Int} (h : -2 ^ 95 ≤ t) (h' : t < 2 ^ 95) :
    let sum := l.w.toInt + t
    let u := l.addInt t
    (2 ^ 95 ≤ sum → u.w.toInt = sum - 2 ^ 96 ∧ u.wrap = l.wrap + 1) ∧
    (sum < -2 ^ 95 → u.w.toInt = sum + 2 ^ 96 ∧ u.wrap = l.wrap - 1) ∧
    (-2 ^ 95 ≤ sum → sum < 2 ^ 95 → u.w.toInt = sum ∧ u.wrap = l.wrap) := by
  obtain ⟨hl, hu⟩ := window_range l.w
  dsimp only
  rw [Lane.addInt_w, Lane.addInt_wrap]
  refine ⟨fun g => ?_, fun g => ?_, fun g g' => ?_⟩
  · obtain ⟨hw, hc⟩ := windowCarry_up g (by omega)
    rw [hw, hc]
    exact ⟨rfl, rfl⟩
  · obtain ⟨hw, hc⟩ := windowCarry_down g (by omega)
    rw [hw, hc]
    exact ⟨rfl, (BitVec.sub_eq_add_neg l.wrap 1).symm⟩
  · obtain ⟨hw, hc⟩ := windowCarry_none g g'
    rw [hw, hc]
    exact ⟨rfl, BitVec.add_zero _⟩

/-! ### A lane's value modulo 2^128 -/

theorem wrap_add_mod (a b : BitVec 32) : (a + b).toInt % 2 ^ 32 = (a.toInt + b.toInt) % 2 ^ 32 := by
  rw [BitVec.toInt_add]
  exact Int.bmod_emod

theorem wrap_ofInt_mod (x : Int) : (BitVec.ofInt 32 x).toInt % 2 ^ 32 = x % 2 ^ 32 := by
  rw [BitVec.toInt_ofInt]
  exact Int.bmod_emod

/-- Two integers that window and wrap count together do not tell apart. -/
def SameMod128 (x y : Int) : Prop := x % 2 ^ 128 = y % 2 ^ 128

theorem SameMod128.symm {x y : Int} (h : SameMod128 x y) : SameMod128 y x := Eq.symm h

theorem SameMod128.trans {x y z : Int} (h : SameMod128 x y) (g : SameMod128 y z) : SameMod128 x z := Eq.trans h g

theorem SameMod128.add {x y u v : Int} (h : SameMod128 x y) (g : SameMod128 u v) : SameMod128 (x + u) (y + v) := by
  unfold SameMod128 at *
  omega

theorem SameMod128.add_right {x y : Int} (h : SameMod128 x y) (z : Int) : SameMod128 (x + z) (y + z) := h.add rfl

theorem SameMod128.add_left {x y : Int} (h : SameMod128 x y) (z : Int) : SameMod128 (z + x) (z + y) :=
  SameMod128.add (x := z) (y := z) rfl h

/-- A lane whose window is an integer's residue, and whose wrap count its carry and more, holds that integer and more. -/
theorem laneValue_same {l : Lane} {x wraps : Int} (hw : l.w.toInt = x.bmod (2 ^ 96))
    (hc : l.wrap.toInt % 2 ^ 32 = (wraps + windowCarry x) % 2 ^ 32) : SameMod128 (laneValue l) (x + wraps * 2 ^ 96) := by
  have hs := windowCarry_spec x
  unfold SameMod128 laneValue
  omega

theorem Lane.addInt_wrap_mod (l : Lane) (t : Int) :
    (l.addInt t).wrap.toInt % 2 ^ 32 = (l.wrap.toInt + windowCarry (l.w.toInt + t)) % 2 ^ 32 := by
  have ha := wrap_add_mod l.wrap (BitVec.ofInt 32 (windowCarry (l.w.toInt + t)))
  have hc := wrap_ofInt_mod (windowCarry (l.w.toInt + t))
  rw [Lane.addInt_wrap]
  omega

theorem laneValue_addInt (l : Lane) (t : Int) : SameMod128 (laneValue (l.addInt t)) (laneValue l + t) := by
  have h := laneValue_same (Lane.addInt_w l t) (Lane.addInt_wrap_mod l t)
  have e : laneValue l + t = l.w.toInt + t + l.wrap.toInt * 2 ^ 96 := by
    unfold laneValue
    omega
  rw [e]
  exact h

theorem laneValue_add (a b : Lane) : SameMod128 (laneValue (a.add b)) (laneValue a + laneValue b) := by
  have hw : (a.add b).w.toInt = (a.w.toInt + b.w.toInt).bmod (2 ^ 96) := by rw [Lane.add_w, Lane.addInt_w]
  have hc : (a.add b).wrap.toInt % 2 ^ 32 = (a.wrap.toInt + b.wrap.toInt + windowCarry (a.w.toInt + b.w.toInt)) % 2 ^ 32 := by
    have h1 := wrap_add_mod (a.addInt b.w.toInt).wrap b.wrap
    have h2 := Lane.addInt_wrap_mod a b.w.toInt
    rw [Lane.add_wrap]
    omega
  have e : laneValue a + laneValue b = a.w.toInt + b.w.toInt + (a.wrap.toInt + b.wrap.toInt) * 2 ^ 96 := by
    unfold laneValue
    omega
  rw [e]
  exact laneValue_same hw hc

theorem laneValue_contrib (c : Contrib) : SameMod128 (laneValue c.lane) c.sum := by
  have hc : c.lane.wrap.toInt % 2 ^ 32 = (0 + windowCarry c.sum) % 2 ^ 32 := by
    rw [Contrib.lane_wrap, Int.zero_add]
    exact wrap_ofInt_mod _
  have h := laneValue_same (Contrib.lane_w c) hc
  rwa [Int.zero_mul, Int.add_zero] at h

theorem laneValue_zero : laneValue Lane.zero = 0 := by decide

/-- Window and wrap count are fixed by the value modulo 2^128: the two are its digits. -/
theorem Lane.window_eq_of_same {a b : Lane} (h : SameMod128 (laneValue a) (laneValue b)) : a.w = b.w ∧ a.wrap = b.wrap := by
  have hwa := window_range a.w
  have hwb := window_range b.w
  have hca := wrap_range a.wrap
  have hcb := wrap_range b.wrap
  unfold SameMod128 laneValue at h
  exact ⟨BitVec.eq_of_toInt_eq (by omega), BitVec.eq_of_toInt_eq (by omega)⟩

/-- A lane holds exactly any value within 2^126 that it holds modulo 2^128. -/
theorem laneValue_eq_of_same {l : Lane} {v : Int} (h : SameMod128 (laneValue l) v) (hl : -2 ^ 126 ≤ v) (hu : v ≤ 2 ^ 126) :
    laneValue l = v := by
  have hw := window_range l.w
  have hc := wrap_range l.wrap
  unfold SameMod128 laneValue at h
  unfold laneValue
  omega

/-! ### Sums of terms, and any order of them (R52, R54) -/

theorem laneValue_foldl_addInt (l : Lane) (ts : List Int) :
    SameMod128 (laneValue (ts.foldl Lane.addInt l)) (laneValue l + ts.sum) := by
  induction ts generalizing l with
  | nil =>
    rw [List.sum_nil, Int.add_zero]
    exact rfl
  | cons t ts ih =>
    rw [List.sum_cons, ← Int.add_assoc]
    exact (ih (l.addInt t)).trans ((laneValue_addInt l t).add_right _)

/-- A sum of terms is bounded by their number times the largest of them (R51). -/
theorem sum_terms_le {ts : List Int} (h : ∀ t, t ∈ ts → -termMax ≤ t ∧ t ≤ termMax) :
    -(ts.length * termMax) ≤ ts.sum ∧ ts.sum ≤ ts.length * termMax := by
  induction ts with
  | nil => decide
  | cons t ts ih =>
    have ht := h t (List.mem_cons_self ..)
    have hts := ih (fun u hu => h u (List.mem_cons_of_mem t hu))
    rw [List.sum_cons, List.length_cons]
    unfold termMax at *
    omega

/-- Beside window and wrap count an added integer leaves the lane. -/
theorem Lane.addInt_frame (l : Lane) (t : Int) : l.addInt t = { l with w := (l.addInt t).w, wrap := (l.addInt t).wrap } := rfl

theorem Lane.ext_window {a b : Lane} (h : SameMod128 (laneValue a) (laneValue b))
    (hf : { a with w := b.w, wrap := b.wrap } = b) : a = b := by
  obtain ⟨hw, hc⟩ := Lane.window_eq_of_same h
  rw [← hf, ← hw, ← hc]

theorem Lane.addInt_swap (l : Lane) (t u : Int) : (l.addInt t).addInt u = (l.addInt u).addInt t := by
  have h (x y : Int) : SameMod128 (laneValue ((l.addInt x).addInt y)) (laneValue l + x + y) :=
    (laneValue_addInt _ y).trans ((laneValue_addInt l x).add_right y)
  refine Lane.ext_window ((h t u).trans ?_) rfl
  rw [Int.add_right_comm]
  exact (h u t).symm

/-- A saturating count takes two additions in either order (R55). -/
theorem satCount_right_comm (m a x y : Nat) : min m (min m (a + x) + y) = min m (min m (a + y) + x) := by omega

theorem Lane.add_swap (l a b : Lane) : (l.add a).add b = (l.add b).add a := by
  have h (x y : Lane) : SameMod128 (laneValue ((l.add x).add y)) (laneValue l + laneValue x + laneValue y) :=
    (laneValue_add _ y).trans ((laneValue_add l x).add_right _)
  refine Lane.ext_window ((h a b).trans ?_) ?_
  · rw [Int.add_right_comm]
    exact (h b a).symm
  · simp only [Lane.add, Lane.addInt, satCount_right_comm]

/-! ### A pass adds its contribution (R52, R82) -/

theorem AccEntry.take_lane (e : AccEntry) (anchor : Int) (c : Contrib) (free : Nat) (h : e.terms + c.terms ≤ 2 ^ 31) :
    (e.take false anchor c free).lane = e.lane.add c.lane := by
  simp only [AccEntry.take, AccEntry.of, Nat.not_lt.mpr h, if_false, Bool.false_eq_true]

theorem AccEntry.take_clr_lane (e : AccEntry) (anchor : Int) (c : Contrib) (free : Nat) (h : c.terms ≤ 2 ^ 31) :
    (e.take true anchor c free).lane = c.lane := by
  simp only [AccEntry.take, AccEntry.of, Nat.not_lt.mpr h, if_false, if_true]

/-- Adding the lane of a contribution is adding its sum (R52). -/
theorem Lane.add_contrib (l : Lane) (c : Contrib) : (l.add c.lane).w = (l.addInt c.sum).w ∧ (l.add c.lane).wrap = (l.addInt c.sum).wrap :=
  Lane.window_eq_of_same (((laneValue_add _ _).trans ((laneValue_contrib c).add_left _)).trans (laneValue_addInt l c.sum).symm)

theorem termMax_range {t : Int} (h : -termMax ≤ t) (h' : t ≤ termMax) : -2 ^ 95 ≤ t ∧ t < 2 ^ 95 := by
  unfold termMax at *
  omega

/-- The sum of as many terms as R54 allows lies within 2^126. -/
theorem sum_terms_range {ts : List Int} (h : ∀ t, t ∈ ts → -termMax ≤ t ∧ t ≤ termMax) (hn : ts.length ≤ 2 ^ 31) :
    -2 ^ 126 ≤ ts.sum ∧ ts.sum ≤ 2 ^ 126 := by
  obtain ⟨h1, h2⟩ := sum_terms_le h
  unfold termMax at h1 h2
  omega

/-- Settles O8: each operation adds to the lane's value modulo 2^128, which fixes window and wrap count, so that the order does not
matter and sums within 2^126 are exact. -/
theorem windowSums : Obligations.WindowSums := by
  refine ⟨fun l t hl hu => ?_, fun a b => ?_, fun ts ht hn => ?_, fun l ts us h => ?_, fun l as bs h => ?_,
    fun l c anchor e free he hn => ?_⟩
  · obtain ⟨h1, h2⟩ := termMax_range hl hu
    exact ⟨l.addInt_frame t, l.addInt_cases h1 h2⟩
  · obtain ⟨h1, h2⟩ := window_range b.w
    obtain ⟨hup, hdown, hnone⟩ := a.addInt_cases h1 h2
    dsimp only
    rw [Lane.add_w, Lane.add_wrap]
    refine ⟨fun g => ?_, fun g => ?_, fun g g' => ?_, laneValue_eq_of_same (laneValue_add a b)⟩
    · rw [(hup g).2, BitVec.add_assoc, BitVec.add_comm 1, ← BitVec.add_assoc]
      exact ⟨(hup g).1, rfl⟩
    · rw [(hdown g).2, BitVec.sub_add_comm]
      exact ⟨(hdown g).1, rfl⟩
    · rw [(hnone g g').2]
      exact ⟨(hnone g g').1, rfl⟩
  · have h := laneValue_foldl_addInt Lane.zero ts
    rw [laneValue_zero, Int.zero_add] at h
    obtain ⟨h1, h2⟩ := sum_terms_range ht hn
    exact laneValue_eq_of_same h h1 h2
  · exact (h.foldl_eq' (fun t _ u _ a => a.addInt_swap t u) l).symm
  · exact (h.foldl_eq' (fun x _ y _ a => a.add_swap x y) l).symm
  · subst he
    rw [e.take_lane anchor c free hn, e.take_clr_lane anchor c free (by omega)]
    obtain ⟨hw, hc⟩ := e.lane.add_contrib c
    exact ⟨hw, hc, laneValue_eq_of_same (laneValue_contrib c)⟩

end Sys2Proof.Machine

/-! PROOFS. The cores of a state: two tables in canonical form that read alike are one, so that of two writes of a core the second
stands. -/

namespace Sys2Proof.Machine
open Sys2Proof

section Canonical

variable {α : Type}

theorem Tab.get_cons_self (k : Nat) (v e : α) (t : Tab α) : Tab.get ((k, v) :: t) e k = v := by simp [Tab.get, Tab.find]

theorem Tab.get_cons_ne {k n : Nat} (h : k ≠ n) (v e : α) (t : Tab α) : Tab.get ((k, v) :: t) e n = Tab.get t e n := by
  simp [Tab.get, Tab.find, h]

theorem Tab.get_above {lo n : Nat} {t : Tab α} (h : Tab.above lo t = true) (hn : n ≤ lo) (e : α) : Tab.get t e n = e := by
  simp [Tab.get, Tab.find_above h hn]

variable [DecidableEq α] {d : Nat → α}

theorem Tab.wf_cons {k : Nat} {v : α} {t : Tab α} (h : Tab.wf d ((k, v) :: t) = true) :
    Tab.above k t = true ∧ v ≠ d k ∧ Tab.wf d t = true := by
  simpa [Tab.wf, and_assoc] using h

/-- The first listed key of one table is not below that of another that reads alike. -/
theorem Tab.head_not_lt {k j : Nat} {v w : α} {t u : Tab α} (ht : Tab.wf d ((k, v) :: t) = true) (hu : Tab.wf d ((j, w) :: u) = true)
    (h : ∀ n, Tab.get ((k, v) :: t) (d n) n = Tab.get ((j, w) :: u) (d n) n) : ¬ k < j := by
  intro hk
  obtain ⟨-, hv, -⟩ := Tab.wf_cons ht
  obtain ⟨hj, -, -⟩ := Tab.wf_cons hu
  have e := h k
  rw [Tab.get_cons_self, Tab.get_cons_ne (Nat.ne_of_gt hk), Tab.get_above hj (Nat.le_of_lt hk)] at e
  exact hv e

/-- Tables in canonical form that read alike are equal. -/
theorem Tab.ext_of_wf {t u : Tab α} (ht : Tab.wf d t = true) (hu : Tab.wf d u = true)
    (h : ∀ n, Tab.get t (d n) n = Tab.get u (d n) n) : t = u := by
  induction t generalizing u with
  | nil =>
    cases u with
    | nil => rfl
    | cons e u =>
      have hk := h e.1
      rw [Tab.get_cons_self] at hk
      exact absurd hk.symm (Tab.wf_cons hu).2.1
  | cons e t ih =>
    obtain ⟨k, v⟩ := e
    cases u with
    | nil =>
      have hk := h k
      rw [Tab.get_cons_self] at hk
      exact absurd hk (Tab.wf_cons ht).2.1
    | cons e u =>
      obtain ⟨j, w⟩ := e
      have hkj : k = j := Nat.le_antisymm (Nat.not_lt.mp (Tab.head_not_lt hu ht (fun n => (h n).symm)))
        (Nat.not_lt.mp (Tab.head_not_lt ht hu h))
      subst hkj
      obtain ⟨hat, -, hwt⟩ := Tab.wf_cons ht
      obtain ⟨hau, -, hwu⟩ := Tab.wf_cons hu
      have hv : v = w := by simpa only [Tab.get_cons_self] using h k
      have htl : t = u := ih hwt hwu (fun n => by
        by_cases hn : k = n
        · rw [Tab.get_above hat (Nat.le_of_eq hn.symm), Tab.get_above hau (Nat.le_of_eq hn.symm)]
        · simpa only [Tab.get_cons_ne hn] using h n)
      rw [hv, htl]

/-- Of two writes of a key the second stands. -/
theorem Tab.put_put {t : Tab α} (n : Nat) (x y : α) (h : Tab.wf d t = true) :
    Tab.put (Tab.put t (d n) n x) (d n) n y = Tab.put t (d n) n y := by
  have hx := Tab.wf_put n x h
  refine Tab.ext_of_wf (Tab.wf_put n y hx) (Tab.wf_put n y h) (fun m => ?_)
  by_cases hm : m = n
  · subst hm
    rw [Tab.get_put_self m y hx, Tab.get_put_self m y h]
  · rw [Tab.get_put_ne _ _ _ hm, Tab.get_put_ne _ _ _ hm, Tab.get_put_ne _ _ _ hm]

end Canonical

/-! ### Writing a core -/

theorem State.coresOk_setCore {s : State} (h : s.coresOk = true) (c : Nat) (k : Core) : (s.setCore c k).coresOk = true :=
  Tab.wf_put (d := fun _ => Core.reset) c k h

theorem State.core_setCore {s : State} (h : s.coresOk = true) (c : Nat) (k : Core) : (s.setCore c k).core c = k :=
  Tab.get_put_self (d := fun _ => Core.reset) c k h

theorem State.core_setCore_ne (s : State) {c j : Nat} (k : Core) (h : j ≠ c) : (s.setCore c k).core j = s.core j :=
  Tab.get_put_ne _ _ _ h

theorem State.setCore_setCore {s : State} (h : s.coresOk = true) (c : Nat) (k l : Core) :
    (s.setCore c k).setCore c l = s.setCore c l := by
  unfold State.setCore
  rw [Tab.put_put (d := fun _ => Core.reset) c k l h]

theorem State.core_congr {s t : State} (h : t.cores = s.cores) (c : Nat) : t.core c = s.core c := by
  unfold State.core
  rw [h]

theorem Books.coresOk {s t : State} (h : Books s t) : t.coresOk = s.coresOk := by
  unfold State.coresOk
  rw [h.cores]

end Sys2Proof.Machine

/-! PROOFS. The matrix engine: loads, pre-scans, drains and the completion of a pass (R73-R90, R107-R111). -/

namespace Sys2Proof.Machine
open Sys2Proof

/-! ### An engine with nothing queued -/

theorem State.matRuns_lt {s : State} {c : Nat} (h : s.matRuns c = true) : c < 192 := by
  simp only [State.matRuns, Bool.and_eq_true, decide_eq_true_eq] at h
  exact h.1.1

/-- With an empty queue the engine takes nothing. -/
theorem State.matAdvance_empty {s : State} {c : Nat} (h : (s.core c).mat.queue = []) (all : Bool) (fuel : Nat) :
    s.matAdvance c all fuel = s := by
  cases fuel with
  | zero => rfl
  | succ n => simp only [State.matAdvance, h]

/-- A core that no exception stops does not enter STOPPED. -/
theorem State.stopDone_unstopped {s : State} {c : Nat} (h : (s.core c).wait ≠ .stopped) : s.stopDone c = s := by
  simp only [State.stopDone, h, false_and, and_false, if_false]

/-- Neither happens at the end of an event where nothing is queued and no exception stops the core. -/
theorem State.matSettled {s : State} {c : Nat} (hq : (s.core c).mat.queue = []) (hw : (s.core c).wait ≠ .stopped) (all : Bool) (fuel : Nat) :
    (s.matAdvance c all fuel).stopDone c = s := by
  rw [State.matAdvance_empty hq, State.stopDone_unstopped hw]

/-- An event that leaves core c as k, nothing queued, ends with that. -/
theorem Books.matSettled {s t : State} {c : Nat} {k : Core} (hb : Books (s.setCore c k) t) (hs : s.coresOk = true) (hq : k.mat.queue = [])
    (hw : k.wait ≠ .stopped) (all : Bool) (fuel : Nat) : Books (s.setCore c k) ((t.matAdvance c all fuel).stopDone c) := by
  have hk : t.core c = k := by rw [hb.core, State.core_setCore hs]
  rw [State.matSettled (by rw [hk]; exact hq) (by rw [hk]; exact hw)]
  exact hb

@[simp] theorem Matrix.setPlane_queue (m : Matrix) (p : Nat) (x : Plane) : (m.setPlane p x).queue = m.queue := by
  unfold Matrix.setPlane
  split <;> rfl

/-- A plane is written beside the queue. -/
theorem Matrix.setPlane_dequeued (m : Matrix) (p i : Nat) (q : List MatOp) (x : Plane) :
    { m.setPlane p x with queue := q, loadId := i } = { m with queue := q, loadId := i }.setPlane p x := by
  unfold Matrix.setPlane
  split <;> rfl

/-- A matrix instruction whose operands arrive soundly is held by its own check alone. -/
theorem MatOp.why_mwld {o : MatOp} (hk : o.kind = .mwld) (hw : o.x.hw = .none) (k : Core) : o.why k = mwldCheck o := by
  simp only [MatOp.why, hk, hw]

/-! ### Weight loads and pre-scans -/

/-- A core whose load engine takes the weight load at the head of the queue (R79). -/
def Core.loadStarted (k : Core) (o : MatOp) (f : Fmt) : Core :=
  { k with mat := { k.mat with queue := k.mat.queue.tail, loadId := o.id }.setPlane o.plane (loadBlock k o f) }

/-- A core whose weight load has ended: its plane is valid (R79). -/
def Core.loadEnded (k : Core) (p : Nat) : Core := { k with mat := k.mat.setPlane p { k.mat.plane p with phase := .valid } }

/-- A core whose pre-scan has ended: its slot holds the anchor (R86, R125). -/
def Core.scanEnded (k : Core) (r : ScanRun) : Core :=
  { k with anchors := Tab.insert k.anchors r.slot (scanAnchor k r), mat := { k.mat with scan := none } }

@[simp] theorem Core.loadStarted_queue (k : Core) (o : MatOp) (f : Fmt) : (k.loadStarted o f).mat.queue = k.mat.queue.tail :=
  Matrix.setPlane_queue _ _ _

@[simp] theorem Core.loadEnded_queue (k : Core) (p : Nat) : (k.loadEnded p).mat.queue = k.mat.queue := Matrix.setPlane_queue _ _ _

theorem Books.startLoad (s : State) {c : Nat} {o : MatOp} {f : Fmt} (hc : c < 192) (hf : dFmt o.dA = some f) :
    Books (s.setCore c ((s.core c).loadStarted o f)) (s.startLoad c o) := by
  unfold State.startLoad State.modMat
  refine (Books.coreEvent s 0x012 1 hc).modCore_eq ?_
  simp only [Matrix.setPlane_dequeued, hf, Option.getD_some, Core.loadStarted]

theorem exec_weightLoadStart (c p : Nat) (s : State) : exec (.weightLoadStart c p) s = execWeightLoadStart c p s := rfl
theorem exec_weightLoadComplete (c p : Nat) (s : State) : exec (.weightLoadComplete c p) s = execWeightLoadComplete c p s := rfl
theorem exec_prescanComplete (c : Nat) (s : State) : exec (.prescanComplete c) s = execPrescanComplete c s := rfl

/-- A weight load that is alone in the queue starts, whether or not a pass still reads its plane (R80). -/
theorem weightLoadStart_answers {c : Nat} {s : State} {o : MatOp} {f : Fmt} (hs : s.coresOk = true) (hr : s.matRuns c = true)
    (hq : (s.core c).mat.queue = [o]) (hk : o.kind = .mwld) (hw : o.x.hw = .none) (h0 : (s.core c).mat.plane0.phase ≠ .loading)
    (h1 : (s.core c).mat.plane1.phase ≠ .loading) (hm : mwldCheck o = none) (hf : dFmt o.dA = some f) :
    Answers (.weightLoadStart c o.plane) s (s.setCore c ((s.core c).loadStarted o f)) := by
  have hb := Books.startLoad s (State.matRuns_lt hr) hf
  have hq' : ((s.startLoad c o).core c).mat.queue = [] := by
    rw [hb.core, State.core_setCore hs, Core.loadStarted_queue, hq, List.tail_cons]
  refine ⟨_, (exec_weightLoadStart _ _ _).trans (act_true ?_), ?_⟩
  · simp [hq, hr, hk, h0, h1]
  · simp only [hq, MatOp.why_mwld hk hw, hm, Option.isNone_none, if_true, State.matAdvance_empty hq']
    exact hb.trans (Books.flush _)

theorem weightLoadComplete_answers {c p : Nat} {s : State} (hs : s.coresOk = true) (hr : s.matRuns c = true)
    (hw : (s.core c).wait ≠ .stopped) (hq : (s.core c).mat.queue = []) (hp : ((s.core c).mat.plane p).phase = .loading) :
    Answers (.weightLoadComplete c p) s (s.setCore c ((s.core c).loadEnded p)) := by
  refine ⟨_, (exec_weightLoadComplete _ _ _).trans (act_true ?_), ?_⟩
  · simp [hr, hp]
  · have hb := ((Books.refl s).modCore c (fun k => k.loadEnded p)).trans (Books.progress _ (4 * c + 1))
    exact (hb.matSettled hs (by rw [Core.loadEnded_queue, hq]) hw false 17).trans (Books.flush _)

theorem prescanComplete_answers {c : Nat} {s : State} {r : ScanRun} (hs : s.coresOk = true) (hr : s.matRuns c = true)
    (hw : (s.core c).wait ≠ .stopped) (hq : (s.core c).mat.queue = []) (hscan : (s.core c).mat.scan = some r) :
    Answers (.prescanComplete c) s (s.setCore c ((s.core c).scanEnded r)) := by
  refine ⟨_, (exec_prescanComplete _ _).trans (act_true ?_), ?_⟩
  · simp [hr, hscan]
  · simp only [hscan]
    have hb := ((Books.refl s).modCore c (fun k => k.scanEnded r)).trans (Books.progress _ (4 * c + 1))
    exact (hb.matSettled hs hq hw false 17).trans (Books.flush _)

/-! ### What a drain changes -/

/-- A core that is another, but for core store, which it has of a third. -/
def StoreAlike (k a b : Core) : Prop := b = { k with store := a.store }

theorem StoreAlike.putBytes {k a b : Core} (h : StoreAlike k a b) (p : Nat) (l : List Byte) : StoreAlike k (a.putBytes p l) (b.putBytes p l) := by
  subst h
  rfl

theorem StoreAlike.putCode {k a b : Core} (h : StoreAlike k a b) (f : Fmt) (row d0 code : Nat) :
    StoreAlike k (a.putCode f row d0 code) (b.putCode f row d0 code) := by
  subst h
  rfl

/-- The same of results of a drain, which agree in their counts. -/
def DrainAlike (k : Core) (out out' : Core × ConvCount) : Prop := StoreAlike k out.1 out'.1 ∧ out.2 = out'.2

/-- A row of a drain writes core store alone, and the same bytes whatever else the core it writes them on holds. -/
theorem DrainAlike.drainRow {k : Core} {out out' : Core × ConvCount} (h : DrainAlike k out out') (j : Core) (o : MatOp) (f : Fmt)
    (i : Nat) : DrainAlike k (drainRow j o f i out) (drainRow j o f i out') := by
  unfold Machine.drainRow
  dsimp only
  split
  · exact List.foldl_rel h (fun a _ _ _ hc => List.foldl_rel hc (fun col _ _ _ he => ⟨he.1.putCode _ _ _ _, he.2⟩))
  · split
    · refine List.foldl_rel h (fun a _ _ _ hc => List.foldl_rel hc (fun c0 _ _ _ he => ⟨StoreAlike.putBytes ?_ _ _, ?_⟩))
      · exact List.foldl_rel he.1 (fun ci _ _ _ hx => hx.putCode _ _ _ _)
      · rw [he.2]
    · exact List.foldl_rel h (fun a _ _ _ hc => List.foldl_rel hc (fun col _ _ _ he => ⟨he.1.putCode _ _ _ _, by rw [he.2]⟩))

/-- A row of a drain reads of its core the accumulator entries and the launch context (R61, R127). -/
theorem drainRow_congr {j k : Core} (hm : j.mat = k.mat) (hc : j.ctx = k.ctx) (o : MatOp) (f : Fmt) (i : Nat) (out : Core × ConvCount) :
    drainRow j o f i out = drainRow k o f i out := by
  simp only [drainRow, drainRounding, hm, hc]

/-- A drain writes core store alone, and the same bytes and counts on cores alike in accumulator, context and core store. -/
theorem drainAll_alike {j k : Core} (hm : j.mat = k.mat) (hc : j.ctx = k.ctx) (hs : j.store = k.store) (o : MatOp) :
    DrainAlike k (drainAll j o) (drainAll k o) := by
  have h : DrainAlike k (j, ConvCount.zero) (k, ConvCount.zero) := ⟨by unfold StoreAlike; rw [hs], rfl⟩
  unfold drainAll drainRows
  split
  · exact h
  · next f _ =>
    simp only [drainRow_congr hm hc]
    exact List.foldl_rel h (fun i _ _ _ hx => hx.drainRow k o f i)

theorem drainAll_core (k : Core) (o : MatOp) : (drainAll k o).1 = { k with store := (drainAll k o).1.store } :=
  (drainAll_alike rfl rfl rfl o).1

/-- A core with another MSTS. -/
def Core.setMsts (k : Core) (w : Word) : Core := { k with msts := w }

@[simp] theorem Core.setMsts_mat (k : Core) (w : Word) : (k.setMsts w).mat = k.mat := rfl
@[simp] theorem Core.setMsts_wait (k : Core) (w : Word) : (k.setMsts w).wait = k.wait := rfl
@[simp] theorem Core.setMsts_store (k : Core) (w : Word) : (k.setMsts w).store = k.store := rfl
@[simp] theorem Core.setMsts_msts (k : Core) (w : Word) : (k.setMsts w).msts = w := rfl

/-- A core that has drained: its rows in core store, its counts in MSTS (R120, R127). -/
def Core.drained (k : Core) (o : MatOp) : Core := (drainAll k o).1.setMsts (mstsCounts k.msts (drainAll k o).2)

@[simp] theorem Core.drained_mat (k : Core) (o : MatOp) : (k.drained o).mat = k.mat := by
  rw [Core.drained, Core.setMsts_mat, drainAll_core]

@[simp] theorem Core.drained_wait (k : Core) (o : MatOp) : (k.drained o).wait = k.wait := by
  rw [Core.drained, Core.setMsts_wait, drainAll_core]

@[simp] theorem Core.retired_mat (k : Core) (e pc : Nat) : (k.retired e pc).mat = k.mat := rfl
@[simp] theorem Core.retired_wait (k : Core) (e pc : Nat) : (k.retired e pc).wait = k.wait := rfl

/-- An engine that retires an instruction leaves its address in the core, and the trace its record (R421). -/
theorem Books.traceRetire {s t : State} {c : Nat} {k : Core} (h : Books (s.setCore c k) t) (hs : s.coresOk = true) (hc : c < 192)
    (e pc : Nat) (w : Word) : Books (s.setCore c (k.retired e pc)) (t.traceRetire c e pc w) := by
  have hb : Books (s.setCore c (k.retired e pc)) (t.modCore c (fun k => k.retired e pc)) := by
    have h' := h.modCore_eq (c := c) (f := fun k => k.retired e pc) (k := k.retired e pc) (by rw [State.core_setCore hs])
    rwa [State.setCore_setCore hs] at h'
  unfold State.traceRetire State.traceRetired
  split
  · exact (hb.trans (Books.progress _ _)).trans (Books.traceRec _ _ _ _ _ hc)
  · exact hb.trans (Books.progress _ _)

/-- Entries that all hold their residues and parity read without a failure (R73, R74). -/
theorem Matrix.badEntry_of_sound {m : Matrix} {arrays : List Nat} {cols eb n : Nat}
    (h : ∀ i a col, i < n → a ∈ arrays → col < cols → (m.entry a col (eb + i)).sound = true) : m.badEntry arrays cols eb n = none := by
  unfold Matrix.badEntry
  rw [Option.map_eq_none_iff, List.find?_eq_none]
  intro x hx
  simp only [List.mem_flatMap, List.mem_map, List.mem_range] at hx
  obtain ⟨i, hi, a, ha, col, hcol, rfl⟩ := hx
  simp [h i a col hi ha hcol]

/-- The end of a drain whose entries read soundly. -/
theorem Books.drainEnd {s : State} {c : Nat} {k : Core} {o : MatOp} (hs : s.coresOk = true) (hc : c < 192) (hq : k.mat.queue = [])
    (hw : k.wait ≠ .stopped) (hb : k.mat.badEntry o.arrays 64 o.eb o.count = none) :
    Books (s.setCore c ((k.drained o).retired 1 o.pc)) ((s.setCore c k).drainEnd c o .none) := by
  unfold State.drainEnd
  simp only [State.core_setCore hs, hb]
  have h1 : Books (s.setCore c (k.drained o)) ((s.setCore c k).modCore c (fun k => k.drained o)) := by
    unfold State.modCore
    rw [State.core_setCore hs, State.setCore_setCore hs]
    exact Books.refl _
  exact ((h1.trans (Books.coreEvent _ _ _ hc)).traceRetire hs hc 1 o.pc _).matSettled hs (by simpa using hq) (by simpa using hw) false 17

theorem exec_matrixDrainComplete (c : Nat) (hw : HwError) (s : State) :
    exec (.matrixDrainComplete c hw) s = execMatrixDrainComplete c hw s := rfl

theorem matrixDrainComplete_answers {c : Nat} {s : State} {o : MatOp} {rest : List MatOp} (hs : s.coresOk = true)
    (hr : s.matRuns c = true) (hw : (s.core c).wait ≠ .stopped) (hq : (s.core c).mat.queue = [])
    (hd : (s.core c).mat.drains = o :: rest)
    (he : ∀ i a col, i < o.count → a ∈ o.arrays → col < 64 → ((s.core c).mat.entry a col (o.eb + i)).sound = true) :
    let k := s.core c
    Answers (.matrixDrainComplete c .none) s
      (s.setCore c ((({ k with mat := { k.mat with drains := rest } } : Core).drained o).retired 1 o.pc)) := by
  refine ⟨_, (exec_matrixDrainComplete _ _ _).trans (act_true ?_), ?_⟩
  · simp [hr, hd]
  · simp only [hd]
    refine Books.trans ?_ (Books.flush _)
    have hb : s.modMat c (fun m => { m with drains := m.drains.tail }) =
        s.setCore c { s.core c with mat := { (s.core c).mat with drains := rest } } := by
      unfold State.modMat State.modCore
      simp only [hd, List.tail_cons]
    rw [hb]
    exact Books.drainEnd hs (State.matRuns_lt hr) hq hw (Matrix.badEntry_of_sound he)

/-! ### The completion of a pass -/

/-- An engine that is another, but for the accumulator. -/
def AccAlike (m n : Matrix) : Prop := n = { m with acc := n.acc }

theorem AccAlike.setEntry {m n : Matrix} (h : AccAlike m n) (a col e : Nat) (x : AccEntry) : AccAlike m (n.setEntry a col e x) := by
  unfold AccAlike at h
  rw [h]
  rfl

theorem AccAlike.foldl {β : Type} {m : Matrix} (l : List β) (f : Matrix → β → Matrix) (h : ∀ n b, AccAlike m n → AccAlike m (f n b))
    {n : Matrix} (hn : AccAlike m n) : AccAlike m (l.foldl f n) :=
  List.foldlRecOn l f hn (fun n hn b _ => h n b hn)

/-- Writing the entries of a pass changes nothing of the engine but its accumulator. -/
theorem writeEntries_alike (m : Matrix) (r : PassRun) (x : PassResult) (free : Nat) : AccAlike m (writeEntries m r x free) := by
  have hdata := AccAlike.foldl x.data.zipIdx _ (fun n arr hn =>
    AccAlike.foldl arr.1.zipIdx _ (fun n row hn => AccAlike.foldl row.1.zipIdx _ (fun n c hn =>
      hn.setEntry arr.2 c.2 (r.op.eb + row.2) ((n.entry arr.2 c.2 (r.op.eb + row.2)).take r.op.clr r.anchor c.1 free)) hn) hn)
    (rfl : AccAlike m m)
  exact AccAlike.foldl x.checks.zipIdx _ (fun n arr hn => AccAlike.foldl arr.1.zipIdx _ (fun n c hn => hn.setEntry _ _ _ _) hn) hdata

/-- A core whose pass has written its entries and left the arrays (R82). -/
def Core.passWritten (k : Core) (r : PassRun) (x : PassResult) (free : Nat) : Core :=
  { k with mat := { writeEntries k.mat r x free with passes := k.mat.passes.tail } }

/-- MSTS as the checks of a pass leave it (R109). -/
def PassResult.marks (x : PassResult) (w : Word) : Word :=
  mstsAfter w (x.outcomes.all (fun o => o.exact)) (x.outcomes.any (fun o => o.skipped))

/-- A core whose pass has completed, with the drain of a DOC pass (R84). -/
def Core.passed (k : Core) (r : PassRun) (x : PassResult) (free : Nat) : Core :=
  let k1 := (k.passWritten r x free).setMsts (x.marks k.msts)
  if r.op.doc then k1.drained r.op else k1

@[simp] theorem Core.passed_mat (k : Core) (r : PassRun) (x : PassResult) (free : Nat) :
    (k.passed r x free).mat = (k.passWritten r x free).mat := by
  unfold Core.passed
  split
  · rw [Core.drained_mat, Core.setMsts_mat]
  · rw [Core.setMsts_mat]

@[simp] theorem Core.passed_wait (k : Core) (r : PassRun) (x : PassResult) (free : Nat) : (k.passed r x free).wait = k.wait := by
  have hw : (k.passWritten r x free).wait = k.wait := rfl
  unfold Core.passed
  split
  · rw [Core.drained_wait, Core.setMsts_wait, hw]
  · rw [Core.setMsts_wait, hw]

theorem Core.passWritten_queue (k : Core) (r : PassRun) (x : PassResult) (free : Nat) :
    (k.passWritten r x free).mat.queue = k.mat.queue := by
  have h : (writeEntries k.mat r x free).queue = k.mat.queue := by rw [writeEntries_alike k.mat r x free]
  exact h

/-- Without DOC a pass leaves core store, and MSTS as its checks make it. -/
theorem Core.passed_plain {r : PassRun} (h : r.op.doc = false) (k : Core) (x : PassResult) (free : Nat) :
    (k.passed r x free).msts = x.marks k.msts ∧ (k.passed r x free).store = k.store := by
  have hp : k.passed r x free = (k.passWritten r x free).setMsts (x.marks k.msts) := by simp [Core.passed, h]
  rw [hp, Core.setMsts_msts, Core.setMsts_store]
  exact ⟨rfl, rfl⟩

/-- With DOC it drains the entries as it has written them; MSTS has no part in what is drained. -/
theorem Core.passed_doc {r : PassRun} (h : r.op.doc = true) (k : Core) (x : PassResult) (free : Nat) :
    let d := drainAll (k.passWritten r x free) r.op
    (k.passed r x free).msts = mstsCounts (x.marks k.msts) d.2 ∧ (k.passed r x free).store = d.1.store := by
  have hp : k.passed r x free = ((k.passWritten r x free).setMsts (x.marks k.msts)).drained r.op := by simp [Core.passed, h]
  obtain ⟨hs, hn⟩ := drainAll_alike (j := k.passWritten r x free) (k := (k.passWritten r x free).setMsts (x.marks k.msts))
    rfl rfl rfl r.op
  dsimp only
  rw [hp, Core.drained, Core.setMsts_msts, Core.setMsts_store, Core.setMsts_msts, hn, hs]
  exact ⟨rfl, rfl⟩

@[simp] theorem State.setSample_cores (s : State) (n : Nat) (x : Sample) : (s.setSample n x).cores = s.cores := rfl

@[simp] theorem State.sampleRefresh_cores (s : State) : s.sampleRefresh.cores = s.cores := by rw [State.sampleRefresh, State.setField_cores]

theorem State.sampleDone_cores (s : State) (c : Nat) (r : PassRun) (l : List Lane) : (s.sampleDone c r l).cores = s.cores := by
  unfold State.sampleDone
  split
  · rfl
  · split
    · rfl
    · rw [State.sampleRefresh_cores, State.setSample_cores]

theorem State.coresOk_congr {s t : State} (h : t.cores = s.cores) : t.coresOk = s.coresOk := by
  unfold State.coresOk
  rw [h]

theorem bookKey_pmcMat {c k : Nat} (h : c < 192) (hk : k < 8) : bookKey (Reg.pmcMat c k) = true :=
  bookKey_pmc (by simp only [Reg.pmcMat, Reg.pmcCore]; omega) (by simp only [Reg.pmcMat, Reg.pmcCore]; omega)

theorem Books.count (s : State) {k : Nat} (h : bookKey k = true) : Books s (s.count k) := Books.setReg s _ h

/-- The checks skipped are counted where one is. -/
theorem filter_length_ne_zero {α : Type} (l : List α) (p : α → Bool) : ((l.filter p).length != 0) = l.any p := by
  rw [Bool.eq_iff_iff]
  simp

/-- What a pass leaves of its core besides its entries. -/
theorem Core.passed_eq (k : Core) (r : PassRun) (x : PassResult) (free : Nat) :
    k.passed r x free =
      let k1 := (k.passWritten r x free).setMsts (mstsAfter (k.passWritten r x free).msts (x.outcomes.all (fun o => o.exact))
        ((x.outcomes.filter (fun o => o.skipped)).length != 0))
      if r.op.doc then (drainAll k1 r.op).1.setMsts (mstsCounts k1.msts (drainAll k1 r.op).2) else k1 := by
  rw [filter_length_ne_zero]
  rfl

/-- A pass that passed its checks changes its own core alone, as `Core.passed` says, and retires there. -/
theorem State.passDone_core {s : State} {c : Nat} (hs : s.coresOk = true) (hc : c < 192) (r : PassRun) (x : PassResult) :
    (s.passDone c r x .none).core c = ((s.core c).passed r x (Config.freeValue s.freeIndex)).retired 1 r.op.pc ∧
    ∀ j, j ≠ c → (s.passDone c r x .none).core j = s.core j := by
  let k := (s.core c).passWritten r x (Config.freeValue s.freeIndex)
  let u := (s.fresh.2.setCore c k).sampleDone c r (writtenLanes ((s.fresh.2.setCore c k).core c).mat r)
  have hu : u.cores = (s.setCore c k).cores := State.sampleDone_cores _ _ _ _
  have huok : u.coresOk = true := by rw [State.coresOk_congr hu]; exact State.coresOk_setCore hs c k
  have huc : u.core c = k := by rw [State.core_congr hu, State.core_setCore hs]
  have hb : Books (u.setCore c (((s.core c).passed r x (Config.freeValue s.freeIndex)).retired 1 r.op.pc)) (s.passDone c r x .none) := by
    unfold State.passDone
    dsimp only
    refine Books.traceRetire ?_ huok hc _ _ _
    refine Books.trans ?_ (Books.coreEvent _ _ _ hc)
    refine Books.trans ?_ (Books.coreEvent _ _ _ hc)
    refine Books.trans ?_ (Books.countN _ _ (bookKey_pmcMat hc (by decide)))
    refine Books.trans ?_ (Books.count _ (bookKey_pmcMat hc (by split <;> decide)))
    refine Books.trans ?_ (Books.count _ (bookKey_pmcMat hc (by decide)))
    refine (Books.refl u).modCore_eq ?_
    rw [huc, Core.passed_eq]
    rfl
  constructor
  · rw [hb.core, State.core_setCore huok]
  · intro j hj
    rw [hb.core, State.core_setCore_ne u _ hj, State.core_congr hu, State.core_setCore_ne s _ hj]

/-- Where nothing is queued and no exception stops the core, a pass that reads sound entries and passes its checks ends so. -/
theorem State.passEnd_passed {s : State} {c : Nat} {r : PassRun} (hs : s.coresOk = true) (hc : c < 192)
    (hq : (s.core c).mat.queue = []) (hw : (s.core c).wait ≠ .stopped) (hf : r.readFault (s.core c).mat = none)
    (hx : (passResult r).outcomes.all (fun o => o.passed) = true) : s.passEnd c r .none = s.passDone c r (passResult r) .none := by
  have hfail : (passResult r).outcomes.find? (fun o => !o.passed) = none :=
    List.find?_eq_none.mpr (fun o ho => by simp [List.all_eq_true.mp hx o ho])
  obtain ⟨hk, -⟩ := State.passDone_core hs hc r (passResult r)
  simp only [State.passEnd, hf, hfail]
  apply State.matSettled
  · rw [hk, Core.retired_mat, Core.passed_mat, Core.passWritten_queue, hq]
  · rw [hk, Core.retired_wait, Core.passed_wait]
    exact hw

theorem exec_matrixPassComplete (c a b d : Nat) (hw : HwError) (s : State) :
    exec (.matrixPassComplete c a b d hw) s = execMatrixPassComplete c a b d hw s := rfl

/-- A state whose frozen cycles of a pass are counted (R85). -/
def State.frozenCounted (s : State) (c a b d : Nat) : State :=
  ((s.countN (Reg.pmcMat c 1) (a + b + d)).countN (Reg.pmcMat c 2) (a + d)).countN (Reg.pmcMat c 3) (b + d)

theorem State.frozenCounted_cores (s : State) (c a b d : Nat) : (s.frozenCounted c a b d).cores = s.cores := by
  simp only [State.frozenCounted, State.countN_cores]

theorem State.frozenCounted_freeIndex (s : State) (c a b d : Nat) : (s.frozenCounted c a b d).freeIndex = s.freeIndex := by
  simp only [State.frozenCounted, State.countN_freeIndex]

theorem matrixPassComplete_next {c : Nat} (a b d : Nat) {s : State} {r : PassRun} {rest : List PassRun} (hs : s.coresOk = true)
    (hr : s.matRuns c = true) (hp : (s.core c).mat.passes = r :: rest) (hq : (s.core c).mat.queue = [])
    (hw : (s.core c).wait ≠ .stopped) (hfed : (PassRun.feed (s.core c) r).fed = true)
    (hf : (PassRun.feed (s.core c) r).readFault (s.core c).mat = none)
    (hx : (passResult (PassRun.feed (s.core c) r)).outcomes.all (fun o => o.passed) = true) :
    let r := PassRun.feed (s.core c) r
    ∃ t, exec (.matrixPassComplete c a b d .none) s = .next t ∧
      t.core c = ((s.core c).passed r (passResult r) (Config.freeValue s.freeIndex)).retired 1 r.op.pc ∧
      ∀ j, j ≠ c → t.core j = s.core j := by
  intro r'
  have hcores := s.frozenCounted_cores c a b d
  have hcore := State.core_congr hcores
  have hok : (s.frozenCounted c a b d).coresOk = true := by rw [State.coresOk_congr hcores, hs]
  have hc := State.matRuns_lt hr
  have hend : (s.frozenCounted c a b d).passEnd c r' .none = (s.frozenCounted c a b d).passDone c r' (passResult r') .none :=
    State.passEnd_passed hok hc (by rw [hcore, hq]) (by rw [hcore]; exact hw) (by rw [hcore]; exact hf) hx
  obtain ⟨hself, hother⟩ := State.passDone_core hok hc r' (passResult r')
  rw [hcore, State.frozenCounted_freeIndex] at hself
  refine ⟨((s.frozenCounted c a b d).passDone c r' (passResult r') .none).flush, ?_, ?_, ?_⟩
  · rw [← hend]
    refine (exec_matrixPassComplete _ _ _ _ _ _).trans ((act_true ?_).trans ?_)
    · simp [hr, hp, hfed]
    · simp only [hp]
      rfl
  · rw [State.core_congr (State.flush_cores _), hself]
  · intro j hj
    rw [State.core_congr (State.flush_cores _), hother j hj, hcore]

/-- Settles O20: one lemma above for each event of the engine, and for the completion of a pass. -/
theorem matrixEventsAndResults : Obligations.MatrixEventsAndResults := by
  refine ⟨fun c s hs hr hw => ⟨?_, ?_, ?_, ?_⟩, ?_⟩
  · rintro o p f hq hk hx rfl h0 h1 hm hf
    have h := weightLoadStart_answers hs hr hq hk hx h0 h1 hm hf
    rw [Core.loadStarted, hq] at h
    exact h
  · intro p hq hp
    exact weightLoadComplete_answers hs hr hw hq hp
  · intro r hq hscan
    exact ⟨prescanComplete_answers hs hr hw hq hscan, rfl⟩
  · intro o rest hq hd he
    exact matrixDrainComplete_answers hs hr hw hq hd he
  · intro c a b d s r rest hs hr hp hq hw k r' x hfed hf hx
    obtain ⟨t, ht, hself, hother⟩ := matrixPassComplete_next a b d hs hr hp hq hw hfed hf hx
    refine ⟨t, ht, ?_⟩
    have hm : (k.passWritten r' x (Config.freeValue s.freeIndex)).mat =
        { writeEntries k.mat r' x (Config.freeValue s.freeIndex) with passes := rest } := by
      have htail : k.mat.passes.tail = rest := by rw [hp, List.tail_cons]
      rw [Core.passWritten, htail]
    have hk : k.passWritten r' x (Config.freeValue s.freeIndex) =
        { k with mat := { writeEntries k.mat r' x (Config.freeValue s.freeIndex) with passes := rest } } := by
      rw [← hm, Core.passWritten]
    rw [hself]
    refine ⟨by rw [Core.retired_mat, Core.passed_mat, hm], fun h => ?_, fun h => ?_, hother⟩
    · exact Core.passed_plain h k x _
    · have hd := Core.passed_doc h k x (Config.freeValue s.freeIndex)
      rw [hk] at hd
      exact hd

end Sys2Proof.Machine

/-! PROOFS. The matrix engine: what CTL issues to it, and the start of a pass (R77-R86, R93-R100, R112, R124-R126). -/

namespace Sys2Proof.Machine
open Sys2Proof

/-! ### The head of the queue -/

/-- What an instruction that reads its operands soundly checks before it runs (R129). -/
def MatOp.check (o : MatOp) (k : Core) : Option (Nat × Nat) :=
  match o.kind with
  | .mwld => mwldCheck o
  | .manc => scanCheck o.dD o.dA o.dB
  | .mpass => passCheck k o
  | .mdrn => drainCheck k o
  | .mmode => none
  | .mrdmode => none

/-- Whether the engine lets the instruction at the head of its queue begin; a pass is held by `State.startPass` itself. -/
def Matrix.takes (m : Matrix) (o : MatOp) : Bool :=
  match o.kind with
  | .mwld => m.loadFree o.plane
  | .manc => !m.scan.isSome
  | .mpass => true
  | .mdrn => m.drainReady o
  | .mmode => m.passes.isEmpty
  | .mrdmode => true

/-- The engine takes the instruction at the head of its queue. -/
def State.takeHead (s : State) (c : Nat) (o : MatOp) : State :=
  match o.kind with
  | .mwld => s.startLoad c o
  | .manc => s.startScan c o
  | .mpass => s.startPass c o
  | .mdrn => s.startDrain c o
  | .mmode => s.runMode c o
  | .mrdmode => s.runReadMode c o

theorem MatOp.why_sound {o : MatOp} (h : o.x.hw = .none) (k : Core) : o.why k = o.check k := by
  simp only [MatOp.why, h]
  rfl

/-- The one instruction queued is taken where its check and the engine let it, and then the queue is empty. -/
theorem State.matAdvance_single {s : State} {c : Nat} {o : MatOp} (hq : (s.core c).mat.queue = [o]) (hw : o.x.hw = .none)
    (hk : o.check (s.core c) = none) (ht : (s.core c).mat.takes o = true) (he : ((s.takeHead c o).core c).mat.queue = []) (fuel : Nat) :
    s.matAdvance c true (fuel + 1) = (s.takeHead c o).progress (4 * c + 1) := by
  have hstep : ∀ t : State, (t.core c).mat.queue = [] →
      (if (t.core c).mat.queue.length < [o].length then (t.progress (4 * c + 1)).matAdvance c true fuel else t) =
        t.progress (4 * c + 1) := by
    intro t h
    rw [h, if_pos (by simp)]
    exact State.matAdvance_empty (by rw [(Books.progress t _).core, h]) true fuel
  rw [← hstep _ he]
  unfold State.takeHead
  unfold Matrix.takes at ht
  simp only [State.matAdvance, hq, MatOp.why_sound hw, hk]
  cases h : o.kind <;> simp_all only [Bool.not_eq_true', Bool.false_eq_true, if_true, if_false]

/-! ### Instructions issued to an engine with an empty queue -/

/-- An instruction that CTL takes answers what its effect leaves, on a state that differs from the one given in the books alone. -/
theorem fkiWhen_runs {x : Fki} {engine cls fn : Nat} {l m : List Nat} {room : Core → Bool} {ok : Bool} (f : State → State)
    {s : State} (hi : s.issues x.core l m = true) (hr : room (s.core x.core) = true) (ho : ok = true) (hw : x.hw = .none) :
    ∃ u, Books s u ∧ fkiWhen x engine cls fn l m room ok f s = .next (f u).flush := by
  have hc := State.issues_lt hi
  refine ⟨_, (Books.coreEvent s 0x001 1 hc).trans (Books.traceIssue _ engine cls fn x hc), ?_⟩
  unfold fkiWhen
  rw [State.stalled_none hi hr]
  refine (act_true (by simp only [hi, hr, Bool.and_self])).trans ?_
  simp only [hwExc_none hw, ho, if_true]

/-- A core whose CTL has issued a matrix instruction, with what the instruction makes of the engine (R112). -/
def Core.matTook (k : Core) (m : Matrix) : Core := { k with mat := m, nextOp := k.nextOp + 1 }.setPc k.nextPc

@[simp] theorem Core.matTook_mat (k : Core) (m : Matrix) : (k.matTook m).mat = m := rfl

/-- An engine whose queue holds one instruction. -/
def Matrix.holding (m : Matrix) (o : MatOp) : Matrix := { m with queue := [o] }

@[simp] theorem Matrix.holding_queue (m : Matrix) (o : MatOp) : (m.holding o).queue = [o] := rfl

/-- Taking the one instruction queued restores the engine. -/
theorem Matrix.holding_taken {m : Matrix} (h : m.queue = []) (o : MatOp) : { m.holding o with queue := [] } = m := by
  rw [← h]
  rfl

/-- A core with nothing queued whose CTL puts an instruction into the queue of its matrix engine (R112). -/
def Core.matIssued (k : Core) (o : MatOp) : Core := k.matTook (k.mat.holding o)

@[simp] theorem Core.matIssued_mat (k : Core) (o : MatOp) : (k.matIssued o).mat = k.mat.holding o := rfl

section Issue

variable {x : Fki} {kind : MatKind} {l m : List Nat} {ok : Bool} {s : State} {k : Core} {o : MatOp} (fn : Nat) (hcore : s.core x.core = k)
  (ho : matOpAt k x kind = o) (hs : s.coresOk = true) (hi : s.issues x.core l m = true) (hq : k.mat.queue = []) (hok : ok = true)
  (hw : x.hw = .none)
include hcore ho hs hi hq hok hw

/-- An issued matrix instruction runs the engine on the core that holds it in its queue. -/
theorem matIssue_runs : ∃ u, Books (s.setCore x.core (k.matIssued o)) u ∧ u.core x.core = k.matIssued o ∧
    matIssue x fn kind l m ok s = .next (u.matAdvance x.core true 17).flush := by
  subst hcore ho
  obtain ⟨u, hb, he⟩ := fkiWhen_runs (engine := 1) (cls := 4) (fn := fn) (room := fun k => decide (k.mat.queue.length < 16))
    (fun s => s.matEnqueue x.core (matOpAt (s.core x.core) x kind)) hi (by simp [hq]) hok hw
  have hput : { s.core x.core with
      pc := (s.core x.core).nextPc,
      mat := { (s.core x.core).mat with queue := (s.core x.core).mat.queue ++ [matOpAt (u.core x.core) x kind] },
      nextOp := (s.core x.core).nextOp + 1 } = (s.core x.core).matIssued (matOpAt (s.core x.core) x kind) := by
    rw [hb.core, hq]
    rfl
  have hb1 := hb.modCore_eq (c := x.core) (f := fun k => { k with
    pc := k.nextPc, mat := { k.mat with queue := k.mat.queue ++ [matOpAt (u.core x.core) x kind] }, nextOp := k.nextOp + 1 }) hput
  exact ⟨_, hb1, by rw [hb1.core, State.core_setCore hs], he⟩

/-- One that its check and the engine let pass, and whose effect is one on its core, answers that core but for the books. -/
theorem matIssue_answers {i : Instr} {k' : Core} (hexec : exec i s = matIssue x fn kind l m ok s) (hk : o.check (k.matIssued o) = none)
    (ht : (k.mat.holding o).takes o = true)
    (hb : ∀ u : State, u.core x.core = k.matIssued o → Books (u.setCore x.core k') (u.takeHead x.core o)) (hk' : k'.mat.queue = []) :
    Answers i s (s.setCore x.core k') := by
  obtain ⟨u, hu, huc, he⟩ := matIssue_runs fn hcore ho hs hi hq hok hw
  have hsound : o.x.hw = .none := ho ▸ hw
  have hend : Books (s.setCore x.core k') (u.takeHead x.core o) := by
    have h := (hu.setCore x.core k').trans (hb u huc)
    rwa [State.setCore_setCore hs] at h
  refine ⟨_, hexec.trans he, ?_⟩
  rw [State.matAdvance_single (by rw [huc]; rfl) hsound (by rw [huc]; exact hk) (by rw [huc]; exact ht)
    (by rw [hend.core, State.core_setCore hs, hk'])]
  exact (hend.trans (Books.progress _ _)).trans (Books.flush _)

end Issue

/-- A change of the engine of a core that has issued to it. -/
theorem Books.modMat_took {u : State} {c : Nat} {k : Core} {m m' : Matrix} {f : Matrix → Matrix} (hk : u.core c = k.matTook m)
    (hf : f m = m') : Books (u.setCore c (k.matTook m')) (u.modMat c f) := by
  unfold State.modMat
  refine (Books.refl u).modCore_eq ?_
  rw [hk, ← hf]
  rfl

theorem bits_eq_zero {n : Nat} (lo w : Nat) (h : n < 2 ^ lo) : bits n lo w = 0 := by
  rw [bits, Nat.shiftRight_eq_div_pow, Nat.div_eq_of_lt h, Nat.zero_mod]

/-! ### Loads, pre-scans, drains and the mode word -/

theorem Matrix.setPlane_loadId (m : Matrix) (p i : Nat) (x : Plane) :
    { m with loadId := i }.setPlane p x = { m.setPlane p x with loadId := i } := by
  unfold Matrix.setPlane
  split <;> rfl

/-- A load taken from the queue of an engine that held nothing else. -/
theorem Core.matIssued_loadStarted {k : Core} (hq : k.mat.queue = []) (o : MatOp) (f : Fmt) :
    (k.matIssued o).loadStarted o f = k.matTook { k.mat.setPlane o.plane (loadBlock k o f) with loadId := o.id } :=
  calc (k.matIssued o).loadStarted o f
      = k.matTook ({ ({ k.mat.holding o with queue := [] } : Matrix) with loadId := o.id }.setPlane o.plane (loadBlock k o f)) := rfl
    _ = k.matTook { k.mat.setPlane o.plane (loadBlock k o f) with loadId := o.id } := by
      rw [Matrix.holding_taken hq, Matrix.setPlane_loadId]

/-- MODE of a mode word is its two low bits (R77). -/
theorem mmwMode_eq (w : Word) : mmwMode w = w.toNat % 4 := by simp [mmwMode, bits]

/-- An engine with a new mode word: a change into or out of Schuss mode invalidates both planes (R77, R78). -/
def Matrix.modeSet (m : Matrix) (w : Word) : Matrix :=
  if (w.toNat % 4 == 2) == (m.mmw.toNat % 4 == 2) then { m with mmw := w }
  else { m with mmw := w, plane0 := { m.plane0 with phase := .invalid }, plane1 := { m.plane1 with phase := .invalid } }

@[simp] theorem Matrix.modeSet_queue (m : Matrix) (w : Word) : (m.modeSet w).queue = m.queue := by
  unfold Matrix.modeSet
  split <;> rfl

theorem State.runMode_eq (s : State) (c : Nat) (o : MatOp) :
    s.runMode c o = s.modMat c (fun m => { m with queue := m.queue.tail }.modeSet (o.sB &&& 0xFFF#64)) := by
  unfold State.runMode Matrix.modeSet
  congr 1
  funext m
  simp only [mmwMode_eq, bne, Bool.beq_comm (a := m.mmw.toNat % 4 == 2), Bool.not_eq_true']
  split <;> simp_all

/-- A scalar register is written beside the engine. -/
theorem Core.matTook_setS (k : Core) (m : Matrix) (i : Nat) (v : Word) : (k.matTook m).setS i v = (k.setS i v).matTook m := by
  unfold Core.setS
  split <;> rfl

theorem Core.setS_matTook (k : Core) (i : Nat) (v : Word) :
    (k.setS i v).matTook k.mat = { k.setS i v with nextOp := k.nextOp + 1 }.setPc k.nextPc := by
  unfold Core.setS
  split <;> rfl

section Resting

variable {x : Fki} {s : State} {k : Core} (hcore : s.core x.core = k) (hw : x.hw = .none) (hs : s.coresOk = true) (hr : k.mat.resting)
include hcore hw hs hr

theorem mwld_answers {f : Fmt} (hi : s.issues x.core [x.b.toNat] [x.a.toNat] = true) (hd : x.d = 0) (hc : x.c = 0)
    (him : x.imm.toNat < 2) (ha : x.a.toNat < 16) (hk : mwldCheck (matOpAt k x .mwld) = none) (hf : dFmt (matOpAt k x .mwld).dA = some f) :
    Answers (.mwld x) s (s.setCore x.core
      (k.matTook { k.mat.setPlane x.imm.toNat (loadBlock k (matOpAt k x .mwld) f) with loadId := k.nextOp })) := by
  obtain ⟨hq, hp, -, -, h0, h1, -⟩ := hr
  have hplane : (matOpAt k x .mwld).plane = x.imm.toNat := Nat.mod_eq_of_lt him
  have hfree : k.mat.loadFree (matOpAt k x .mwld).plane = true := by simp [Matrix.loadFree, hp, h0, h1]
  refine matIssue_answers 0 hcore rfl hs hi hq ?_ hw rfl hk hfree (fun u hu => ?_) ((Matrix.setPlane_queue _ _ _).trans hq)
  · simp [rsvOk, hd, hc, ha, Fki.immBits, bits_eq_zero 1 31 him]
  · have hb := Books.startLoad u (State.issues_lt hi) hf
    rw [hu, Core.matIssued_loadStarted hq, hplane] at hb
    exact hb

theorem manc_answers (hi : s.issues x.core [] [x.d.toNat, x.a.toNat, x.b.toNat] = true) (hc : x.c = 0) (him : x.imm = 0)
    (hd : x.d.toNat < 16) (ha : x.a.toNat < 16) (hb : x.b.toNat < 16)
    (hk : scanCheck (k.tr x.d.toNat) (k.tr x.a.toNat) (k.tr x.b.toNat) = none) :
    Answers (.manc x) s (s.setCore x.core (k.matTook { k.mat with
      scan := some ⟨x.d.toNat, k.tr x.a.toNat, k.tr x.b.toNat, dAval (k.tr x.d.toNat), false, k.nextOp⟩ })) := by
  obtain ⟨hq, -, -, hscan, -, -, -⟩ := hr
  have hfree : (!k.mat.scan.isSome) = true := by rw [hscan]; rfl
  refine matIssue_answers 1 hcore rfl hs hi hq ?_ hw rfl hk hfree (fun u hu => ?_) hq
  · simp [rsvOk, hc, him, hd, ha, hb, Fki.im]
  · change Books _ (u.startScan x.core _)
    refine Books.modMat_took hu ?_
    rw [← Matrix.holding_taken hq (matOpAt k x .manc)]
    rfl

theorem mdrn_answers (hi : s.issues x.core [] [x.d.toNat] = true) (ha : x.a = 0) (hb : x.b = 0) (hc : x.c = 0)
    (him : x.imm.toNat < 2 ^ 31) (hd : x.d.toNat < 16) (hk : drainCheck k (matOpAt k x .mdrn) = none) :
    Answers (.mdrn x) s (s.setCore x.core (k.matTook { k.mat with drains := [matOpAt k x .mdrn] })) := by
  obtain ⟨hq, hp, hdr, -, -, -, -⟩ := hr
  have hfree : k.mat.drainReady (matOpAt k x .mdrn) = true := by simp [Matrix.drainReady, hp]
  refine matIssue_answers 3 hcore rfl hs hi hq ?_ hw rfl hk hfree (fun u hu => ?_) hq
  · simp [rsvOk, ha, hb, hc, hd, Fki.immBits, bits_eq_zero 31 1 him]
  · change Books _ (u.startDrain x.core _)
    refine Books.modMat_took hu ?_
    rw [← Matrix.holding_taken hq (matOpAt k x .mdrn)]
    simp only [Matrix.holding, hdr, List.nil_append, List.tail_cons]

theorem mmode_answers (hi : s.issues x.core [x.a.toNat] [] = true) (hd : x.d = 0) (hb : x.b = 0) (hc : x.c = 0) (him : x.imm = 0) :
    Answers (.mmode x) s (s.setCore x.core (k.matTook (k.mat.modeSet (k.sr x.a.toNat &&& 0xFFF#64)))) := by
  obtain ⟨hq, hp, -, -, -, -, -⟩ := hr
  have hfree : k.mat.passes.isEmpty = true := by rw [hp]; rfl
  refine matIssue_answers 4 hcore rfl hs hi hq ?_ hw rfl rfl hfree (fun u hu => ?_) ((Matrix.modeSet_queue _ _).trans hq)
  · simp [rsvOk, hd, hb, hc, him, Fki.im]
  · change Books _ (u.runMode x.core _)
    rw [State.runMode_eq]
    exact Books.modMat_took hu (congrArg (Matrix.modeSet · _) (Matrix.holding_taken hq _))

theorem mrdmode_answers (hi : s.issues x.core [x.d.toNat] [] = true) (ha : x.a = 0) (hb : x.b = 0) (hc : x.c = 0) (him : x.imm = 0) :
    Answers (.mrdmode x) s (s.setCore x.core ((k.setS x.d.toNat k.mat.mmw).matTook k.mat)) := by
  obtain ⟨hq, -, -, -, -, -, -⟩ := hr
  refine matIssue_answers 5 hcore rfl hs hi hq ?_ hw rfl rfl rfl (fun u hu => ?_) hq
  · simp [rsvOk, ha, hb, hc, him, Fki.im]
  · change Books _ (u.runReadMode x.core _)
    refine (Books.refl u).modCore_eq ?_
    rw [hu, Core.matIssued, Core.matTook_setS]
    exact congrArg (Core.matTook _) (Matrix.holding_taken hq _)

end Resting

/-! ### What a pass runs over -/

/-- The feeder of a pass reads of its core the core store and the copies under way (R100). -/
theorem PassRun.feedN_congr {j k : Core} (hs : j.store = k.store) (hd : j.dma = k.dma) (n : Nat) (r : PassRun) :
    PassRun.feedN j n r = PassRun.feedN k n r := by
  have hcodes : ∀ d f d1 d0 m, rowCodes j d f d1 d0 m = rowCodes k d f d1 d0 m := by
    simp only [rowCodes, Core.codeAt, Core.bytes, Core.byte, hs, implies_true]
  have hscales : ∀ d f d1 d0 m, rowScales j d f d1 d0 m = rowScales k d f d1 d0 m := by
    simp only [rowScales, Core.scaleAt, Core.byte, hs, implies_true]
  induction n generalizing r with
  | zero => rfl
  | succ n ih => simp only [PassRun.feedN, hcodes, hscales, hd, ih]

/-- A pass starts alike on cores alike in core store, copies under way, mode word and plane. -/
theorem passRun_matIssued (k : Core) (o p : MatOp) (anchor : Int) (fa fb : Fmt) :
    passRun (k.matIssued p) o anchor fa fb = passRun k o anchor fa fb := by
  have hfeed : ∀ n r, PassRun.feedN (k.matIssued p) n r = PassRun.feedN k n r := PassRun.feedN_congr rfl rfl
  simp only [passRun, PassRun.feed, hfeed]
  rfl

/-- The feeder changes of a pass nothing but the operand it has read. -/
theorem PassRun.feedN_keeps (k : Core) (n : Nat) (r : PassRun) :
    (PassRun.feedN k n r).op = r.op ∧ (PassRun.feedN k n r).anchor = r.anchor ∧ (PassRun.feedN k n r).mmw = r.mmw ∧
    (PassRun.feedN k n r).plane = r.plane := by
  induction n generalizing r with
  | zero => exact ⟨rfl, rfl, rfl, rfl⟩
  | succ n ih =>
    unfold PassRun.feedN
    dsimp only
    split
    · exact ⟨rfl, rfl, rfl, rfl⟩
    · split
      · exact ⟨rfl, rfl, rfl, rfl⟩
      · exact ih _

/-- A pass runs under the anchor it found and the mode word and plane of the moment it starts. -/
theorem passRun_keeps (k : Core) (o : MatOp) (anchor : Int) (fa fb : Fmt) :
    (passRun k o anchor fa fb).op = o ∧ (passRun k o anchor fa fb).anchor = anchor ∧ (passRun k o anchor fa fb).mmw = k.mat.mmw ∧
    (passRun k o anchor fa fb).plane = k.mat.plane o.plane := by
  unfold passRun
  dsimp only
  split
  · exact PassRun.feedN_keeps k _ _
  · exact ⟨rfl, rfl, rfl, rfl⟩

/-- Outside Schuss mode its rows are there at its start (R126). -/
theorem passRun_rows {k : Core} (h : mmwMode k.mat.mmw ≠ 2) (o : MatOp) (anchor : Int) (fa fb : Fmt) :
    ((passRun k o anchor fa fb).rows, (passRun k o anchor fa fb).scales) = streamRows k o fa fb := by
  simp only [passRun, if_neg h]

/-! ### The start of a pass -/

/-- With no pass in flight an entry keeps the tag it has, so that a pass finds those the entries hold (R82). -/
theorem Matrix.tagsMatch_of_tags {m : Matrix} {o : MatOp} {anchor : Int} (hp : m.passes = [])
    (h : ∀ i a col, i < o.count → a < 4 → col < passCols m.mmw → (m.entry a col (o.eb + i)).tag = BitVec.ofInt 11 anchor) :
    m.tagsMatch o anchor = true := by
  simp only [Matrix.tagsMatch, Matrix.tagAfter, hp, List.foldl_nil, List.all_eq_true, List.mem_range, beq_iff_eq]
  exact fun i hi a ha col hcol => h i a col hi ha hcol

theorem Matrix.passReady_of_idle {m : Matrix} {o : MatOp} (hv : (m.plane o.plane).phase = .valid) (hh : m.halted = false)
    (hd : m.drains = []) : m.passReady o = true := by
  simp [Matrix.passReady, hv, hh, hd]

/-- A pass that reads its operands soundly, passes every check, and whose anchor, plane and entries are ready for it
(R79, R82, R83, R86, R129). -/
structure PassEnters (k : Core) (o : MatOp) (fa fb : Fmt) (anchor : Int) : Prop where
  kind : o.kind = .mpass
  sound : o.x.hw = .none
  check : passCheck k o = none
  formats : passFormats o (k.mat.plane o.plane) = some (fa, fb)
  anchored : passAnchor k o fa = some anchor
  ready : k.mat.passReady o = true
  tags : o.clr = true ∨ k.mat.tagsMatch o anchor = true

/-- A core whose engine has taken a pass from its queue into the arrays. -/
def Core.passStarted (k : Core) (r : PassRun) : Core :=
  { k with mat := { k.mat with queue := k.mat.queue.tail, passes := k.mat.passes ++ [r] } }

theorem Core.passStarted_queued {k : Core} {o : MatOp} (hp : k.mat.passes = []) (hq : k.mat.queue = [o]) (r : PassRun) :
    k.passStarted r = { k with mat := { k.mat with queue := [], passes := [r] } } := by
  rw [Core.passStarted, hp, hq]
  rfl

theorem Core.passStarted_issued {k : Core} (hp : k.mat.passes = []) (hq : k.mat.queue = []) (o : MatOp) (r : PassRun) :
    (k.matIssued o).passStarted r = k.matTook { k.mat with passes := [r] } := by
  rw [Core.passStarted_queued (k := k.matIssued o) (o := o) hp rfl]
  exact congrArg (fun m : Matrix => k.matTook { m with passes := [r] }) (Matrix.holding_taken hq o)

theorem State.memFree_cores (s : State) (addr n : Nat) : (s.memFree addr n).cores = s.cores :=
  (State.memWrite_memFrame { s with freeIndex := s.freeIndex + n } addr _).cores

/-- The capture of a sampled pass changes no core (R316). -/
theorem State.sampleHook_cores (s : State) (c : Nat) (r : PassRun) : (s.sampleHook c r).cores = s.cores := by
  unfold State.sampleHook
  split
  · rfl
  · split
    · rfl
    · dsimp only
      split
      · rfl
      · exact State.memFree_cores _ _ _

/-- A pass that enters changes its own core alone. -/
theorem State.startPass_cores {s : State} {c : Nat} {o : MatOp} {fa fb : Fmt} {anchor : Int}
    (h : PassEnters (s.core c) o fa fb anchor) :
    (s.startPass c o).cores = (s.setCore c ((s.core c).passStarted (passRun (s.core c) o anchor fa fb))).cores := by
  have htags : (!o.clr && !(s.core c).mat.tagsMatch o anchor) = false := by
    rcases h.tags with ht | ht <;> simp [ht]
  unfold State.startPass
  simp only [h.formats, h.anchored, h.ready, htags, Bool.not_true, Bool.false_eq_true, if_false, State.sampleHook_cores]
  rfl

/-- A pass alone in the queue that enters leaves it empty, and changes its own core alone. -/
theorem State.matAdvance_pass {s : State} {c : Nat} {o : MatOp} {fa fb : Fmt} {anchor : Int} (hs : s.coresOk = true)
    (hq : (s.core c).mat.queue = [o]) (h : PassEnters (s.core c) o fa fb anchor) (fuel : Nat) :
    (s.matAdvance c true (fuel + 1)).cores = (s.setCore c ((s.core c).passStarted (passRun (s.core c) o anchor fa fb))).cores := by
  have hcheck : o.check (s.core c) = none := by simp only [MatOp.check, h.kind, h.check]
  have htakes : (s.core c).mat.takes o = true := by simp only [Matrix.takes, h.kind]
  have hhead : s.takeHead c o = s.startPass c o := by simp only [State.takeHead, h.kind]
  have hcores := State.startPass_cores h
  have hempty : ((s.takeHead c o).core c).mat.queue = [] := by
    rw [hhead, State.core_congr hcores, State.core_setCore hs, Core.passStarted, hq, List.tail_cons]
  rw [State.matAdvance_single hq h.sound hcheck htakes hempty, hhead, (Books.progress _ _).cores, hcores]

/-- What a pass checks is the same once it stands in the queue. -/
theorem PassEnters.matIssued {k : Core} {o : MatOp} {fa fb : Fmt} {anchor : Int} (h : PassEnters k o fa fb anchor) (p : MatOp) :
    PassEnters (k.matIssued p) o fa fb anchor :=
  ⟨h.kind, h.sound, h.check, h.formats, h.anchored, h.ready, h.tags⟩

/-- What a table of cores says of each core. -/
theorem State.core_of_cores {s t : State} {c : Nat} {k : Core} (hs : s.coresOk = true) (h : t.cores = (s.setCore c k).cores) :
    t.core c = k ∧ ∀ j, j ≠ c → t.core j = s.core j :=
  ⟨by rw [State.core_congr h, State.core_setCore hs], fun j hj => by rw [State.core_congr h, State.core_setCore_ne s k hj]⟩

/-- An MPASS issued to an engine with an empty queue enters the arrays. -/
theorem mpass_next {x : Fki} {s : State} {k : Core} {o : MatOp} {fa fb : Fmt} {anchor : Int} (hcore : s.core x.core = k)
    (ho : matOpAt k x .mpass = o) (hs : s.coresOk = true) (hq : k.mat.queue = []) (h : PassEnters k o fa fb anchor)
    (hi : s.issues x.core [x.b.toNat] [x.d.toNat, x.a.toNat] = true) (hc : x.c = 0) (him : x.imm.toNat < 2 ^ 30)
    (hd : x.d.toNat < 16) (ha : x.a.toNat < 16) :
    ∃ t, exec (.mpass x) s = .next t ∧ t.core x.core = (k.matIssued o).passStarted (passRun k o anchor fa fb) ∧
      ∀ c, c ≠ x.core → t.core c = s.core c := by
  have hok : (rsvOk [x.c.toNat, x.immBits 30 2] && decide (x.d.toNat < 16) && decide (x.a.toNat < 16)) = true := by
    simp [rsvOk, hc, hd, ha, Fki.immBits, bits_eq_zero 30 2 him]
  have hsound : x.hw = .none := by rw [← h.sound, ← ho]; rfl
  obtain ⟨u, hu, huc, he⟩ := matIssue_runs 2 hcore ho hs hi hq hok hsound
  have huok : u.coresOk = true := hu.coresOk.trans (State.coresOk_setCore hs _ _)
  have hset := (hu.setCore x.core ((k.matIssued o).passStarted (passRun k o anchor fa fb))).cores
  rw [State.setCore_setCore hs] at hset
  have hrun : (u.matAdvance x.core true 17).cores = (s.setCore x.core ((k.matIssued o).passStarted (passRun k o anchor fa fb))).cores := by
    rw [State.matAdvance_pass huok (by rw [huc]; rfl) (by rw [huc]; exact h.matIssued o), huc, passRun_matIssued, hset]
  exact ⟨_, he, State.core_of_cores hs ((State.flush_cores _).trans hrun)⟩

theorem exec_matrixPassStart (c waited : Nat) (s : State) : exec (.matrixPassStart c waited) s = execMatrixPassStart c waited s := rfl

/-- A pass that waited in the queue enters the arrays at its MATRIX_PASS_START. -/
theorem matrixPassStart_next {c : Nat} (waited : Nat) {s : State} {o : MatOp} {fa fb : Fmt} {anchor : Int} (hs : s.coresOk = true)
    (hr : s.matRuns c = true) (hq : (s.core c).mat.queue = [o]) (h : PassEnters (s.core c) o fa fb anchor) :
    ∃ t, exec (.matrixPassStart c waited) s = .next t ∧
      t.core c = (s.core c).passStarted (passRun (s.core c) o anchor fa fb) ∧ ∀ j, j ≠ c → t.core j = s.core j := by
  have hcount : (s.countN (Reg.pmcMat c 4) waited).core c = s.core c := State.core_congr (State.countN_cores _ _ _) c
  have hok : (s.countN (Reg.pmcMat c 4) waited).coresOk = true := (State.coresOk_congr (State.countN_cores _ _ _)).trans hs
  refine ⟨_, (exec_matrixPassStart _ _ _).trans (act_true ?_), State.core_of_cores hs ?_⟩
  · simp [hq, hr, h.kind, h.ready]
  · simp only [hq, State.flush_cores]
    rw [State.matAdvance_pass hok (by rw [hcount, hq]) (by rw [hcount]; exact h), hcount]
    rfl

/-- Settles O19: a lemma above for each instruction issued to an idle engine, and for the two ways a pass enters the arrays. A queued
pass takes the anchor its slot holds as it starts (`passAnchor`; the model's choice, log entry 93). -/
theorem matrixIssue : Obligations.MatrixIssue := by
  refine ⟨fun x s hw hs hr => ⟨?_, ?_, ?_, ?_, ?_⟩, ?_⟩
  · intro hi hd hc him ha o hk f hf
    exact mwld_answers rfl hw hs hr hi hd hc him ha hk hf
  · intro hi hc him hd ha hb hk
    exact manc_answers rfl hw hs hr hi hc him hd ha hb hk
  · intro hi ha hb hc him hd o hk
    exact mdrn_answers rfl hw hs hr hi ha hb hc him hd hk
  · intro hi hd hb hc him
    exact mmode_answers rfl hw hs hr hi hd hb hc him
  · intro hi ha hb hc him
    rw [← Core.setS_matTook]
    exact mrdmode_answers rfl hw hs hr hi ha hb hc him
  · intro x s fa fb anchor hw hs hp hdr hh k m o hkind hsound hk hf ha hv htag run
    have h : PassEnters k o fa fb anchor :=
      ⟨hkind, hsound, hk, hf, ha, Matrix.passReady_of_idle hv hh hdr, htag.imp id (Matrix.tagsMatch_of_tags hp)⟩
    obtain ⟨hop, hanchor, hmmw, hplane⟩ := passRun_keeps k o anchor fa fb
    refine ⟨⟨hop, hanchor, hmmw, hplane, fun hmode => passRun_rows hmode o anchor fa fb⟩, ?_, ?_⟩
    · rintro rfl hq hi hc him hd ha
      obtain ⟨t, ht, hself, hother⟩ := mpass_next rfl rfl hs hq h hi hc him hd ha
      exact ⟨t, ht, hself.trans (Core.passStarted_issued hp hq _ run), hother⟩
    · intro waited hq hrun
      obtain ⟨t, ht, hself, hother⟩ := matrixPassStart_next waited hs hrun hq h
      exact ⟨t, ht, hself.trans (Core.passStarted_queued hp hq run), hother⟩

end Sys2Proof.Machine

/-! PROOFS. Packets at a hop (R219-R226): the crossing of a bridge, and the port that would be its own bridge. -/

namespace Sys2Proof.Machine
open Sys2Proof

/-! ### Ports -/

theorem State.port_congr {s t : State} (h : t.fab = s.fab) (p : Nat) : t.port p = s.port p := by
  unfold State.port
  rw [h]

theorem State.portsOk_setPort {s : State} (h : s.portsOk = true) (p : Nat) (x : Port) : (s.setPort p x).portsOk = true :=
  Tab.wf_put (d := fun _ => Port.reset) p x h

theorem State.port_setPort {s : State} (h : s.portsOk = true) (p : Nat) (x : Port) : (s.setPort p x).port p = x :=
  Tab.get_put_self (d := fun _ => Port.reset) p x h

theorem State.port_setPort_ne (s : State) {p q : Nat} (x : Port) (h : q ≠ p) : (s.setPort p x).port q = s.port q :=
  Tab.get_put_ne _ _ _ h

/-- An event of a port touches the counters of its tile alone. -/
theorem State.portEvent_fab (s : State) (p ev n : Nat) : (s.portEvent p ev n).fab = s.fab := by
  unfold State.portEvent
  split
  · exact (Books.tileEvent s _ ev n (by omega)).fab
  · rfl

/-- The port a packet is taken from, with the packet's flits owed to the partner of a link (R219). -/
def Port.popped (x : Port) (p vc now : Nat) (r : RxPacket) : Port :=
  { x with rx := x.rx.modify vc (List.drop 1), headAt := x.headAt.set vc now,
           owed := if p < 12 then x.owed.modify vc (fun n => n + flitsIn r.packet) else x.owed }

theorem State.popHead_eq {s : State} {p vc : Nat} {r : RxPacket} (h : s.head p vc = some r) :
    s.popHead p vc = s.setPort p ((s.port p).popped p vc s.time.count r) := by
  simp only [State.popHead, h]
  rfl

/-! ### The bridge (R224) -/

/-- The packet as the bridge from a port's tile holds it: PLANE names the other tile. -/
def bridged (p : Nat) (r : RxPacket) : RxPacket := { r with packet := (r.packet.setField 86 2 (2 - tileOf p)).seal }

/-- A crossing takes the packet from its port and puts it into the bridge's buffer, in this order. -/
theorem State.cross_port {s : State} {p vc : Nat} {r : RxPacket} (hhead : s.head p vc = some r)
    (hroom : (s.port (13 + tileOf p)).hasRoom r.packet = true) (q : Nat) :
    (s.cross p vc r).port q = ((s.setPort p ((s.port p).popped p vc s.time.count r)).modPort (13 + tileOf p)
      (fun x => x.push (bridged p r).packet.vc s.time.count (bridged p r))).port q := by
  refine State.port_congr ?_ q
  simp only [State.cross, hroom, Bool.not_true, Bool.false_eq_true, if_false, State.portEvent_fab, State.count_fab,
    State.popHead_eq hhead]
  rfl

/-- Where the bridge is another port, the packet leaves the one buffer and enters the other. -/
theorem State.cross_rx {s : State} {p vc : Nat} {r : RxPacket} (hports : s.portsOk = true) (hhead : s.head p vc = some r)
    (hroom : (s.port (13 + tileOf p)).hasRoom r.packet = true) (hne : 13 + tileOf p ≠ p) :
    ((s.cross p vc r).port p).rx = (s.port p).rx.modify vc (List.drop 1) ∧
    ((s.cross p vc r).port (13 + tileOf p)).rx =
      (s.port (13 + tileOf p)).rx.modify (bridged p r).packet.vc (fun l => l ++ [bridged p r]) := by
  rw [State.cross_port hhead hroom, State.cross_port hhead hroom]
  unfold State.modPort
  rw [State.port_setPort_ne _ _ hne.symm, State.port_setPort hports, State.port_setPort (State.portsOk_setPort hports _ _),
    State.port_setPort_ne _ _ hne]
  exact ⟨rfl, rfl⟩

/-- Where the bridge is the port itself, the packet comes back to the buffers it has left. -/
theorem State.cross_rx_self {s : State} {p vc : Nat} {r : RxPacket} (hports : s.portsOk = true) (hhead : s.head p vc = some r)
    (hroom : (s.port (13 + tileOf p)).hasRoom r.packet = true) (hself : 13 + tileOf p = p) :
    ((s.cross p vc r).port p).rx =
      ((s.port p).rx.modify vc (List.drop 1)).modify (bridged p r).packet.vc (fun l => l ++ [bridged p r]) := by
  rw [State.cross_port hhead hroom, hself]
  unfold State.modPort
  rw [State.port_setPort (State.portsOk_setPort hports _ _), State.port_setPort hports]
  rfl

/-- One index alone is that of its own bridge, and no port of the module has it: those are 0 to 14. -/
theorem bridge_eq_port_iff (p : Nat) : 13 + tileOf p = p ↔ p = 15 := by
  unfold tileOf
  split
  · omega
  · split <;> omega

/-! ### A packet in transit to the other tile -/

theorem exec_transitPacket (p vc : Nat) (s : State) : exec (.transitPacket p vc) s = execTransitPacket p vc s := rfl

section Crossing

variable {p vc : Nat} {s : State} {r : RxPacket} (hstop : s.stops 0 = false) (hhead : s.head p vc = some r)
  (htransit : s.inTransit p r.packet = true) (hcross : s.crosses p r.packet = true)
include hstop hhead htransit hcross

theorem transitPacket_crosses : exec (.transitPacket p vc) s = .next (s.cross p vc r).flush := by
  refine (exec_transitPacket p vc s).trans ((actLive_true hstop ?_).trans ?_)
  · simp [hhead, htransit]
  · simp [hhead, htransit, hcross]

theorem transitPacket_crosses_port {t : State} (ht : exec (.transitPacket p vc) s = .next t) (q : Nat) :
    t.port q = (s.cross p vc r).port q := by
  rw [transitPacket_crosses hstop hhead htransit hcross] at ht
  injection ht with ht
  rw [← ht]
  exact State.port_congr (Books.flush _).fab q

/-- What O30 says of the two buffers holds of every port the module has. -/
theorem transitPacket_bridge_rx {t : State} (hports : s.portsOk = true) (hroom : (s.port (13 + tileOf p)).hasRoom r.packet = true)
    (hp : p < 15) (ht : exec (.transitPacket p vc) s = .next t) :
    (t.port p).rx = (s.port p).rx.modify vc (List.drop 1) ∧
    (t.port (13 + tileOf p)).rx =
      (s.port (13 + tileOf p)).rx.modify (bridged p r).packet.vc (fun l => l ++ [bridged p r]) := by
  have hne : 13 + tileOf p ≠ p := fun e => absurd ((bridge_eq_port_iff p).mp e) (by omega)
  have hport := transitPacket_crosses_port hstop hhead htransit hcross ht
  rw [hport, hport]
  exact State.cross_rx hports hhead hroom hne

end Crossing

/-! ### The counterexample -/

/-- A PUT to node 1, without payload. -/
def putToNode1 : RxPacket := { packet := { header := 1, payload := [] }, stampA := 0, stampB := 0 }

/-- Node 0 of a ring of two along x, its port 0 UP, with that packet in VC 0 of a port 15. -/
def sPort15 : State :=
  { State.reset.setReg (Reg.fabPortStat 0) 7 with
    fab := { Fabric.reset with
      latch := some { node := 0, xd := 2, yd := 1, zd := 1 }
      ports := [(15, { Port.reset with rx := [[putToNode1], [], [], [], [], [], [], []] })] } }

theorem sPort15_canonical : sPort15.regsOk = true ∧ sPort15.portsOk = true ∧ sPort15.stops 0 = false := by decide

theorem sPort15_crosses :
    sPort15.head 15 0 = some putToNode1 ∧ sPort15.inTransit 15 putToNode1.packet = true ∧
    sPort15.crosses 15 putToNode1.packet = true ∧ (sPort15.port (13 + tileOf 15)).hasRoom putToNode1.packet = true := by decide +kernel

theorem sPort15_rx : (sPort15.port 15).rx = [[putToNode1], [], [], [], [], [], [], []] := rfl

theorem bridged_putToNode1_vc : (bridged 15 putToNode1).packet.vc = 0 := by decide +kernel

/-- Refutes O30: nothing bounds the port of its clause on the bridge (log entry 23). At the index 15, which is on neither tile, the
bridge 13 + tileOf 15 is port 15 itself, so that the packet that crosses stands in the buffer it is said to have left. -/
theorem not_packetSwitching : ¬ Obligations.PacketSwitching := by
  intro h
  obtain ⟨hregs, hports, hstop⟩ := sPort15_canonical
  obtain ⟨hhead, htransit, hcross, hroom⟩ := sPort15_crosses
  obtain ⟨-, hheads, -⟩ := h 15 0 sPort15 hregs hports hstop
  obtain ⟨-, hbridge, -⟩ := (hheads putToNode1 hhead).1 htransit
  obtain ⟨t, ht, hleft, -⟩ := (hbridge hcross).2 hroom
  have hback := State.cross_rx_self hports hhead hroom ((bridge_eq_port_iff 15).mpr rfl)
  rw [← transitPacket_crosses_port hstop hhead htransit hcross ht, hleft, sPort15_rx, bridged_putToNode1_vc] at hback
  simp at hback

end Sys2Proof.Machine
